-- ==== Sys2Proof/Word.lean ====
section
/-! DEFINITION. The widths the manual uses: a byte, the 32-bit control word and the 16-bit bus address. -/

namespace Sys2Proof

/-- A byte of a record, of a row of the live window or of the management bus. -/
abbrev Byte := BitVec 8

/-- The 32-bit content of a tuning or fill frame (R22). -/
abbrev ControlWord := BitVec 32

/-- An address as the switch sees it (section 0.2). -/
abbrev BusAddr := BitVec 16

/-- A header, a leg record or a slot of the failure ring: 64 bytes (R161). -/
abbrev Page := Vector Byte 64

end Sys2Proof
end

