-- ==== Sys2Proof/Syntax.lean ====
section
/-! DEFINITION. The commands of the part: one constructor of Instr for each row of spec/opcode_table.json. -/

namespace Sys2Proof

/-- Side S faces the switch port, side C faces the copper (R1). -/
inductive Side where
  | s
  | c
deriving DecidableEq, Repr

/-- One of the eight lanes, by its switch-lane number (section 0.5). -/
abbrev Lane := Fin 8

/-- One of the eight leg records (R95). -/
abbrev LegId := Fin 8

/-- What the profile memory answers while the bridge addresses it for a read (R140): it acknowledges every byte, it is busy
and leaves the first address byte unacknowledged, or it leaves a later byte of a resync unacknowledged: the upper or the
lower byte of the word address, or the address byte with the read bit. -/
inductive MemAnswer where
  | acknowledged
  | busy
  | highRefused
  | lowRefused
  | readAddressRefused
deriving DecidableEq, Repr

/-- The address byte that follows a repeated START (R139): 0x54 with the read bit, 0x54 with the write bit, or another bus
address. -/
inductive RestartTarget where
  | read
  | write
  | otherAddress
deriving DecidableEq, Repr

/-- The byte of an agent chunk that the memory leaves unacknowledged (R144, R162, R167): its address byte, or the one sent
`k` bytes after the first that follows it. A chunk sends at most 66 bytes after its address byte: a word address and the 64
bytes of a page. -/
inductive NackAt where
  | addressByte
  | laterByte (k : Fin 66)
deriving DecidableEq, Repr

/-- A word-address byte of the switch, and whether the memory acknowledges it where it is forwarded (R139 step 2). -/
structure WordByte where
  value : Byte
  memAck : Bool
deriving DecidableEq, Repr

/-- The commands. A lane and a side name a path or an exchange as the manual does (R1); residuals are two's complement in
-64..63; `sentAt` is the instant of a signal event in microseconds (log 2). -/
inductive Instr where
  | powerOn
  | resetLineAssert
  | resetLineRelease
  | signalLost (lane : Lane) (side : Side) (sentAt : Nat)
  | signalRestored (lane : Lane) (side : Side) (sentAt : Nat)
  | measurementRecord (lane : Lane) (side : Side) (eye : BitVec 7) (preResidual postResidual : BitVec 7)
  | tuneFrameArrives (lane : Lane) (side : Side) (word : ControlWord)
  | fillFrameArrives (lane : Lane) (side : Side) (word : ControlWord)
  | invalidFrame (lane : Lane) (side : Side) (word : ControlWord)
  | frameIntervalStart (lane : Lane) (side : Side)
  | countZeroFrameEnd (lane : Lane) (side : Side)
  | frameSilenceExpiry (lane : Lane) (side : Side)
  | answerTimerExpiry (lane : Lane) (side : Side)
  | trainingBudgetExpiry (leg : LegId)
  | backoffExpiry (leg : LegId)
  | bridgeExpiry (leg : LegId)
  | cutExpiry (leg : LegId)
  | headClockTick
  | retrain (leg : LegId)
  | park (leg : LegId)
  | unpark (leg : LegId)
  | clear (leg : LegId)
  | reload
  | clearEventQueue
  | clearOverrun
  | clearAllLegCounters
  | advance
  | queueClearOverrun
  | acknowledge
  | setViewMode (value : Byte)
  | setViewLeg (value : Byte)
  | setFaultAttentionMask (value : Byte)
  | setEventAttentionMode (value : Byte)
  | setRolloverAttentionEnable (value : Byte)
  | liveWindowOtherWrite (addr : BusAddr) (value : Byte)
  | switchStart
  | bridgeTakesPort
  | writeAddressPhase (memAck : Bool)
  | addressNotForMemory
  | wordAddress (high low : WordByte)
  | memoryWriteByte (value : Byte) (memAck : Bool)
  | liveWindowWriteByte (value : Byte)
  | voidWriteByte (value : Byte)
  | currentAddressRead (answer : MemAnswer)
  | forwardedReadByte (value : Byte) (switchAck : Bool)
  | servedReadByte (switchAck : Bool)
  | repeatedStart (target : RestartTarget) (answer : MemAnswer)
  | transactionStop
  | abnormalEnd
  | busRecovery
  | agentTakesPort
  | headerChunk (bytes : Page)
  | legRecordChunk (bytes : Page)
  | ringSlotRead (bytes : Page)
  | chunkRetry
  | loadChunkTimeout
  | reloadLoadStart
  | recordWritten
  | failureRecordRetry
  | failureRecordTimeout
  | chunkNotAcknowledged (nackAt : NackAt)
deriving DecidableEq, Repr

end Sys2Proof
end

