-- ==== Sys2Proof/Decode.lean ====
section
/-! DEFINITION. Words and commands: no row of the opcode table has bits, so no word spells a command. -/

/-- The command that a word of `nbits` bits spells by the opcode table: none, whatever the word (log 5). -/
def Sys2Proof.decodeTableWord (_nbits _w : Nat) : Option Sys2Proof.Instr := none
end

