-- ==== Sys2Proof/Config.lean ====
section
/-! DEFINITION. The constants of the part and the one choice that the manual leaves free. -/

namespace Sys2Proof.Config

/-- Part code of the head status row (section 10.2). -/
def partCode : Byte := 0x8B

/-- Revision of the head status row (section 10.2). -/
def revision : Byte := 0x01

/-- Format code of a header (R161). -/
def formatCode : Byte := 0xB8

/-- Address byte of the profile memory, 0x54 with the write bit (section 0.4.1). -/
def addressWrite : Byte := 0xA8

/-- Address byte of the profile memory, 0x54 with the read bit (section 0.4.1). -/
def addressRead : Byte := 0xA9

/-- Frame-silence watch in microseconds (R34). -/
def silenceMicros : Nat := 640

/-- Answer timer in microseconds (R70). -/
def answerMicros : Nat := 1280

/-- Window of a memory-agent transfer from its first try, in microseconds (R162, R167). -/
def chunkWindowMicros : Nat := 20000

/-- Least spacing of accepted failure records in milliseconds (R166). -/
def recordSpacingMillis : Nat := 10000

/-- Most requests accepted in one exchange start (R66). -/
def requestCap : Nat := 96

/-- Capacity of the standing fault list (R153). -/
def faultCapacity : Nat := 16

/-- Capacity of the event queue (R156). -/
def eventCapacity : Nat := 32

/-- Capacity of the write buffer (R143). -/
def writeBufferCapacity : Nat := 16

/-- FREE VALUE (logs 7 and 8). R156: records queued by different blocks at the same instant join in either order. The
n-th such choice of order is this constant's value at n; nothing constrains it. -/
opaque freeOrder : Nat → Bool

end Sys2Proof.Config
end

