-- ==== Sys2Proof/Machine/State.lean ====
section
/-! DEFINITION. Everything the manual lets the part remember, as plain data, and the state right after power-on. -/

namespace Sys2Proof.Machine

/-- Why a command stops with a fault: never. Every fault the manual names is an entry of the standing fault list (R152), so
this type has no constructor. -/
inductive Fault where
deriving DecidableEq, Repr

/-- Why a command is refused. -/
inductive Refusal where
  /-- Raised by exec's arms alone, for a row of the opcode table that has no meaning yet; safe. -/
  | notModelled (mnemonic : String)
deriving DecidableEq, Repr

/-- A value for each side of a lane or of a leg. -/
structure Sides (α : Type) where
  s : α
  c : α
deriving DecidableEq, Repr

/-- Rate class (section 0.1). -/
inductive RateClass where
  | one
  | two
deriving DecidableEq, Repr

/-- A value for each rate class. -/
structure ByClass (α : Type) where
  one : α
  two : α
deriving DecidableEq, Repr

/-- A coefficient set in drive steps (R37). -/
structure Coef where
  pre : Nat
  main : Nat
  post : Nat
deriving DecidableEq, Repr

/-- The default start set (R97). -/
def Coef.initial : Coef := { pre := 4, main := 40, post := 10 }

/-- Loss action of a profile (R97). -/
inductive LossAction where
  | fault
  | quiet
deriving DecidableEq, Repr

/-- The active profile of a leg (R97); timer limits in the units of R97. -/
structure Profile where
  enable : Bool
  rate : RateClass
  reverse : Bool
  polarity : BitVec 4
  lossAction : LossAction
  budget : Nat
  bridge : Nat
  cut : Nat
  backoff : Nat
  retryLimit : Nat
  target : Nat
  minimum : Nat
  alarmLevel : Nat
  band : Nat
  ceiling : Nat
  floor : Nat
  start : ByClass (Sides Coef)
  equalizer : ByClass (Sides Nat)
deriving DecidableEq, Repr

/-- The default profile: the last column of R97's table. -/
def Profile.initial : Profile :=
  { enable := true, rate := .one, reverse := false, polarity := 0, lossAction := .fault, budget := 50, bridge := 40,
    cut := 25, backoff := 10, retryLimit := 5, target := 48, minimum := 24, alarmLevel := 30, band := 6, ceiling := 63,
    floor := 12, start := ⟨⟨.initial, .initial⟩, ⟨.initial, .initial⟩⟩, equalizer := ⟨⟨8, 8⟩, ⟨8, 8⟩⟩ }

/-- Head state (R162, R163). -/
inductive HeadState where
  | running
  | planBad
  | noMemory
  | loading
deriving DecidableEq, Repr

/-- Reset cause (R160). -/
inductive ResetCause where
  | power
  | line
  | reload
deriving DecidableEq, Repr

/-! ### Lane fabric -/

/-- Ownership and lane map of a slice, read by switch lane (R4, R8, R9), and the rate class of the slice (R1). -/
structure Slice where
  owner : Option LegId
  pair : Lane
  inverted : Bool
  rate : RateClass
deriving DecidableEq, Repr

/-- What a transmitter puts on the line (R3). `frame` is a frame in progress with its control word, `gap` is the time in
which neither a frame nor data is sent while the next frame interval is awaited (R18). -/
inductive LineOut where
  | quiet
  | frame (word : ControlWord)
  | data
  | gap
deriving DecidableEq, Repr

/-- A transmit path: the coefficient banks (R39), its output and the set in effect on the line (R3). -/
structure TxPath where
  inUse : Coef
  start : ByClass Coef
  learned : ByClass Coef
  learnedValid : ByClass Bool
  line : LineOut
  lineSet : Coef
deriving DecidableEq, Repr

/-- Phase of the eye monitor on a path (R128). -/
inductive EyePhase where
  | idle
  | priming
  | running
deriving DecidableEq, Repr

/-- The eye monitor's values for one receive path (R128). -/
structure EyeMonitor where
  phase : EyePhase
  acc : Nat
  current : Nat
  minimum : Nat
  maximum : Nat
  valid : Bool
  alarm : Bool
  run : Nat
deriving DecidableEq, Repr

/-- Values of R136. -/
def EyeMonitor.initial : EyeMonitor :=
  { phase := .idle, acc := 0, current := 0, minimum := 0, maximum := 0, valid := false, alarm := false, run := 0 }

/-- A receive path: signal flag (true is PRESENT), the equalizer start code last loaded (R2), and the eye monitor. -/
structure RxPath where
  signal : Bool
  eqCode : Nat
  eye : EyeMonitor
deriving DecidableEq, Repr

/-! ### Tuning engine -/

/-- The six lane states (section 1.4). -/
inductive LaneState where
  | quiet
  | listen
  | tune
  | ready
  | count
  | data
deriving DecidableEq, Repr

/-- Verdict of a receiver, on the wire and as the requester's mode (R22, R60). -/
inductive Verdict where
  | seeking
  | content
deriving DecidableEq, Repr

/-- The request tap field (R22). -/
inductive ReqTap where
  | none
  | pre
  | main
  | post
  | restart
deriving DecidableEq, Repr

/-- A tap that can be moved. -/
inductive Tap where
  | pre
  | main
  | post
deriving DecidableEq, Repr

/-- The outcome field (R22). -/
inductive AnswerOutcome where
  | none
  | applied
  | trimmed
  | held
deriving DecidableEq, Repr

/-- The limit field (R22). -/
inductive AnswerLimit where
  | none
  | tap
  | ceiling
  | floor
deriving DecidableEq, Repr

/-- An answer, given or received (R28, R29). -/
structure Answer where
  echo : BitVec 3
  applied : Int
  outcome : AnswerOutcome
  limit : AnswerLimit
deriving DecidableEq, Repr

/-- The answer with echo 0, applied 0, outcome NONE and limit NONE (R36). -/
def Answer.blank : Answer := { echo := 0, applied := 0, outcome := .none, limit := .none }

/-- A request of the requester (R60). -/
structure Request where
  tap : Tap
  delta : Int
  seq : BitVec 3
deriving DecidableEq, Repr

/-- Request phase (R60). -/
inductive ReqPhase where
  | idle
  | pending
  | outstanding
deriving DecidableEq, Repr

/-- The five exhaustion marks (R60). -/
structure Marks where
  prePlus : Bool
  preMinus : Bool
  mainPlus : Bool
  postPlus : Bool
  postMinus : Bool
deriving DecidableEq, Repr

/-- Taps received (R60). -/
structure TapsReceived where
  pre : Int
  main : Int
  post : Int
deriving DecidableEq, Repr

/-- The requester context (R60). `lastSeq` is the sequence of the last request made, 0 if none (R26); `firstFrame` holds
while the first frame that carries the request is being sent (R68). -/
structure Requester where
  mode : Verdict
  current : Option Request
  phase : ReqPhase
  firstFrame : Bool
  nextSeq : BitVec 3
  lastSeq : BitVec 3
  stale : Bool
  marks : Marks
  accepted : Nat
  taps : TapsReceived
  answerTimer : Option Nat
  lastReceived : Answer
deriving DecidableEq, Repr

/-- The values at entry to LISTEN (R60). -/
def Requester.initial : Requester :=
  { mode := .seeking, current := none, phase := .idle, firstFrame := false, nextSeq := 0, lastSeq := 0, stale := false,
    marks := ⟨false, false, false, false, false⟩, accepted := 0, taps := ⟨0, 0, 0⟩, answerTimer := none,
    lastReceived := .blank }

/-- Why a lane last returned to TUNE (R80). -/
inductive ReturnCause where
  | partnerRevert
  | ownReceiver
deriving DecidableEq, Repr

/-- Service order of a transmit path (R16). -/
inductive ServiceOrder where
  | data
  | standby
  | gap
  | fault
  | quiet
deriving DecidableEq, Repr

/-- An exchange: lane state, both contexts, handover state, watch, the four counters of R35, the service order held for its
transmit path, and the cause recorded at the lane's last return to TUNE (R80, log 32). -/
structure Exchange where
  lane : LaneState
  req : Requester
  lastAnswered : Option (BitVec 3)
  lastGiven : Answer
  warm : Bool
  partnerVerdict : Verdict
  ownCount : BitVec 4
  partnerCount : BitVec 4
  zeroSeen : Bool
  countEnded : Bool
  watch : Option Nat
  badFrames : Nat
  restarts : Nat
  made : Byte
  answered : Byte
  order : ServiceOrder
  returnCause : Option ReturnCause
deriving DecidableEq, Repr

/-- The exchange after power-on (R19, R35, R36, R41, R77). -/
def Exchange.initial : Exchange :=
  { lane := .quiet, req := .initial, lastAnswered := none, lastGiven := .blank, warm := false, partnerVerdict := .seeking,
    ownCount := 15, partnerCount := 15, zeroSeen := false, countEnded := false, watch := none, badFrames := 0, restarts := 0,
    made := 0, answered := 0, order := .quiet, returnCause := none }

/-! ### Leg supervisor -/

/-- The eight leg states (R95). -/
inductive LegState where
  | parked
  | waiting
  | training
  | up
  | held
  | lost
  | down
  | failed
deriving DecidableEq, Repr

/-- Reason of a lane failure (R74). -/
inductive LaneFailReason where
  | eyeShort
  | answerTimeout
  | frameSilence
deriving DecidableEq, Repr

/-- Last failure of a leg (R95, R105, R125). -/
inductive LastFailure where
  | none
  | budget
  | cut
  | lane (reason : LaneFailReason) (side : Side) (lane : Lane)
deriving DecidableEq, Repr

/-- The leg conditions a leg owns (R112, R135, R152): true while the condition holds. -/
structure LegConds where
  retryOut : Bool
  legCut : Bool
  sideFail : Bool
  trainTimeout : Bool
  profileBad : Bool
  marginLow : Bool
deriving DecidableEq, Repr

/-- A leg record (R95, R115). Timers hold their expiry instant while they run. -/
structure Leg where
  state : LegState
  width : Nat
  first : Nat
  profile : Profile
  source : Option Page
  clamped : Bool
  differs : Bool
  budget : Option Nat
  backoff : Option Nat
  bridge : Option Nat
  cut : Option Nat
  episode : Option Nat
  retry : Nat
  lastFailure : LastFailure
  glitch : BitVec 16
  lost : BitVec 16
  retrain : BitVec 16
  rollGlitch : Bool
  rollLost : Bool
  rollRetrain : Bool
  gap : Nat
  released : Sides Bool
  kept : Sides Bool
  conds : LegConds
deriving DecidableEq, Repr

/-- The leg record after power-on (R114); pending-differs is 1 because the source bytes are none (R98). -/
def Leg.initial : Leg :=
  { state := .parked, width := 0, first := 0, profile := .initial, source := none, clamped := false, differs := true,
    budget := none, backoff := none, bridge := none, cut := none, episode := none, retry := 0, lastFailure := .none,
    glitch := 0, lost := 0, retrain := 0, rollGlitch := false, rollLost := false, rollRetrain := false, gap := 0,
    released := ⟨false, false⟩, kept := ⟨false, false⟩, conds := ⟨false, false, false, false, false, false⟩ }

/-! ### Report unit -/

/-- The fault codes in order of severity (R152). -/
inductive FaultCode where
  | planBad
  | memoryFault
  | retryOut
  | legCut
  | sideFail
  | trainTimeout
  | profileBad
  | marginLow
deriving DecidableEq, Repr

/-- An entry of the standing fault list (R153); the owner `none` is the head. -/
structure FaultEntry where
  owner : Option LegId
  code : FaultCode
  active : Bool
  acked : Bool
  occurrences : Nat
  detail : Byte
  firstTime : BitVec 32
deriving DecidableEq, Repr

/-- Cause of a LEG_STATE event (R113, section 10.2). -/
inductive LegCause where
  | load
  | reload
  | unpark
  | retrain
  | park
  | backoff
  | allSignals
  | bothData
  | budget
  | laneFail
  | partnerRevert
  | signalLost
  | restored
  | bridge
  | cut
deriving DecidableEq, Repr

/-- An event record's kind with the fields of section 10.2. -/
inductive EventKind where
  | legState (before after : LegState) (cause : LegCause)
  | laneTuned (side : Side) (lane : Lane) (low : Bool) (eye : Nat) (taps : TapsReceived)
  | faultRaised (code : FaultCode) (notListed : Bool) (detail : Byte)
  | faultCleared (code : FaultCode) (detail : Byte)
  | faultLeft (code : FaultCode) (detail : Byte)
  | profileTaken (clamped : Bool)
  | profileRefused
  | recordWritten (slot : Fin 8) (serial : Nat)
  | recordSkipped
  | headLoaded (state : HeadState) (count : Byte)
deriving DecidableEq, Repr

/-- An event record (R156); the leg `none` is the head. -/
structure EventRecord where
  seq : Byte
  leg : Option LegId
  time : BitVec 32
  kind : EventKind
deriving DecidableEq, Repr

/-- Event attention mode (R149). -/
inductive EventMode where
  | off
  | any
  | half
deriving DecidableEq, Repr

/-- The report unit and the control bytes of row 0x4010 (R149, R152 to R160). -/
structure Report where
  headClock : BitVec 32
  planBad : Bool
  memoryFault : Bool
  faults : List FaultEntry
  listFull : Bool
  events : List EventRecord
  overrun : Bool
  nextSeq : Byte
  viewPinned : Bool
  viewLeg : LegId
  faultMask : Byte
  eventMode : EventMode
  rolloverEnable : Bool
  attention : Bool
deriving DecidableEq, Repr

/-- Values of R160 after power-on. -/
def Report.initial : Report :=
  { headClock := 0, planBad := false, memoryFault := false, faults := [], listFull := false, events := [], overrun := false,
    nextSeq := 0, viewPinned := false, viewLeg := 0, faultMask := 0, eventMode := .off, rolloverEnable := false,
    attention := false }

/-! ### Memory agent -/

/-- The steps of a load (R162); `awaitStart` is a reload's wait for a page write in progress (R164). -/
inductive LoadStage where
  | awaitStart
  | recovery
  | header
  | leg (n : LegId)
  | slot (k : Fin 8)
deriving DecidableEq, Repr

/-- A load in progress: its step, whether its chunk waits for the retry 1 ms later, the end of the chunk's 20 ms window once
it has been tried (R162), and the highest valid serial so far with its slot (R165). -/
structure Load where
  stage : LoadStage
  retryWait : Bool
  window : Option Nat
  best : Option (Nat × Fin 8)
deriving DecidableEq, Repr

/-- An accepted failure record (R161, R166): its contents without serial and check, whether it waits for the retry 1 ms
later, and the end of its 20 ms window once it has been tried (R167). -/
structure FailureRecord where
  leg : LegId
  time : BitVec 32
  cause : FaultCode
  before : LegState
  rate : RateClass
  taps : List Byte
  eyes : List Byte
  glitch : BitVec 16
  lost : BitVec 16
  skipped : Nat
  retryWait : Bool
  window : Option Nat
deriving DecidableEq, Repr

/-- The memory agent (R162 to R167). `spacing` is the number of milliseconds before a request is accepted again (log 12). -/
structure Agent where
  load : Option Load
  records : List FailureRecord
  spacing : Nat
  skipped : Nat
  nextSlot : Fin 8
  nextSerial : Nat
deriving DecidableEq, Repr

/-- The agent after power-on with the load's first step before it. -/
def Agent.initial : Agent :=
  { load := some { stage := .recovery, retryWait := false, window := none, best := none }, records := [], spacing := 0,
    skipped := 0, nextSlot := 0, nextSerial := 1 }

/-! ### Management bridge -/

/-- What the agent does while it holds the memory-side port (R144, R146). -/
inductive AgentJob where
  | recovery
  | loadChunk
  | record
deriving DecidableEq, Repr

/-- The owner of the memory-side port (R144): bridge and agent never hold it both. -/
inductive Port where
  | free
  | bridge
  | agent (job : AgentJob)
deriving DecidableEq, Repr

/-- Where the switch transaction stands: `none` in progress; `held`, START seen and the switch clock held low (R144);
`address`, the address byte awaited; `wordAddress`, the two word-address bytes awaited; the data phases by space; a
forwarded or a served read; `readDone`, a read that the switch has ended by a NACK. -/
inductive TxnPhase where
  | none
  | held
  | address
  | wordAddress
  | writeMemory
  | writeLive
  | writeVoid
  | readForwarded
  | readServed
  | readDone
deriving DecidableEq, Repr

/-- The switch transaction: phase, whether it has carried a reload command (R145), the write buffer (R143) and the row
snapshot (R141). -/
structure Txn where
  phase : TxnPhase
  runOn : Bool
  buffer : List (BusAddr × Byte)
  snapshot : Option (BitVec 12 × List Byte)
deriving DecidableEq, Repr

/-- No switch transaction. -/
def Txn.initial : Txn := { phase := .none, runOn := false, buffer := [], snapshot := none }

/-- The last answer on the switch-side port (R137 to R141). -/
inductive SwitchAnswer where
  | nothing
  | ack
  | nack
  | data (value : Byte)
deriving DecidableEq, Repr

/-- One action on the memory-side port (R139, R140, R162, R167); `ack` and `nack` answer a byte the memory drove. -/
inductive MemAct where
  | start
  | send (value : Byte)
  | ack
  | nack
  | clocks
  | stop
deriving DecidableEq, Repr

/-- The management bridge (R137 to R146). -/
structure Bridge where
  combined : BusAddr
  mirror : Option (BitVec 14)
  port : Port
  memOpen : Bool
  txn : Txn
  toSwitch : SwitchAnswer
  toMemory : List MemAct
deriving DecidableEq, Repr

/-- The bridge after power-on (R138). -/
def Bridge.initial : Bridge :=
  { combined := 0, mirror := none, port := .free, memOpen := false, txn := .initial, toSwitch := .nothing, toMemory := [] }

/-! ### The whole part -/

/-- The state of the part and the queue of waiting commands. -/
structure State where
  resetHeld : Bool
  now : Nat
  head : HeadState
  resetCause : ResetCause
  loadCount : Byte
  slices : Vector Slice 8
  tx : Vector (Sides TxPath) 8
  rx : Vector (Sides RxPath) 8
  ex : Vector (Sides Exchange) 8
  legs : Vector Leg 8
  report : Report
  pendingHeader : Page
  pendingLegs : Vector Page 8
  agent : Agent
  bridge : Bridge
  freeCount : Nat
  pending : List Instr
deriving DecidableEq, Repr

/-- Slice `j` owned by no leg, paired with itself, class 1 (R19). -/
def Slice.initial (j : Lane) : Slice := { owner := none, pair := j, inverted := false, rate := .one }

/-- A transmit path after power-on (R58); line and line set as logs 6 and 21 say. -/
def TxPath.initial : TxPath :=
  { inUse := .initial, start := ⟨.initial, .initial⟩, learned := ⟨.initial, .initial⟩, learnedValid := ⟨false, false⟩,
    line := .quiet, lineSet := .initial }

/-- A receive path after power-on (R19, R136); equalizer code as log 6 says. -/
def RxPath.initial : RxPath := { signal := false, eqCode := 8, eye := .initial }

/-- The part right after power-on (R19): every piece of state at its reset value, the load about to begin with its bus
recovery (R162), and no command waiting. -/
def State.reset : State :=
  { resetHeld := false, now := 0, head := .loading, resetCause := .power, loadCount := 0,
    slices := #v[.initial 0, .initial 1, .initial 2, .initial 3, .initial 4, .initial 5, .initial 6, .initial 7],
    tx := Vector.replicate 8 ⟨.initial, .initial⟩, rx := Vector.replicate 8 ⟨.initial, .initial⟩,
    ex := Vector.replicate 8 ⟨.initial, .initial⟩, legs := Vector.replicate 8 .initial, report := .initial,
    pendingHeader := Vector.replicate 64 0, pendingLegs := Vector.replicate 8 (Vector.replicate 64 0),
    agent := .initial, bridge := .initial, freeCount := 0, pending := [] }

end Sys2Proof.Machine
end

