-- ==== Sys2Proof/Machine/Frame.lean ====
section
/-! DEFINITION. The control word: its fields and codes (R22), the check, validity (R23), and the words the part sends. -/

namespace Sys2Proof.Machine

/-- The fields of a TUNE control word (R22). -/
structure TuneFields where
  tap : ReqTap
  delta : Int
  seq : BitVec 3
  echo : BitVec 3
  applied : Int
  outcome : AnswerOutcome
  limit : AnswerLimit
  verdict : Verdict
  count : BitVec 4
deriving DecidableEq, Repr

/-- The fill reasons (R22). -/
inductive FillReason where
  | standby
  | gap
  | fault
deriving DecidableEq, Repr

/-- A valid frame (R23). -/
inductive Frame where
  | tune (fields : TuneFields)
  | fill (reason : FillReason)
deriving DecidableEq, Repr

/-! ### Codes of R22 -/

def ReqTap.code : ReqTap → BitVec 3
  | .none => 0 | .pre => 1 | .main => 2 | .post => 3 | .restart => 4

def ReqTap.ofCode (c : BitVec 3) : Option ReqTap :=
  if c = 0 then some .none else if c = 1 then some .pre else if c = 2 then some .main
  else if c = 3 then some .post else if c = 4 then some .restart else none

def AnswerOutcome.code : AnswerOutcome → BitVec 2
  | .none => 0 | .applied => 1 | .trimmed => 2 | .held => 3

def AnswerOutcome.ofCode (c : BitVec 2) : AnswerOutcome :=
  if c = 0 then .none else if c = 1 then .applied else if c = 2 then .trimmed else .held

def AnswerLimit.code : AnswerLimit → BitVec 2
  | .none => 0 | .tap => 1 | .ceiling => 2 | .floor => 3

def AnswerLimit.ofCode (c : BitVec 2) : AnswerLimit :=
  if c = 0 then .none else if c = 1 then .tap else if c = 2 then .ceiling else .floor

def Verdict.code : Verdict → BitVec 1
  | .seeking => 0 | .content => 1

def Verdict.ofCode (c : BitVec 1) : Verdict := if c = 0 then .seeking else .content

def FillReason.code : FillReason → BitVec 2
  | .standby => 1 | .gap => 2 | .fault => 3

def FillReason.ofCode (c : BitVec 2) : Option FillReason :=
  if c = 1 then some .standby else if c = 2 then some .gap else if c = 3 then some .fault else none

/-- A signed delta in three-bit two's complement (R22). -/
def deltaCode (d : Int) : BitVec 3 := BitVec.ofInt 3 d

/-- The delta of a code; code 4 stands for -4 and is invalid (R22). -/
def deltaOfCode (c : BitVec 3) : Option Int := if c = 4 then none else some c.toInt

/-- Counts 7..0 and 15 are valid, 8 to 14 are not (R22). -/
def countOfCode (c : BitVec 4) : Option (BitVec 4) := if 8 ≤ c.toNat ∧ c.toNat ≤ 14 then none else some c

/-! ### Check -/

/-- The sum of the seven nibbles above the check, modulo 16 (R22). -/
def bodySum (body : BitVec 28) : BitVec 4 :=
  body.extractLsb' 24 4 + body.extractLsb' 20 4 + body.extractLsb' 16 4 + body.extractLsb' 12 4 + body.extractLsb' 8 4
    + body.extractLsb' 4 4 + body.extractLsb' 0 4

/-- The body followed by the check that makes the eight nibbles sum to 0 modulo 16 (R22). -/
def withCheck (body : BitVec 28) : ControlWord := body ++ (-(bodySum body))

/-- The check of a received word holds (R23). -/
def checkHolds (w : ControlWord) : Bool := bodySum (w.extractLsb' 4 28) + w.extractLsb' 0 4 == 0

/-! ### Composing and reading a word -/

/-- The body of a TUNE word, bits 31 to 4 (R22). -/
def tuneBody (f : TuneFields) : BitVec 28 :=
  1#2 ++ f.tap.code ++ deltaCode f.delta ++ f.seq ++ f.echo ++ deltaCode f.applied ++ f.outcome.code ++ f.limit.code
    ++ f.verdict.code ++ f.count ++ 0#2

/-- A TUNE word with pad 0 (R22). -/
def tuneWord (f : TuneFields) : ControlWord := withCheck (tuneBody f)

/-- A FILL word, 0 in every field but kind, reason and check (R32). -/
def fillWord (r : FillReason) : ControlWord := withCheck (2#2 ++ 0#24 ++ r.code)

/-- The fields of a TUNE word, where none of them carries an invalid code (R23); the pad is ignored. -/
def readTune (w : ControlWord) : Option TuneFields :=
  match ReqTap.ofCode (w.extractLsb' 27 3), deltaOfCode (w.extractLsb' 24 3), deltaOfCode (w.extractLsb' 15 3),
      countOfCode (w.extractLsb' 6 4) with
  | some tap, some delta, some applied, some count =>
    some { tap, delta, seq := w.extractLsb' 21 3, echo := w.extractLsb' 18 3, applied,
           outcome := AnswerOutcome.ofCode (w.extractLsb' 13 2), limit := AnswerLimit.ofCode (w.extractLsb' 11 2),
           verdict := Verdict.ofCode (w.extractLsb' 10 1), count }
  | _, _, _, _ => none

/-- A received control word: the frame it carries when it is valid, `none` when it is not (R23). -/
def readWord (w : ControlWord) : Option Frame :=
  if checkHolds w then
    if w.extractLsb' 30 2 = 1 then (readTune w).map .tune
    else if w.extractLsb' 30 2 = 2 then (FillReason.ofCode (w.extractLsb' 4 2)).map .fill
    else none
  else none

/-- The fields that a TUNE word can carry: deltas in -3..3, count 0..7 or 15 (R22). -/
def TuneFields.sendable (f : TuneFields) : Bool :=
  (decide (-3 ≤ f.delta ∧ f.delta ≤ 3) && decide (-3 ≤ f.applied ∧ f.applied ≤ 3))
    && (decide (f.count.toNat ≤ 7) || f.count == 15)

/-- The word is a valid TUNE word (R23). -/
def isTuneWord (w : ControlWord) : Bool :=
  match readWord w with
  | some (.tune _) => true
  | _ => false

/-- The word is a valid FILL word (R23). -/
def isFillWord (w : ControlWord) : Bool :=
  match readWord w with
  | some (.fill _) => true
  | _ => false

end Sys2Proof.Machine
end

