-- ==== Sys2Proof/Machine/Operands.lean ====
section
/-! DEFINITION. The operand forms: how a path, an exchange, a leg, an address and a stored byte are named and found, and
how a leg record's bytes become a profile. -/

namespace Sys2Proof.Machine

/-! ### Sides, classes, lanes -/

def Sides.get {α : Type} (p : Sides α) : Side → α
  | .s => p.s
  | .c => p.c

def Sides.set {α : Type} (p : Sides α) (x : Side) (v : α) : Sides α :=
  match x with
  | .s => { p with s := v }
  | .c => { p with c := v }

def ByClass.get {α : Type} (p : ByClass α) : RateClass → α
  | .one => p.one
  | .two => p.two

def ByClass.set {α : Type} (p : ByClass α) (r : RateClass) (v : α) : ByClass α :=
  match r with
  | .one => { p with one := v }
  | .two => { p with two := v }

end Sys2Proof.Machine

/-- The opposite side (section 0.6). -/
def Sys2Proof.Side.opposite : Sys2Proof.Side → Sys2Proof.Side
  | .s => .c
  | .c => .s

namespace Sys2Proof.Machine

/-- The eight lanes in order. -/
def allLanes : List Lane := [0, 1, 2, 3, 4, 5, 6, 7]

/-- The eight legs in order. -/
def allLegs : List LegId := [0, 1, 2, 3, 4, 5, 6, 7]

/-- Both sides. -/
def bothSides : List Side := [.s, .c]

/-! ### Reading the state by the manual's names -/

/-- Slice record of lane `i`: its owner, pairing, inversion and rate class. -/
def State.slice (s : State) (i : Lane) : Slice := s.slices[i]

/-- The slice whose paths lane `i` side `x` uses (R1, R8). -/
def State.phys (s : State) (i : Lane) : Side → Lane
  | .s => i
  | .c => (s.slice i).pair

/-- The exchange of lane `i` side `x`. -/
def State.exch (s : State) (i : Lane) (x : Side) : Exchange := (s.ex[i]).get x

/-- The transmit path of lane `i` side `x` (R39). -/
def State.txPath (s : State) (i : Lane) (x : Side) : TxPath := (s.tx[s.phys i x]).get x

/-- The receive path of lane `i` side `x` (R1). -/
def State.rxPath (s : State) (i : Lane) (x : Side) : RxPath := (s.rx[s.phys i x]).get x

/-- The leg record `n`. -/
def State.leg (s : State) (n : LegId) : Leg := s.legs[n]

/-- The leg that owns lane `i`, if any (R1, R7). -/
def State.owner (s : State) (i : Lane) : Option LegId := (s.slice i).owner

/-- The lane state of lane `i` side `x`. -/
def State.laneState (s : State) (i : Lane) (x : Side) : LaneState := (s.exch i x).lane

/-- The lanes a leg owns, in order; none while no leg owns a slice (R4, R7). -/
def State.legLanes (s : State) (n : LegId) : List Lane := allLanes.filter fun i => s.owner i == some n

/-- A leg exists under the plan in force (R4, R5, R163). -/
def State.legExists (s : State) (n : LegId) : Bool := s.head == .running && (s.leg n).width != 0

/-- The profile in force for lane `i`: its leg's, or the defaults while no leg owns it (R37). -/
def State.profileAt (s : State) (i : Lane) : Profile :=
  match s.owner i with
  | some n => (s.leg n).profile
  | none => .initial

/-- The working class of lane `i` (R39). -/
def State.workingClass (s : State) (i : Lane) : RateClass := (s.profileAt i).rate

/-- The live window takes commands: not while loading, not while the reset input is asserted (R145, R146, R148). -/
def State.windowOpen (s : State) : Bool := s.head != .loading && !s.resetHeld

/-! ### Updating the state by the manual's names -/

def State.setExch (s : State) (i : Lane) (x : Side) (e : Exchange) : State :=
  { s with ex := s.ex.set i.val ((s.ex[i]).set x e) i.isLt }

def State.modExch (s : State) (i : Lane) (x : Side) (f : Exchange → Exchange) : State := s.setExch i x (f (s.exch i x))

def State.setTxAt (s : State) (j : Lane) (x : Side) (t : TxPath) : State :=
  { s with tx := s.tx.set j.val ((s.tx[j]).set x t) j.isLt }

def State.modTx (s : State) (i : Lane) (x : Side) (f : TxPath → TxPath) : State :=
  s.setTxAt (s.phys i x) x (f (s.txPath i x))

def State.setRxAt (s : State) (j : Lane) (x : Side) (r : RxPath) : State :=
  { s with rx := s.rx.set j.val ((s.rx[j]).set x r) j.isLt }

def State.modRx (s : State) (i : Lane) (x : Side) (f : RxPath → RxPath) : State :=
  s.setRxAt (s.phys i x) x (f (s.rxPath i x))

def State.setLeg (s : State) (n : LegId) (l : Leg) : State := { s with legs := s.legs.set n.val l n.isLt }

def State.modLeg (s : State) (n : LegId) (f : Leg → Leg) : State := s.setLeg n (f (s.leg n))

def State.setSlice (s : State) (i : Lane) (d : Slice) : State := { s with slices := s.slices.set i.val d i.isLt }

/-- `f` at each lane of a list in turn. -/
def State.onLanes (s : State) (lanes : List Lane) (f : Lane → State → State) : State := lanes.foldl (fun t i => f i t) s

/-- `f` at each of the sixteen exchanges of the lanes listed, lane by lane, side S first. -/
def State.onExchanges (s : State) (lanes : List Lane) (f : Lane → Side → State → State) : State :=
  s.onLanes lanes fun i t => f i .c (f i .s t)

/-! ### The instant of an event (log 2) -/

/-- The model's time is the latest instant a command has told. -/
def State.reach (s : State) (instant : Nat) : State := { s with now := max s.now instant }

/-! ### Addresses (R138, R142) -/

/-- The three spaces (R138). -/
inductive Space where
  | memory
  | live
  | void
deriving DecidableEq, Repr

def spaceOf (a : BusAddr) : Space :=
  if a.toNat < 0x4000 then .memory else if a.toNat < 0x4400 then .live else .void

/-- The write wrap of the memory: the low six bits advance and the upper bits stay (R137). -/
def pageNext {w : Nat} (a : BitVec w) : BitVec w :=
  BitVec.ofNat w (a.toNat / 64 * 64 + (a.toNat + 1) % 64)

/-- The combined pointer after a byte read (R138). -/
def nextRead (a : BusAddr) : BusAddr :=
  match spaceOf a with
  | .memory => if a = 0x3FFF then 0x0000 else a + 1
  | .live => if a = 0x43FF then 0x4000 else a + 1
  | .void => if a = 0xFFFF then 0x4400 else a + 1

/-- The combined pointer after a byte written (R138). -/
def nextWrite (a : BusAddr) : BusAddr :=
  match spaceOf a with
  | .memory => pageNext a
  | .live => nextRead a
  | .void => nextRead a

/-- The memory's own pointer for a word address: modulo 0x4000 (R137). -/
def memoryPointer (a : BusAddr) : BitVec 14 := a.extractLsb' 0 14

/-- Bytes of a value, least significant first (section 0.5). -/
def littleEndian : Nat → Nat → List Byte
  | 0, _ => []
  | k + 1, v => BitVec.ofNat 8 v :: littleEndian k (v / 256)

/-- Where a memory-space byte is mirrored (R142): the pending header, or a leg's pending record, with the offset. -/
inductive Mirrored where
  | header (offset : Fin 64)
  | leg (n : LegId) (offset : Fin 64)
  | nowhere
deriving DecidableEq, Repr

def mirroredAt (a : BusAddr) : Mirrored :=
  let offset : Fin 64 := ⟨a.toNat % 64, Nat.mod_lt _ (by decide)⟩
  if a.toNat < 0x40 then .header offset
  else if h : a.toNat / 64 - 1 < 8 then .leg ⟨a.toNat / 64 - 1, h⟩ offset
  else .nowhere

/-! ### Stored records (R97, R161) -/

/-- The byte at an offset of a record. -/
def pageByte (p : Page) (k : Nat) : Nat := (p.toList.getD k 0).toNat

/-- The 64 bytes sum to 0 modulo 256 (R161). -/
def checkByteHolds (p : Page) : Bool := (p.toList.map BitVec.toNat).sum % 256 == 0

/-- A value kept in a range: below it the bottom, above it the top. -/
def clampRange (lo hi v : Nat) : Nat := max lo (min hi v)

/-- The three stored taps from an offset. -/
def storedTaps (p : Page) (k : Nat) : Coef := ⟨pageByte p k, pageByte p (k + 1), pageByte p (k + 2)⟩

/-- The clamp of stored taps into the tap ranges (R54). -/
def clampTaps (t : Coef) : Coef := ⟨min 15 t.pre, clampRange 20 60 t.main, min 23 t.post⟩

/-- The ceiling repair (R55): post, then pre, then main, each only as far as needed. -/
def ceilingRepair (c : Nat) (t : Coef) : Coef :=
  if t.pre + t.main + t.post ≤ c then t
  else
    let post := c - t.main - t.pre
    if t.pre + t.main + post ≤ c then ⟨t.pre, t.main, post⟩
    else
      let pre := c - t.main - post
      if pre + t.main + post ≤ c then ⟨pre, t.main, post⟩ else ⟨pre, c - pre - post, post⟩

/-- The floor repair (R56): post, then pre, then main, stopping as soon as the difference is at least F. -/
def floorRepair (f : Nat) (t : Coef) : Coef :=
  if f + t.pre + t.post ≤ t.main then t
  else
    let post := t.main - t.pre - f
    if f + t.pre + post ≤ t.main then ⟨t.pre, t.main, post⟩
    else
      let pre := t.main - post - f
      if f + pre + post ≤ t.main then ⟨pre, t.main, post⟩ else ⟨pre, f, post⟩

/-- A start set from three stored taps under ceiling `c` and floor `f` (R54 to R56). -/
def repairSet (c f : Nat) (t : Coef) : Coef := floorRepair f (ceilingRepair c (clampTaps t))

/-- A set is feasible under ceiling `c` and floor `f` (R38). -/
def Coef.feasible (c f : Nat) (t : Coef) : Bool :=
  decide (t.pre ≤ 15) && decide (20 ≤ t.main) && decide (t.main ≤ 60) && decide (t.post ≤ 23)
    && decide (t.pre + t.main + t.post ≤ c) && decide (f + t.pre + t.post ≤ t.main)

/-- 0 becomes 1 (R97). -/
def atLeastOne (v : Nat) : Nat := max 1 v

/-- The target eye of a record (R61). -/
def recordTarget (p : Page) : Nat := min 127 (pageByte p 10)

/-- The minimum eye of a record: at most 127, and then at most the target (R61). -/
def recordMinimum (p : Page) : Nat := min (recordTarget p) (min 127 (pageByte p 11))

/-- The ceiling of a record (R37, R97). -/
def recordCeiling (p : Page) : Nat := clampRange 40 63 (pageByte p 14)

/-- The floor of a record (R37, R97). -/
def recordFloor (p : Page) : Nat := clampRange 4 30 (pageByte p 15)

/-- Offset of the start taps of a class and side (R161). -/
def startOffset : RateClass → Side → Nat
  | .one, .s => 16
  | .one, .c => 19
  | .two, .s => 22
  | .two, .c => 25

/-- The start set of a class and side of a record (R54). -/
def recordStart (p : Page) (r : RateClass) (x : Side) : Coef :=
  repairSet (recordCeiling p) (recordFloor p) (storedTaps p (startOffset r x))

/-- The equalizer start code at an offset (R97). -/
def recordEqualizer (p : Page) (k : Nat) : Nat := min 15 (pageByte p k)

/-- The profile a leg record gives, each value clamped into its range (R97). -/
def profileOf (p : Page) : Profile :=
  { enable := pageByte p 0 != 0
    rate := if pageByte p 1 ≤ 1 then .one else .two
    reverse := pageByte p 2 != 0
    polarity := BitVec.ofNat 4 (pageByte p 3)
    lossAction := if pageByte p 4 = 0 then .fault else .quiet
    bridge := atLeastOne (pageByte p 5)
    cut := atLeastOne (pageByte p 6)
    budget := atLeastOne (pageByte p 7)
    backoff := atLeastOne (pageByte p 8)
    retryLimit := min 15 (pageByte p 9)
    target := recordTarget p
    minimum := recordMinimum p
    alarmLevel := min 127 (pageByte p 12)
    band := clampRange 1 31 (pageByte p 13)
    ceiling := recordCeiling p
    floor := recordFloor p
    start := ⟨⟨recordStart p .one .s, recordStart p .one .c⟩, ⟨recordStart p .two .s, recordStart p .two .c⟩⟩
    equalizer := ⟨⟨recordEqualizer p 28, recordEqualizer p 29⟩, ⟨recordEqualizer p 30, recordEqualizer p 31⟩⟩ }

/-- Some value of the record was replaced by the clamps of R97 (the polarity mask apart) or some start tap was altered
(R57, R99 step 3). -/
def recordClamped (p : Page) : Bool :=
  decide (1 < pageByte p 0) || decide (pageByte p 1 = 0 ∨ 2 < pageByte p 1) || decide (1 < pageByte p 2)
    || decide (1 < pageByte p 4) || decide (pageByte p 5 = 0) || decide (pageByte p 6 = 0) || decide (pageByte p 7 = 0)
    || decide (pageByte p 8 = 0) || decide (15 < pageByte p 9) || pageByte p 10 != recordTarget p
    || pageByte p 11 != recordMinimum p || decide (127 < pageByte p 12) || pageByte p 13 != clampRange 1 31 (pageByte p 13)
    || pageByte p 14 != recordCeiling p || pageByte p 15 != recordFloor p
    || recordStart p .one .s != storedTaps p 16 || recordStart p .one .c != storedTaps p 19
    || recordStart p .two .s != storedTaps p 22 || recordStart p .two .c != storedTaps p 25
    || decide (15 < pageByte p 28) || decide (15 < pageByte p 29) || decide (15 < pageByte p 30)
    || decide (15 < pageByte p 31)

/-! ### The fan plan (R4) -/

/-- The width byte of leg `n` in a header (R161). -/
def headerWidth (p : Page) (n : LegId) : Nat := pageByte p (1 + n.val)

/-- The first lane dealt to leg `n`: the lanes of the legs before it are taken (R4). -/
def dealtFirst (p : Page) (n : LegId) : Nat := ((allLegs.take n.val).map (headerWidth p)).sum

/-- The four conditions of R4's table. -/
def planValid (p : Page) : Bool :=
  (allLegs.all fun n =>
      (headerWidth p n == 0 || headerWidth p n == 1 || headerWidth p n == 2 || headerWidth p n == 4)
        && (headerWidth p n != 2 || dealtFirst p n % 2 == 0)
        && (headerWidth p n != 4 || dealtFirst p n == 0 || dealtFirst p n == 4))
    && decide ((allLegs.map (headerWidth p)).sum ≤ 8)

/-- The header is accepted: its check holds and it carries the format code (R161, R163). -/
def headerAccepted (p : Page) : Bool := checkByteHolds p && BitVec.ofNat 8 (pageByte p 0) == Config.formatCode

end Sys2Proof.Machine
end

