-- ==== Sys2Proof/Machine/Flags.lean ====
section
/-! DEFINITION. The flags the manual derives from other state: side status, pending-differs, learned valid, the fault list's
and the event queue's flags, and the attention line. -/

namespace Sys2Proof.Machine

/-! ### Side status (R81) -/

/-- The six values of R81. -/
inductive SideStatus where
  | quiet
  | listening
  | tuning
  | data
  | gated
  | counting
deriving DecidableEq, Repr

/-- The status of side `x` of leg `n`: none where the leg does not exist, else the first row of R81's table whose condition
holds. From a reload's start to its load's end a leg of the old plan owns no slice, and both its sides are QUIET (R94). -/
def State.sideStatus (s : State) (n : LegId) (x : Side) : Option SideStatus :=
  let states := (s.legLanes n).map fun i => s.laneState i x
  if (s.leg n).width = 0 then none
  else if states.isEmpty || states.any (· == .quiet) then some .quiet
  else if states.any (· == .listen) then some .listening
  else if states.any (· == .tune) then some .tuning
  else if states.all (· == .data) then some .data
  else if states.any (· == .ready) && !(s.leg n).released.get x then some .gated
  else some .counting

/-- A status that lets the opposite side be released (R84). -/
def SideStatus.letsRelease : SideStatus → Bool
  | .gated => true
  | .counting => true
  | .data => true
  | _ => false

/-- Both sides of leg `n` are DATA (R104). -/
def State.bothData (s : State) (n : LegId) : Bool := s.sideStatus n .s == some .data && s.sideStatus n .c == some .data

/-- No lane of either side of leg `n` is in LISTEN or QUIET, and the leg has a lane (R102). -/
def State.allPastListen (s : State) (n : LegId) : Bool :=
  !(s.legLanes n).isEmpty
    && (s.legLanes n).all fun i => bothSides.all fun x => s.laneState i x != .listen && s.laneState i x != .quiet

/-- Some receive path of side `x` of leg `n` has its signal flag ABSENT (R17, R115). -/
def State.sideLost (s : State) (n : LegId) (x : Side) : Bool := (s.legLanes n).any fun i => !(s.rxPath i x).signal

/-- Some receive path of leg `n` has an alarm set (R135). -/
def State.anyAlarm (s : State) (n : LegId) : Bool :=
  (s.legLanes n).any fun i => bothSides.any fun x => (s.rxPath i x).eye.alarm

/-! ### Leg row flags -/

/-- Pending-differs (R98): the pending copy differs from the active source bytes, or these are none. -/
def pendingDiffers (pending : Page) (source : Option Page) : Bool := source != some pending

/-- The leg's learned valid flag (R43): set on every transmit path of a leg that has paths (log 15). -/
def State.learnedValidFlag (s : State) (n : LegId) : Bool :=
  !(s.legLanes n).isEmpty
    && (s.legLanes n).all fun i => bothSides.all fun x => (s.txPath i x).learnedValid.get (s.leg n).profile.rate

/-! ### Output levels (R53) -/

def Coef.peak (t : Coef) : Nat := t.pre + t.main + t.post

def Coef.lowFrequency (t : Coef) : Int := (t.main : Int) - t.pre - t.post

/-! ### Fault list (R152 to R155) -/

/-- The code numbers of R152. -/
def FaultCode.number : FaultCode → Nat
  | .planBad => 1
  | .memoryFault => 2
  | .retryOut => 3
  | .legCut => 4
  | .sideFail => 5
  | .trainTimeout => 6
  | .profileBad => 7
  | .marginLow => 8

/-- The worst standing code: the lowest code of any ACTIVE entry, 0 when there is none (R152). -/
def worstCode (faults : List FaultEntry) : Nat :=
  faults.foldl (fun w e => if e.active && (w == 0 || decide (e.code.number < w)) then e.code.number else w) 0

/-- The shown entry: the oldest unacknowledged one (R155). -/
def shownEntry (faults : List FaultEntry) : Option FaultEntry := faults.find? fun e => !e.acked

/-! ### Event queue (R156) and attention (R159) -/

/-- The half flag (R156). -/
def Report.half (r : Report) : Bool := decide (16 ≤ r.events.length)

/-- The mask bit of a fault code (section 10.2, row 0x4010). -/
def Report.masked (r : Report) (c : FaultCode) : Bool := r.faultMask.getLsbD (c.number - 1)

/-- Some rollover flag of the leg is 1 (R159). -/
def Leg.anyRollover (l : Leg) : Bool := l.rollGlitch || l.rollLost || l.rollRetrain

/-- The five conditions of R159. -/
def State.attentionDue (s : State) : Bool :=
  (s.report.faults.any fun e => !e.acked && !s.report.masked e.code)
    || (s.report.eventMode == .any && !s.report.events.isEmpty)
    || (s.report.eventMode == .half && s.report.half)
    || (s.report.eventMode != .off && s.report.overrun)
    || (s.report.rolloverEnable && allLegs.any fun n => (s.leg n).anyRollover)

/-- The attention line derived afresh (R159). -/
def State.deriveAttention (s : State) : State := { s with report := { s.report with attention := s.attentionDue } }

/-- A choice of order the manual leaves free (log 7): the one numbered by the counter, which then advances. -/
def State.inEitherOrder (s : State) (f g : State → State) : State :=
  let t := { s with freeCount := s.freeCount + 1 }
  if Config.freeOrder s.freeCount then f (g t) else g (f t)

end Sys2Proof.Machine
end

