-- ==== Sys2Proof/Machine/Ops.lean ====
section
/-! DEFINITION. The shared operations of the report unit and of the leg records: event records, raises and ends of fault
conditions, leg counters. -/

namespace Sys2Proof.Machine

/-! ### Event queue (R156) -/

/-- A record joins at the tail with the next sequence and the head clock; a full queue loses its oldest record and sets the
overrun flag. -/
def State.queueEvent (s : State) (leg : Option LegId) (kind : EventKind) : State :=
  let r := s.report
  let record : EventRecord := { seq := r.nextSeq, leg, time := r.headClock, kind }
  let full := decide (Config.eventCapacity ≤ r.events.length)
  State.deriveAttention
    { s with report := { r with events := (if full then r.events.tail else r.events) ++ [record]
                                overrun := r.overrun || full, nextSeq := r.nextSeq + 1 } }

/-- A LEG_STATE record (R113). -/
def State.queueLegState (s : State) (n : LegId) (before after : LegState) (cause : LegCause) : State :=
  s.queueEvent (some n) (.legState before after cause)

/-! ### Conditions and their owners (R152) -/

def LegConds.get (c : LegConds) : FaultCode → Bool
  | .retryOut => c.retryOut
  | .legCut => c.legCut
  | .sideFail => c.sideFail
  | .trainTimeout => c.trainTimeout
  | .profileBad => c.profileBad
  | .marginLow => c.marginLow
  | .planBad => false
  | .memoryFault => false

def LegConds.set (c : LegConds) (code : FaultCode) (b : Bool) : LegConds :=
  match code with
  | .retryOut => { c with retryOut := b }
  | .legCut => { c with legCut := b }
  | .sideFail => { c with sideFail := b }
  | .trainTimeout => { c with trainTimeout := b }
  | .profileBad => { c with profileBad := b }
  | .marginLow => { c with marginLow := b }
  | .planBad => c
  | .memoryFault => c

/-- The condition of a code holds for its owner; the owner `none` is the head. -/
def State.condition (s : State) (owner : Option LegId) (code : FaultCode) : Bool :=
  match owner with
  | some n => (s.leg n).conds.get code
  | none =>
    match code with
    | .planBad => s.report.planBad
    | .memoryFault => s.report.memoryFault
    | _ => false

def State.setCondition (s : State) (owner : Option LegId) (code : FaultCode) (b : Bool) : State :=
  match owner with
  | some n => s.modLeg n fun l => { l with conds := l.conds.set code b }
  | none =>
    match code with
    | .planBad => { s with report := { s.report with planBad := b } }
    | .memoryFault => { s with report := { s.report with memoryFault := b } }
    | _ => s

/-! ### Standing fault list (R153, R154) -/

/-- The entry belongs to this owner and code. -/
def FaultEntry.isOf (e : FaultEntry) (owner : Option LegId) (code : FaultCode) : Bool := e.owner == owner && e.code == code

/-- An entry raised again: ACTIVE, unacknowledged, one more occurrence, the new detail (R153). -/
def FaultEntry.reraised (e : FaultEntry) (detail : Byte) : FaultEntry :=
  { e with occurrences := min 255 (e.occurrences + 1), active := true, acked := false, detail }

/-- The entry of a raise that finds none (R153). -/
def FaultEntry.fresh (owner : Option LegId) (code : FaultCode) (detail : Byte) (time : BitVec 32) : FaultEntry :=
  { owner, code, active := true, acked := false, occurrences := 1, detail, firstTime := time }

/-- The list after a raise (R153). -/
def raiseIn (faults : List FaultEntry) (owner : Option LegId) (code : FaultCode) (detail : Byte) (time : BitVec 32) :
    List FaultEntry :=
  if faults.any (·.isOf owner code) then faults.map fun e => if e.isOf owner code then e.reraised detail else e
  else if faults.length < Config.faultCapacity then faults ++ [.fresh owner code detail time]
  else faults

/-- The raise finds no entry and no room (R153). -/
def notListed (faults : List FaultEntry) (owner : Option LegId) (code : FaultCode) : Bool :=
  !(faults.any (·.isOf owner code)) && decide (Config.faultCapacity ≤ faults.length)

/-- A raise of (owner, code): its condition holds, the list takes it, and FAULT_RAISED is queued (R153). -/
def State.raiseFault (s : State) (owner : Option LegId) (code : FaultCode) (detail : Byte) : State :=
  let t := s.setCondition owner code true
  let r := t.report
  let missed := notListed r.faults owner code
  State.queueEvent
    { t with report := { r with faults := raiseIn r.faults owner code detail r.headClock, listFull := r.listFull || missed } }
    owner (.faultRaised code missed detail)

/-- The list after the end of a condition: the entry is CLEARED, and leaves if it is acknowledged (R154). -/
def endIn (faults : List FaultEntry) (owner : Option LegId) (code : FaultCode) : List FaultEntry :=
  (faults.filter fun e => !(e.isOf owner code && e.acked)).map fun e =>
    if e.isOf owner code then { e with active := false } else e

/-- The end of a condition that holds (R154): with an entry, FAULT_CLEARED, and FAULT_LEFT after it where the entry was
acknowledged. A condition that does not hold is not changed (R112). -/
def State.endCondition (s : State) (owner : Option LegId) (code : FaultCode) : State :=
  if s.condition owner code then
    let t := s.setCondition owner code false
    match t.report.faults.find? (·.isOf owner code) with
    | none => t
    | some e =>
      let u := State.queueEvent
        { t with report := { t.report with faults := endIn t.report.faults owner code
                                           listFull := t.report.listFull && !e.acked } }
        owner (.faultCleared code e.detail)
      if e.acked then u.queueEvent owner (.faultLeft code e.detail) else u
  else s

/-! ### Leg counters (R111) -/

/-- The glitch count rises by 1 and sets its rollover flag at the wrap. -/
def State.countGlitch (s : State) (n : LegId) : State :=
  (s.modLeg n fun l =>
    { l with glitch := l.glitch + 1, rollGlitch := l.rollGlitch || l.glitch == 0xFFFF }).deriveAttention

/-- The lost count rises by 1 and sets its rollover flag at the wrap. -/
def State.countLost (s : State) (n : LegId) : State :=
  (s.modLeg n fun l => { l with lost := l.lost + 1, rollLost := l.rollLost || l.lost == 0xFFFF }).deriveAttention

/-- The retrain count rises by 1 and sets its rollover flag at the wrap. -/
def State.countRetrain (s : State) (n : LegId) : State :=
  (s.modLeg n fun l =>
    { l with retrain := l.retrain + 1, rollRetrain := l.rollRetrain || l.retrain == 0xFFFF }).deriveAttention

/-! ### Release flags and kept marks (R17, R85) -/

/-- The release flag of side `x` of the leg that owns lane `i` is cleared (R85). -/
def State.clearRelease (s : State) (i : Lane) (x : Side) : State :=
  match s.owner i with
  | some n => s.modLeg n fun l => { l with released := l.released.set x false }
  | none => s

/-- The kept mark of side `x` of the leg that owns lane `i` is cleared (R17). -/
def State.clearKept (s : State) (i : Lane) (x : Side) : State :=
  match s.owner i with
  | some n => s.modLeg n fun l => { l with kept := l.kept.set x false }
  | none => s

/-! ### Codes of section 10.2 -/

def LaneFailReason.code : LaneFailReason → Nat
  | .eyeShort => 3
  | .answerTimeout => 4
  | .frameSilence => 5

/-- A failure as the leg row and the detail byte carry it: bits 6-4 cause, bit 3 side, bits 2-0 lane. -/
def LastFailure.byte : LastFailure → Byte
  | .none => 0x00
  | .budget => 0x10
  | .cut => 0x20
  | .lane reason x i => BitVec.ofNat 8 (16 * reason.code + (match x with | .s => 0 | .c => 8) + i.val)

end Sys2Proof.Machine
end

