-- ==== Sys2Proof/Machine/Lanes.lean ====
section
/-! DEFINITION. The moves of one lane on one side between the six lane states (R12 to R14, R36, R40, R42, R80, R86, R88),
what its transmitter then does with its service order (R16, R18), and the eye monitor's entry to and exit from DATA. -/

namespace Sys2Proof.Machine

/-! ### Leaving service -/

/-- The path's eye values at the exit from DATA (R133): IDLE, not valid, alarm clear, run 0, the rest kept. -/
def EyeMonitor.leave (m : EyeMonitor) : EyeMonitor := { m with phase := .idle, valid := false, alarm := false, run := 0 }

/-- A transmitter stops following its service order: data stops at once, a frame in progress is sent whole (R18, log 21). -/
def LineOut.stopService : LineOut → LineOut
  | .data => .gap
  | other => other

/-- What a lane's move out of DATA does outside its exchange: the eye path goes IDLE (R133) and the side's kept mark is
cleared (R17). -/
def State.leaveData (s : State) (i : Lane) (x : Side) : State :=
  (s.modRx i x fun r => { r with eye := r.eye.leave }).clearKept i x

/-- Lane `i` side `x` stops following its service order, and leaves DATA if it is there. -/
def State.leaveService (s : State) (i : Lane) (x : Side) : State :=
  let t := s.modTx i x fun p => { p with line := p.line.stopService }
  if s.laneState i x = .data then t.leaveData i x else t

/-! ### Entries to LISTEN and QUIET -/

/-- The exchange frame state, requester and responder contexts at entry to LISTEN (R36, R41, R60); the counters are kept. -/
def Exchange.listenAfresh (e : Exchange) (warm : Bool) : Exchange :=
  { e with lane := .listen, req := .initial, lastAnswered := none, lastGiven := .blank, warm, partnerVerdict := .seeking,
           ownCount := 15, partnerCount := 15, zeroSeen := false, countEnded := false, watch := none }

/-- The exchange at the quiet order: contexts not kept, the values shown kept for display (R12, R41, R60, R94). -/
def Exchange.quieted (e : Exchange) : Exchange :=
  { e with lane := .quiet, req := { Requester.initial with lastReceived := e.req.lastReceived }, lastAnswered := none,
           partnerVerdict := .seeking, ownCount := 15, partnerCount := 15, zeroSeen := false, countEnded := false,
           watch := none }

/-- The in-use set at entry to LISTEN: the learned set of the working class where it is valid, else its start set (R40). -/
def TxPath.loadSet (p : TxPath) (r : RateClass) : TxPath :=
  { p with inUse := if p.learnedValid.get r then p.learned.get r else p.start.get r }

/-- Entry to LISTEN, whatever the cause: in-use set loaded (R40), equalizer loaded (R2), exchange reset (R36, R41, R60),
release flag of the side cleared (R85). -/
def State.enterListen (s : State) (i : Lane) (x : Side) : State :=
  let t := (s.leaveService i x).clearRelease i x
  let prof := t.profileAt i
  let warm := (t.txPath i x).learnedValid.get prof.rate
  let u := t.modTx i x fun p => p.loadSet prof.rate
  let v := u.modRx i x fun r => { r with eqCode := (prof.equalizer.get prof.rate).get x }
  v.modExch i x fun e => e.listenAfresh warm

/-- The quiet order to one lane and side (R12): the transmitter stops at once, a frame in progress is cut off. -/
def State.enterQuiet (s : State) (i : Lane) (x : Side) : State :=
  let t := (s.leaveService i x).clearRelease i x
  let u := t.modTx i x fun p => { p with line := .quiet }
  u.modExch i x Exchange.quieted

/-! ### TUNE, READY, COUNT, DATA -/

/-- The frame-silence watch is started (R34). -/
def State.startWatch (s : State) (i : Lane) (x : Side) : State :=
  s.modExch i x fun e => { e with watch := some (s.now + Config.silenceMicros) }

/-- Entry to TUNE from LISTEN, the exchange start (R13, R34). -/
def State.enterTune (s : State) (i : Lane) (x : Side) : State :=
  (s.modExch i x fun e => { e with lane := .tune }).startWatch i x

/-- Entry to READY (R78): watch, contexts, own count and banks as they are. -/
def State.enterReady (s : State) (i : Lane) (x : Side) : State := s.modExch i x fun e => { e with lane := .ready }

/-- Return to TUNE from READY, COUNT or DATA (R80, R90, R91): own count 15, partner zero seen cleared, release flag of the
side cleared; the watch is started from COUNT and DATA and runs on from READY (R34). R80's table records the cause of a
return from READY; that one from COUNT or DATA records its cause too, and that it stands until the lane's next return, is the
model's choice (log 32). -/
def State.returnToTune (s : State) (i : Lane) (x : Side) (cause : ReturnCause) : State :=
  let t := (s.leaveService i x).clearRelease i x
  let u := t.modExch i x fun e =>
    { e with lane := .tune, ownCount := 15, zeroSeen := false, countEnded := false, returnCause := some cause }
  if s.laneState i x = .ready then u else u.startWatch i x

/-- Entry to COUNT (R86): the watch stops, and a partner count of 0 just recorded sets partner zero seen. -/
def State.enterCount (s : State) (i : Lane) (x : Side) : State :=
  s.modExch i x fun e =>
    { e with lane := .count, watch := none, zeroSeen := e.partnerCount == 0, countEnded := false }

/-- The in-use set is copied into the learned set of the working class and marked valid (R42). -/
def TxPath.learn (p : TxPath) (r : RateClass) : TxPath :=
  { p with learned := p.learned.set r p.inUse, learnedValid := p.learnedValid.set r true }

/-- Entry to DATA (R88): learned set written (R42), eye path PRIMING (R129). -/
def State.enterData (s : State) (i : Lane) (x : Side) : State :=
  let t := s.modTx i x fun p => p.learn (s.workingClass i)
  let u := t.modRx i x fun r => { r with eye := { r.eye with phase := .priming, valid := false, run := 0 } }
  u.modExch i x fun e => { e with lane := .data }

/-- A lane in COUNT enters DATA once its count-0 frame has ended and partner zero is seen (R88). -/
def State.dataIfBoth (s : State) (i : Lane) (x : Side) : State :=
  if (s.exch i x).countEnded && (s.exch i x).zeroSeen then s.enterData i x else s

/-! ### Service orders (R16, R18) -/

/-- The order of the transmit path of lane `i` side `x` of leg `n`, by R16's table. -/
def State.orderFor (s : State) (n : LegId) (i : Lane) (x : Side) : ServiceOrder :=
  match (s.leg n).state with
  | .waiting => .standby
  | .training => .standby
  | .up => .data
  | .held => if (s.rxPath i x.opposite).signal then .data else .gap
  | .lost =>
    if (s.leg n).kept.get x then
      match (s.leg n).profile.lossAction with
      | .fault => .fault
      | .quiet => .quiet
    else .standby
  | .parked => .quiet
  | .down => .quiet
  | .failed => .quiet

/-- The transmitter follows its service order: in DATA, and in COUNT after count 0 (R16). -/
def Exchange.inService (e : Exchange) : Bool := e.lane == .data || (e.lane == .count && e.countEnded)

/-- What a change of order does on the line (R18): QUIET at once; DATA at once, or at the end of the fill frame in progress;
a fill order stops data at once and begins at the next frame interval. -/
def LineOut.obey (line : LineOut) (order : ServiceOrder) : LineOut :=
  match order, line with
  | .quiet, _ => .quiet
  | .data, .frame w => .frame w
  | .data, _ => .data
  | _, .data => .gap
  | _, other => other

/-- The service order of one path is derived afresh and reaches the line as the change requires (R16, R18). -/
def State.deriveOrder (s : State) (n : LegId) (i : Lane) (x : Side) : State :=
  let order := s.orderFor n i x
  let t := s.modExch i x fun e => { e with order }
  if (s.exch i x).inService then t.modTx i x fun p => { p with line := p.line.obey order } else t

/-- The service orders of a leg are derived afresh (R16). -/
def State.deriveOrders (s : State) (n : LegId) : State := s.onExchanges (s.legLanes n) fun i x t => t.deriveOrder n i x

end Sys2Proof.Machine
end

