-- ==== Sys2Proof/Machine/Supervisor.lean ====
section
/-! DEFINITION. The leg supervisor: lane reports and the release gate (chapter 5), boundaries and the profile take
(chapter 6), failed attempts and failure records, loss episodes (chapter 7), the leg commands. -/

namespace Sys2Proof.Machine

/-! ### The margin condition (R135) -/

/-- MARGIN_LOW begins with the first alarm of the leg and ends with the last. -/
def State.marginCheck (s : State) (n : LegId) : State :=
  if s.anyAlarm n then
    if s.condition (some n) .marginLow then s else s.raiseFault (some n) .marginLow 0
  else s.endCondition (some n) .marginLow

/-! ### The release gate and the attempt (R84, R102, R104) -/

/-- Both sides are tested against the statuses as they stand, so two GATED sides are released together (R84). -/
def State.releaseTest (s : State) (n : LegId) : State :=
  let opens (x : Side) : Bool := s.sideStatus n x == some .gated && (s.sideStatus n x.opposite).any SideStatus.letsRelease
  if (s.leg n).state = .training ∨ (s.leg n).state = .lost then
    s.modLeg n fun l =>
      { l with released := ⟨l.released.s || opens .s, l.released.c || opens .c⟩ }
  else s

/-- The restart counts of the leg's exchanges become 0 (R35, R102). -/
def State.zeroRestarts (s : State) (n : LegId) : State :=
  s.onExchanges (s.legLanes n) fun i x t => t.modExch i x fun e => { e with restarts := 0 }

/-- Entry to TRAINING: budget started, restart counts 0, LEG_STATE queued (R102, R92). -/
def State.enterTraining (s : State) (n : LegId) (cause : LegCause) : State :=
  let before := (s.leg n).state
  let t := s.modLeg n fun l => { l with state := .training, budget := some (s.now + 10000 * l.profile.budget) }
  (t.zeroRestarts n).queueLegState n before .training cause

/-- A WAITING leg with no lane in LISTEN or QUIET enters TRAINING (R102). -/
def State.trainingTest (s : State) (n : LegId) : State :=
  if (s.leg n).state = .waiting && s.allPastListen n then s.enterTraining n .allSignals else s

/-- The conditions that an entry to UP or a park ends (R104, R109), in the order of the rules' text. -/
def State.endAttemptConditions (s : State) (n : LegId) : State :=
  ((s.endCondition (some n) .trainTimeout).endCondition (some n) .sideFail).endCondition (some n) .legCut

/-- Entry to UP from TRAINING or LOST (R104, R124). -/
def State.enterUp (s : State) (n : LegId) : State :=
  let before := (s.leg n).state
  let t := s.modLeg n fun l =>
    { l with state := .up, budget := none, cut := none, retry := 0, episode := none
             kept := if before = .lost then ⟨false, false⟩ else l.kept }
  (t.endAttemptConditions n).queueLegState n before .up .bothData

/-- A leg in TRAINING or LOST whose both sides are DATA enters UP (R104, R124). -/
def State.upTest (s : State) (n : LegId) : State :=
  if ((s.leg n).state = .training ∨ (s.leg n).state = .lost) ∧ s.bothData n = true then s.enterUp n else s

/-- What the supervisor does at a report of a lane-state change from a lane of the leg (R82): the tests of R102, R84 and
R104, the service orders (R16) and the margin condition (R135). -/
def State.laneReport (s : State) (n : LegId) : State :=
  ((((s.trainingTest n).releaseTest n).upTest n).deriveOrders n).marginCheck n

/-- The report goes to the leg that owns the lane. -/
def State.reportLane (s : State) (i : Lane) : State :=
  match s.owner i with
  | some n => s.laneReport n
  | none => s

/-! ### Profile take (R99, R100) and boundaries (R101) -/

/-- The outcome of a take (R99). -/
inductive TakeResult where
  | skipped
  | refused
  | taken
deriving DecidableEq, Repr

/-- R99's first table. -/
def State.takeCase (s : State) (n : LegId) : TakeResult :=
  if (s.leg n).source = some s.pendingLegs[n] then .skipped
  else if checkByteHolds s.pendingLegs[n] then .taken else .refused

/-- The cable lane of lane `i` of a leg (R8). -/
def pairedLane (l : Leg) (i : Lane) : Lane :=
  if l.profile.reverse then Fin.ofNat 8 (l.first + (l.width - 1 - (i.val - l.first))) else i

/-- Lane map, polarity and rate class of the active profile are applied to the leg's slices (R8, R9, R10). -/
def State.applyMap (s : State) (n : LegId) : State :=
  let l := s.leg n
  s.onLanes (s.legLanes n) fun i t =>
    t.setSlice i { t.slice i with pair := pairedLane l i, inverted := l.profile.polarity.getLsbD (i.val - l.first)
                                  rate := l.profile.rate }

/-- The start sets of the active profile become those of one transmit path (R54). -/
def State.giveStarts (s : State) (n : LegId) (i : Lane) (x : Side) : State :=
  let starts := (s.leg n).profile.start
  s.modTx i x fun p => { p with start := ⟨starts.one.get x, starts.two.get x⟩ }

/-- Both learned sets of a transmit path are invalidated (R43). -/
def TxPath.forget (p : TxPath) : TxPath := { p with learnedValid := ⟨false, false⟩ }

/-- The learned sets of lane `i` side `x` are invalidated (R43). -/
def State.forgetLearned (s : State) (i : Lane) (x : Side) : State := s.modTx i x TxPath.forget

/-- The pending-differs flag is derived afresh (R98). -/
def State.refreshDiffers (s : State) (n : LegId) : State :=
  s.modLeg n fun l => { l with differs := pendingDiffers s.pendingLegs[n] l.source }

/-- Learned sets, start sets and lane map of a leg under the profile just made active (R43, R54, R99 step 4). -/
def State.installProfile (s : State) (n : LegId) : State :=
  let t := s.applyMap n
  t.onExchanges (t.legLanes n) fun i x u => (u.giveStarts n i x).forgetLearned i x

/-- The take of a record that is taken (R99 steps 1 to 5). -/
def State.makeActive (s : State) (n : LegId) : State :=
  let page := s.pendingLegs[n]
  let prof := profileOf page
  let t := s.modLeg n fun l =>
    { l with source := some page, profile := prof, clamped := recordClamped page
             retry := if prof.retryLimit < 15 then min l.retry prof.retryLimit else l.retry }
  (t.installProfile n).refreshDiffers n

/-- The take of R99 with its case. -/
def State.take (s : State) (n : LegId) : State :=
  match s.takeCase n with
  | .taken => s.makeActive n
  | .skipped => (s.applyMap n).refreshDiffers n
  | .refused => (s.applyMap n).refreshDiffers n

/-- What a take reports (R100). -/
def State.reportTake (s : State) (n : LegId) (result : TakeResult) : State :=
  match result with
  | .taken => (s.queueEvent (some n) (.profileTaken (s.leg n).clamped)).endCondition (some n) .profileBad
  | .refused => (s.queueEvent (some n) .profileRefused).raiseFault (some n) .profileBad 0
  | .skipped => s.endCondition (some n) .profileBad

/-- Every leg timer stopped, release flags and kept marks cleared, no loss episode (R101 step 1, R109). -/
def Leg.standDown (l : Leg) : Leg :=
  { l with budget := none, backoff := none, bridge := none, cut := none, episode := none, released := ⟨false, false⟩
           kept := ⟨false, false⟩ }

/-- The lanes of a leg stop following their service orders, by the lane map still in force. -/
def State.legLeavesService (s : State) (n : LegId) : State :=
  s.onExchanges (s.legLanes n) fun i x t => t.leaveService i x

/-- The start order to every lane of a leg (R12). -/
def State.startLeg (s : State) (n : LegId) : State := s.onExchanges (s.legLanes n) fun i x t => t.enterListen i x

/-- The quiet order to every lane of a leg (R12). -/
def State.quietLeg (s : State) (n : LegId) : State := s.onExchanges (s.legLanes n) fun i x t => t.enterQuiet i x

/-- A boundary that takes the leg to WAITING (R101): retrain, unpark, backoff expiry. -/
def State.boundary (s : State) (n : LegId) (cause : LegCause) : State :=
  let before := (s.leg n).state
  let t := (s.legLeavesService n).modLeg n fun l => { l.standDown with state := .waiting }
  let result := t.takeCase n
  let u := ((t.take n).startLeg n).deriveOrders n
  ((u.queueLegState n before .waiting cause).reportTake n result).marginCheck n

/-! ### Failure records (R161, R166) -/

/-- The in-use taps of a set as stored bytes. -/
def Coef.bytes (t : Coef) : List Byte := [BitVec.ofNat 8 t.pre, BitVec.ofNat 8 t.main, BitVec.ofNat 8 t.post]

/-- Bytes filled up with 0 to a length: lanes at or above the leg's width are written as 0 (R161). -/
def padTo (k : Nat) (bytes : List Byte) : List Byte := (bytes ++ List.replicate k 0).take k

/-- The contents of a failure record taken at the instant of the request (R161, R166). -/
def State.recordContents (s : State) (n : LegId) (cause : FaultCode) (before : LegState) : FailureRecord :=
  let l := s.leg n
  { leg := n, time := s.report.headClock, cause, before, rate := l.profile.rate
    taps := padTo 24 ((s.legLanes n).flatMap fun i => (s.txPath i .s).inUse.bytes ++ (s.txPath i .c).inUse.bytes)
    eyes := padTo 8 ((s.legLanes n).flatMap fun i =>
      [BitVec.ofNat 8 (s.rxPath i .s).eye.minimum, BitVec.ofNat 8 (s.rxPath i .c).eye.minimum])
    glitch := l.glitch, lost := l.lost, skipped := s.agent.skipped, retryWait := false, window := none }

/-- A request for a failure record: accepted with its contents, or skipped, counted and reported, within 10 000 ms of the
last accepted one (R166). -/
def State.requestRecord (s : State) (n : LegId) (cause : FaultCode) (before : LegState) : State :=
  if s.agent.spacing = 0 then
    { s with agent := { s.agent with records := s.agent.records ++ [s.recordContents n cause before]
                                     spacing := Config.recordSpacingMillis } }
  else
    State.queueEvent { s with agent := { s.agent with skipped := min 255 (s.agent.skipped + 1) } } (some n) .recordSkipped

/-! ### Failed attempts (R105, R106, R125) -/

/-- The backoff in microseconds: base times 2 to the min(count - 1, 4), in units of 10 ms (R106). -/
def backoffMicros (base count : Nat) : Nat := 10000 * (base * 2 ^ min (count - 1) 4)

/-- The leg enters FAILED rather than DOWN (R106 step 2). -/
def Leg.retriesOut (l : Leg) : Bool :=
  decide (l.profile.retryLimit < 15) && decide (l.profile.retryLimit ≤ min 15 (l.retry + 1))

/-- The leg record at an entry to DOWN or FAILED (R106). -/
def Leg.afterFailure (l : Leg) (failure : LastFailure) (now : Nat) : Leg :=
  let count := min 15 (l.retry + 1)
  if l.retriesOut then { l.standDown with state := .failed, retry := l.profile.retryLimit, lastFailure := failure }
  else
    { l.standDown with state := .down, retry := count, lastFailure := failure
                       backoff := some (now + backoffMicros l.profile.backoff count) }

/-- What the supervisor queues at an entry to DOWN or FAILED (R113, R135): LEG_STATE, the failure's fault, RETRY_OUT where
the leg failed, then the end of the margin condition. -/
def State.reportFailure (s : State) (n : LegId) (before : LegState) (cause : LegCause) (code : FaultCode)
    (failure : LastFailure) : State :=
  let detail : Byte := if code = .sideFail then failure.byte else 0
  let t := (s.queueLegState n before (s.leg n).state cause).raiseFault (some n) code detail
  let u := if (s.leg n).state = .failed then t.raiseFault (some n) .retryOut 0 else t
  u.marginCheck n

/-- The record request and the supervisor's report of one failure. A skipped request queues RECORD_SKIPPED, which another
block queues at the same instant, so the order is free (R156, log 7); that it joins before or after the supervisor's records
of the failure together, and never between two of them, is the model's choice (log 35). An accepted request queues nothing. -/
def State.askAndReport (s : State) (n : LegId) (recordCause : FaultCode) (before : LegState) (report : State → State) : State :=
  if s.agent.spacing = 0 then report (s.requestRecord n recordCause before)
  else s.inEitherOrder report (·.requestRecord n recordCause before)

/-- An attempt or a recovery that has failed (R105, R106, R125): retry counted, lanes quiet, reported, and one failure record
asked for at a cut and at an entry to FAILED (R166). -/
def State.failAttempt (s : State) (n : LegId) (cause : LegCause) (code : FaultCode) (failure : LastFailure) : State :=
  let before := (s.leg n).state
  let out := (s.leg n).retriesOut
  let t := ((s.quietLeg n).modLeg n fun l => l.afterFailure failure s.now).deriveOrders n
  let report (u : State) : State := u.reportFailure n before cause code failure
  if out then t.askAndReport n .retryOut before report
  else if code = .legCut then t.askAndReport n .legCut before report
  else report t

/-- A lane failure (R74): in TRAINING the attempt ends with SIDE_FAIL (R105); in any other state the lane returns to
LISTEN, with no fault and no event, and the caller reports its move. -/
def State.laneFailure (s : State) (n : LegId) (i : Lane) (x : Side) (reason : LaneFailReason) : State :=
  if (s.leg n).state = .training then s.failAttempt n .laneFail .sideFail (.lane reason x i)
  else s.enterListen i x

/-! ### Loss episodes (R116 to R125) and partner reverts (R92) -/

/-- A loss in UP takes the leg to HELD (R116). -/
def State.enterHeld (s : State) (n : LegId) : State :=
  let t := s.modLeg n fun l =>
    { l with state := .held, episode := some s.now, bridge := some (s.now + 50 * l.profile.bridge) }
  (t.deriveOrders n).queueLegState n .up .held .signalLost

/-- The episode length in units of 50 microseconds, rounded up (R118). -/
def episodeUnits (start now : Nat) : Nat := (now - start + 49) / 50

/-- The longest gap after an episode that ends in UP (R118 step 2). -/
def Leg.gapAfter (l : Leg) (now : Nat) : Nat :=
  match l.episode with
  | some start => min 255 (max l.gap (episodeUnits start now))
  | none => l.gap

/-- The last restore in HELD ends the episode in UP (R118). -/
def State.endGlitch (s : State) (n : LegId) : State :=
  let t := s.modLeg n fun l => { l with state := .up, bridge := none, gap := l.gapAfter s.now, episode := none }
  ((t.countGlitch n).deriveOrders n).queueLegState n .held .up .restored

/-- The start order to the lanes of one side of a leg (R12, R119, R123). -/
def State.startSide (s : State) (n : LegId) (x : Side) : State :=
  s.onLanes (s.legLanes n) fun i t => t.enterListen i x

/-- The bridge timer expires: the leg enters LOST, and every side that has lost a path is started (R119). -/
def State.enterLost (s : State) (n : LegId) : State :=
  let keptS := !s.sideLost n .s
  let keptC := !s.sideLost n .c
  let t := s.modLeg n fun l =>
    { l with state := .lost, bridge := none, cut := some (s.now + 20000 * l.profile.cut), kept := ⟨keptS, keptC⟩ }
  let u := t.countLost n
  let v := if keptS then u else u.startSide n .s
  let w := if keptC then v else v.startSide n .c
  (((w.releaseTest n).deriveOrders n).queueLegState n .held .lost .bridge).marginCheck n

/-- The leg's answer to a partner revert that took a lane of side `x` from COUNT or DATA to TUNE (R92). In HELD the lanes taken
to LISTEN are those still in DATA; that the reverted lane stays in TUNE where its own flag is ABSENT, its records read as 0, is
the model's choice (log 33). -/
def State.revertLeg (s : State) (n : LegId) (x : Side) : State :=
  match (s.leg n).state with
  | .up => s.enterTraining n .partnerRevert
  | .held =>
    let t := (s.modLeg n fun l => { l with bridge := none, episode := none }).enterTraining n .partnerRevert
    t.onExchanges (t.legLanes n) fun i y u =>
      if u.laneState i y = .data ∧ (u.rxPath i y).signal = false then u.enterListen i y else u
  | .lost => s.modLeg n fun l => { l with kept := l.kept.set x false }
  | _ => s

/-! ### Leg commands (R108 to R111) -/

/-- Retrain on an existing leg (R108). -/
def State.retrainLeg (s : State) (n : LegId) : State :=
  if (s.leg n).state = .parked then s
  else
    let failed := (s.leg n).state = .failed
    let t := (s.countRetrain n).modLeg n fun l => { l with retry := 0 }
    (if failed then t.endCondition (some n) .retryOut else t).boundary n .retrain

/-- Park an existing leg, for the park command and for a reload's start (R109, R114). -/
def State.parkLeg (s : State) (n : LegId) (cause : LegCause) : State :=
  if (s.leg n).state = .parked then s
  else
    let before := (s.leg n).state
    let t := ((s.quietLeg n).modLeg n fun l => { l.standDown with state := .parked, retry := 0 }).deriveOrders n
    let u := t.endAttemptConditions n
    let v := if before = .failed then u.endCondition (some n) .retryOut else u
    (v.queueLegState n before .parked cause).marginCheck n

/-- Unpark an existing leg (R110). -/
def State.unparkLeg (s : State) (n : LegId) : State :=
  if (s.leg n).state = .parked then s.boundary n .unpark else s

/-- The leg record after a clear command (R111). -/
def Leg.cleared (l : Leg) : Leg :=
  { l with glitch := 0, lost := 0, retrain := 0, rollGlitch := false, rollLost := false, rollRetrain := false, gap := 0 }

/-- The exchange counters that a clear command zeroes (R35, R111). -/
def Exchange.cleared (e : Exchange) : Exchange := { e with badFrames := 0, made := 0, answered := 0 }

/-- Minimum and maximum become the current average (R131). -/
def EyeMonitor.cleared (m : EyeMonitor) : EyeMonitor := { m with minimum := m.current, maximum := m.current }

/-- The exchange counters and eye values of one lane and side cleared (R111, R131). -/
def State.clearExchange (s : State) (i : Lane) (x : Side) : State :=
  (s.modExch i x Exchange.cleared).modRx i x fun r => { r with eye := r.eye.cleared }

/-- The clear command on a leg and the exchanges of the lanes given (R111, R151). -/
def State.clearLeg (s : State) (n : LegId) (lanes : List Lane) : State :=
  ((s.modLeg n Leg.cleared).onExchanges lanes fun i x t => t.clearExchange i x).deriveAttention

end Sys2Proof.Machine
end

