-- ==== Sys2Proof/Machine/Agent.lean ====
section
/-! DEFINITION. The memory agent and its loader (chapter 11): the reload command, the load's chunks, the end of a load, the
ring scan, and the writing of failure records. -/

namespace Sys2Proof.Machine

/-! ### Addresses and chunks (R161, R162) -/

/-- The first address of the chunk of a load's step; none where the step reads nothing. -/
def LoadStage.address : LoadStage → Option BusAddr
  | .awaitStart => none
  | .recovery => none
  | .header => some 0x0000
  | .leg n => some (BitVec.ofNat 16 (0x0040 + 64 * n.val))
  | .slot k => some (BitVec.ofNat 16 (0x0400 + 64 * k.val))

/-- The address of a ring slot. -/
def slotAddress (k : Fin 8) : BusAddr := BitVec.ofNat 16 (0x0400 + 64 * k.val)

/-- A fresh chunk of a load's step (R162). -/
def Load.at (l : Load) (stage : LoadStage) : Load := { l with stage, retryWait := false, window := none }

/-- The two bytes of a word address, the upper first (R137). -/
def wordBytes (a : BusAddr) : List MemAct := [.send (a.extractLsb' 8 8), .send (a.extractLsb' 0 8)]

/-- The actions of a chunk or a resync up to its byte number `k`, counted from 0. -/
def throughByte : Nat → List MemAct → List MemAct
  | 0, .send v :: _ => [.send v]
  | k + 1, .send v :: rest => .send v :: throughByte k rest
  | k, act :: rest => act :: throughByte k rest
  | _, [] => []

/-- The mirror after an agent transfer; in NO_MEMORY it stays unknown (R138, R145). -/
def State.moveMirror (s : State) (target : BitVec 14) : State :=
  { s with bridge := { s.bridge with mirror := if s.head = .noMemory then none else some target } }

/-- The agent's transfer ends with its STOP and the port is free (R144). -/
def State.releasePort (s : State) (acts : List MemAct) : State :=
  { s with bridge := { s.bridge with port := .free, memOpen := false, toMemory := acts } }

/-- The job the agent has ready for the port, if any: the load's step, or outside a load the oldest record (R144, R164). -/
def State.readyJob (s : State) : Option AgentJob :=
  match s.agent.load with
  | some l =>
    match l.stage with
    | .awaitStart => none
    | .recovery => some .recovery
    | _ => if l.retryWait then none else some .loadChunk
  | none =>
    match s.agent.records with
    | [] => none
    | r :: _ => if r.retryWait || s.resetHeld then none else some .record

/-- The first try of a chunk opens its 20 ms window (R162, R167). -/
def openWindow (window : Option Nat) (now : Nat) : Option Nat :=
  match window with
  | some w => some w
  | none => some (now + Config.chunkWindowMicros)

/-- The agent's chunk starts on the port (R144). -/
def State.startJob (s : State) (job : AgentJob) : State :=
  let b : Bridge := { s.bridge with port := .agent job, toMemory := match job with | .recovery => [] | _ => [.start]
                                    memOpen := match job with | .recovery => s.bridge.memOpen | _ => true }
  let a : Agent :=
    match job with
    | .recovery => s.agent
    | .loadChunk => { s.agent with load := s.agent.load.map fun l => { l with window := openWindow l.window s.now } }
    | .record =>
      { s.agent with records :=
          match s.agent.records with
          | [] => []
          | r :: rest => { r with window := openWindow r.window s.now } :: rest }
  { s with bridge := b, agent := a }

/-! ### Reload (R164, R114, R20, R136) -/

/-- A record that waits is held through a load, its retry window to start afresh (R164). -/
def FailureRecord.hold (r : FailureRecord) : FailureRecord := { r with retryWait := false, window := none }

/-- The records at a reload's start: the one being written goes on, the others are held (R164). -/
def heldRecords (port : Port) (records : List FailureRecord) : List FailureRecord :=
  match port, records with
  | .agent .record, r :: rest => r :: rest.map FailureRecord.hold
  | _, rs => rs.map FailureRecord.hold

/-- Slice ownership lapses, every lane pairs with itself, the rate class is kept (R20). -/
def Slice.lapse (d : Slice) (j : Lane) : Slice := { d with owner := none, pair := j, inverted := false }

/-- No leg owns a slice and every lane pairs with itself (R19, R20). -/
def State.lapsePlan (s : State) : State := s.onLanes allLanes fun j t => t.setSlice j ((t.slice j).lapse j)

/-- The lane of an exchange is idle with service order QUIET, and its receive path's eye values are 0 (R20, R136). -/
def State.idleLane (s : State) (i : Lane) (x : Side) : State :=
  ((s.enterQuiet i x).modExch i x fun e => { e with order := .quiet }).modRx i x fun r => { r with eye := .initial }

/-- Every existing leg passes to PARKED at a reload's start (R114). The rules give no order among the legs, nor so among their
records; leg order 0 to 7 is the model's choice (log 29). -/
def State.parkAll (s : State) : State :=
  allLegs.foldl (fun t n => if t.legExists n then t.parkLeg n .reload else t) s

/-- The transaction that carries the reload runs on (R145): those past their address byte. -/
def TxnPhase.runsOn : TxnPhase → Bool
  | .none => false
  | .held => false
  | .address => false
  | _ => true

/-- A read goes on as one served by the BX8 once the transaction has carried a reload (R145). -/
def TxnPhase.afterReload : TxnPhase → TxnPhase
  | .readForwarded => .readServed
  | other => other

/-- The reload command (R151, R164): legs parked, lanes quiet, plan lapsed, head LOADING, the load to begin when no page
write is in progress. Taken only while the window takes commands. -/
def State.reloadHead (s : State) : State :=
  if s.windowOpen then
    let t := ((s.parkAll).onExchanges allLanes fun i x u => u.idleLane i x).lapsePlan
    State.deriveAttention
      { t with head := .loading, resetCause := .reload
               agent := { t.agent with load := some { stage := .awaitStart, retryWait := false, window := none, best := none }
                                       records := heldRecords t.bridge.port t.agent.records }
               bridge := { t.bridge with txn := { phase := t.bridge.txn.phase.afterReload
                                                  runOn := t.bridge.txn.phase.runsOn, buffer := [], snapshot := none } } }
  else s

/-! ### The end of a load (R163, R5, R43) -/

/-- Leg, first lane and width that own slice `j` by the leg records (R43). -/
def State.holder (s : State) (j : Lane) : Option (LegId × Nat × Nat) :=
  (allLegs.find? fun n => decide ((s.leg n).first ≤ j.val ∧ j.val < (s.leg n).first + (s.leg n).width)).map fun n =>
    (n, (s.leg n).first, (s.leg n).width)

/-- A leg record of a leg that does not exist (R5, R6). -/
def Leg.absent (l : Leg) : Leg := { l.standDown with state := .parked, width := 0, first := 0 }

/-- No leg exists, and the learned sets of all sixteen paths are invalidated (R5, R43). -/
def State.noPlan (s : State) : State :=
  let t := allLegs.foldl (fun u n => u.modLeg n Leg.absent) s.lapsePlan
  t.onExchanges allLanes fun i x u => u.forgetLearned i x

/-- The conditions of PROFILE_BAD of all legs end, because no leg exists (R112). -/
def State.endProfileBads (s : State) : State := allLegs.foldl (fun t n => t.endCondition (some n) .profileBad) s

/-- After the legs, the load count rises and HEAD_LOADED is queued (R163). -/
def State.countLoad (s : State) : State :=
  let t := { s with loadCount := s.loadCount + 1 }
  t.queueEvent none (.headLoaded t.head t.loadCount)

/-- The load is over: held records may be written (R164). -/
def State.closeLoad (s : State) (head : HeadState) : State :=
  { s with head, agent := { s.agent with load := none, records := s.agent.records.map FailureRecord.hold } }

/-- A load that ends in NO_MEMORY (R163, R5): MEMORY_FAULT raised, the condition of PLAN_BAD ended, in either order (log 8). -/
def State.endNoMemory (s : State) : State :=
  let t := (s.closeLoad .noMemory).noPlan
  let u := { t with bridge := { t.bridge with mirror := none } }
  let v :=
    if u.report.planBad then
      u.inEitherOrder (·.raiseFault none .memoryFault 0) (·.endCondition none .planBad)
    else u.raiseFault none .memoryFault 0
  v.endProfileBads.countLoad

/-- A load that ends in PLAN_BAD (R5, R163). -/
def State.endPlanBad (s : State) : State :=
  ((((s.closeLoad .planBad).noPlan).raiseFault none .planBad 0).endProfileBads).countLoad

/-- The plan of the header is put in force: widths, first lanes and slice ownership (R4). -/
def State.installPlan (s : State) : State :=
  let h := s.pendingHeader
  let t := allLegs.foldl (fun u n =>
    u.modLeg n fun l =>
      let w := headerWidth h n
      { l.standDown with state := .parked, width := w, first := if w = 0 then 0 else dealtFirst h n }) s.lapsePlan
  t.onLanes allLanes fun j u => u.setSlice j { u.slice j with owner := (t.holder j).map fun o => o.1 }

/-- The default profile of a leg whose record fails its check at a load (R163). -/
def State.giveDefaults (s : State) (n : LegId) : State :=
  let t := s.modLeg n fun l => { l with profile := .initial, source := none, clamped := false }
  (t.installProfile n).refreshDiffers n

/-- The take at the end of a load (R163, R54): a record that fails its check gives the default profile; where the take is
skipped the paths in `changed` get their start sets from the active profile. -/
def State.loadTake (s : State) (n : LegId) (result : TakeResult) (changed : List Lane) : State :=
  match result with
  | .taken => s.makeActive n
  | .skipped =>
    let t := s.onExchanges ((s.legLanes n).filter fun i => changed.contains i) fun i x u => u.giveStarts n i x
    (t.applyMap n).refreshDiffers n
  | .refused => s.giveDefaults n

/-- What the take at the end of a load reports: a record that fails its check is not refused but raises PROFILE_BAD (R163). -/
def State.reportLoadTake (s : State) (n : LegId) (result : TakeResult) : State :=
  match result with
  | .refused => s.raiseFault (some n) .profileBad 0
  | .taken => s.reportTake n .taken
  | .skipped => s.reportTake n .skipped

/-- The boundary of an existing leg at the end of a load (R101, R163). -/
def State.loadBoundary (s : State) (n : LegId) (changed : List Lane) : State :=
  let result := s.takeCase n
  let t := s.loadTake n result changed
  if result ≠ .refused ∧ (t.leg n).profile.enable = true then
    let u := ((t.modLeg n fun l => { l with state := .waiting }).startLeg n).deriveOrders n
    (u.queueLegState n .parked .waiting .load).reportLoadTake n result
  else ((t.quietLeg n).deriveOrders n).reportLoadTake n result

/-- Each leg at the end of a load with a valid plan: an existing one has its boundary, and the condition of PROFILE_BAD of
one that does not exist ends (R112, R163). -/
def State.settleLeg (changed : List Lane) (s : State) (n : LegId) : State :=
  if (s.leg n).width = 0 then s.endCondition (some n) .profileBad else s.loadBoundary n changed

/-- A load that ends with a valid plan (R163, R4, R43). -/
def State.endRunning (s : State) : State :=
  let t := (s.closeLoad .running).installPlan
  let changed := allLanes.filter fun j => t.owner j == none || s.holder j != t.holder j
  let u := t.onExchanges changed fun i x v => v.forgetLearned i x
  (allLegs.foldl (State.settleLeg changed) (u.endCondition none .planBad)).countLoad

/-- The end of a load whose chunks were all read (R163). -/
def State.endLoad (s : State) : State :=
  if headerAccepted s.pendingHeader && planValid s.pendingHeader then s.endRunning else s.endPlanBad

/-! ### The ring scan (R165) -/

/-- The serial of a slot. -/
def slotSerial (p : Page) : Nat := pageByte p 0 + 256 * pageByte p 1

/-- A slot is valid when its check holds and its serial is not 0. -/
def slotValid (p : Page) : Bool := checkByteHolds p && slotSerial p != 0

/-- The highest serial among the valid slots so far, and the first slot that holds it. -/
def weighSlot (best : Option (Nat × Fin 8)) (k : Fin 8) (p : Page) : Option (Nat × Fin 8) :=
  if slotValid p then
    match best with
    | none => some (slotSerial p, k)
    | some b => if b.1 < slotSerial p then some (slotSerial p, k) else some b
  else best

/-- Next slot and next serial after the scan. -/
def scanResult (best : Option (Nat × Fin 8)) : Fin 8 × Nat :=
  match best with
  | none => (0, 1)
  | some b => (b.2 + 1, min 65535 (b.1 + 1))

/-! ### The chunks (R138, R162) -/

/-- What a read chunk sends after its START: address phase, repeated START and read address (R162); its acknowledges of the 64
bytes it reads are not shown (log 22). -/
def readActs (a : BusAddr) : List MemAct :=
  [.send Config.addressWrite] ++ wordBytes a ++ [.start, .send Config.addressRead]

/-- A load chunk completes: its port is free, the mirror holds the address after its last byte, and the condition of
MEMORY_FAULT ends (R138, R144, R163). -/
def State.chunkRead (s : State) (a : BusAddr) : State :=
  ((s.releasePort (readActs a ++ [.stop])).moveMirror (memoryPointer (a + 64))).endCondition none .memoryFault

/-- The load goes on to its next step. -/
def State.loadStep (s : State) (l : Load) (stage : LoadStage) : State :=
  { s with agent := { s.agent with load := some (l.at stage) } }

/-- The leg record that follows leg `n`'s, or the first slot after leg 7's. -/
def stageAfterLeg (n : LegId) : LoadStage := if n = 7 then .slot 0 else .leg (n + 1)

/-- A load chunk is running on the port. -/
def State.chunkRunning (s : State) : Option Load :=
  if s.bridge.port = .agent .loadChunk then s.agent.load else none

/-- A leg's pending record is replaced whole and its pending-differs flag derived afresh (R98, R162). -/
def State.loadPending (s : State) (n : LegId) (bytes : Page) : State :=
  ({ s with pendingLegs := s.pendingLegs.set n.val bytes n.isLt }).refreshDiffers n

/-! ### Failure records (R161, R167) -/

/-- The bytes of a failure record but the check, with its serial (R161). -/
def FailureRecord.body (r : FailureRecord) (serial : Nat) : List Byte :=
  littleEndian 2 serial ++ littleEndian 4 r.time.toNat
    ++ [BitVec.ofNat 8 r.leg.val, BitVec.ofNat 8 r.cause.number,
        (match r.before with | .lost => 5 | _ => 2), (match r.rate with | .one => 1 | .two => 2)]
    ++ r.taps ++ r.eyes ++ littleEndian 2 r.glitch.toNat ++ littleEndian 2 r.lost.toNat ++ [BitVec.ofNat 8 r.skipped]
    ++ List.replicate 16 0

/-- The check byte that makes the bytes sum to 0 modulo 256 (R161). -/
def checkByte (bytes : List Byte) : Byte := -(bytes.foldl (· + ·) 0)

/-- The 64 bytes of a failure record (R161). -/
def FailureRecord.bytes (r : FailureRecord) (serial : Nat) : List Byte := r.body serial ++ [checkByte (r.body serial)]

/-- What a record's page write sends after its START (R167). -/
def recordActs (slot : Fin 8) (bytes : List Byte) : List MemAct :=
  [.send Config.addressWrite] ++ wordBytes (slotAddress slot) ++ bytes.map .send

/-- A record has been written (R167): RECORD_WRITTEN queued, slot and serial advanced, skipped count 0, the condition of
MEMORY_FAULT ended; where that condition holds the two records join in either order (log 7). That the queued record's leg
byte names the failure record's leg, and not the head, is the model's choice (log 31). -/
def State.recordDone (s : State) (r : FailureRecord) (rest : List FailureRecord) : State :=
  let slot := s.agent.nextSlot
  let serial := s.agent.nextSerial
  let t := (s.releasePort (recordActs slot (r.bytes serial) ++ [.stop])).moveMirror (memoryPointer (slotAddress slot))
  let u := { t with agent := { t.agent with records := rest, nextSlot := slot + 1, nextSerial := min 65535 (serial + 1)
                                            skipped := 0 } }
  let written (v : State) : State := v.queueEvent (some r.leg) (.recordWritten slot serial)
  if u.report.memoryFault then u.inEitherOrder written (·.endCondition none .memoryFault) else written u

/-! ### Chunks refused (R138, R144, R162, R167) -/

/-- What the agent's chunk on the port sends after its START, up to its STOP (R162, R167). -/
def State.chunkActs (s : State) (job : AgentJob) : List MemAct :=
  match job with
  | .recovery => []
  | .loadChunk => ((s.agent.load.bind fun l => l.stage.address).map readActs).getD []
  | .record =>
    match s.agent.records with
    | [] => []
    | r :: _ => recordActs s.agent.nextSlot (r.bytes s.agent.nextSerial)

/-- The number of a refused byte among those a chunk sends, its address byte being number 0. -/
def refusedNumber : NackAt → Nat
  | .addressByte => 0
  | .laterByte k => k.val + 1

/-- A chunk that the memory leaves unacknowledged ends at that byte with a STOP and waits for its retry 1 ms later; the mirror
becomes unknown unless it was the address byte (R138, R144, R162, R167). That it does so too where a read chunk's second address
byte, after the repeated START, is refused is the model's choice (log 16). A record refused while a reload waits for it is held
(R164, log 24). -/
def State.chunkRefused (s : State) (job : AgentJob) (at_ : NackAt) : State :=
  let t := s.releasePort (throughByte (refusedNumber at_) (s.chunkActs job) ++ [.stop])
  let u := if at_ = .addressByte then t else { t with bridge := { t.bridge with mirror := none } }
  match job with
  | .recovery => s
  | .loadChunk => { u with agent := { u.agent with load := u.agent.load.map fun l => { l with retryWait := true } } }
  | .record =>
    { u with agent := { u.agent with records :=
        match u.agent.records with
        | [] => []
        | r :: rest => (if u.agent.load = none then { r with retryWait := true } else r.hold) :: rest } }

end Sys2Proof.Machine
end

