-- ==== Sys2Proof/Machine/AgentEvents.lean ====
section
/-! DEFINITION. The events of the memory agent: recovery, load chunks, retries and failure records (R146, R162 to R167). -/

namespace Sys2Proof.Machine

/-- The recovery is running on the port: the load it belongs to. -/
def State.recoveryRunning (s : State) : Option Load :=
  if s.bridge.port = .agent .recovery then s.agent.load else none

/-- The recovery ends with its STOP: the mirror is unknown and the load goes on to the header (R138, R146, R162). -/
def State.recoveryDone (s : State) (l : Load) : State :=
  let t := s.releasePort [.clocks, .stop]
  State.loadStep { t with bridge := { t.bridge with mirror := none } } l .header

/-- The header chunk completes (R162 step 2). -/
def State.headerRead (s : State) (l : Load) (bytes : Page) : State :=
  State.loadStep { s.chunkRead 0x0000 with pendingHeader := bytes } l (.leg 0)

/-- A leg record chunk completes (R162 step 3). -/
def State.legRead (s : State) (l : Load) (n : LegId) (bytes : Page) : State :=
  ((s.chunkRead (BitVec.ofNat 16 (0x0040 + 64 * n.val))).loadPending n bytes).loadStep l (stageAfterLeg n)

/-- A ring slot has been read (R162 step 4, R165); the last one gives next slot and next serial and ends the load (R163). -/
def State.slotRead (s : State) (l : Load) (k : Fin 8) (bytes : Page) : State :=
  let t := s.chunkRead (slotAddress k)
  let best := weighSlot l.best k bytes
  if k = 7 then
    let r := scanResult best
    State.endLoad { t with agent := { t.agent with nextSlot := r.1, nextSerial := r.2 } }
  else t.loadStep { l with best } (.slot (k + 1))

/-- A ready job is given the free port, after a switch transaction that waits (R144). -/
def State.agentTakes (s : State) : State :=
  if s.bridge.port = .free ∧ s.bridge.txn.phase ≠ .held ∧ s.resetHeld = false then
    match s.readyJob with
    | some job => s.startJob job
    | none => s
  else s

/-- The port after a chunk of this job has been given up: freed with a STOP where that job holds it, and the mirror unknown,
because the chunk has not come to its end (R138, log 16). -/
def State.dropJob (s : State) (job : AgentJob) : State :=
  if s.bridge.port = .agent job then
    let t := s.releasePort [.stop]
    { t with bridge := { t.bridge with mirror := none } }
  else s

/-- The end of the window of the load's present chunk, once it has been tried (R162). -/
def Load.windowEnd (l : Load) : Option Nat :=
  match l.stage with
  | .awaitStart => none
  | .recovery => none
  | _ => l.window

/-- The oldest failure record may be written or given up: no load is in progress, or its write is on the port (R164). -/
def State.recordActive (s : State) : Bool := s.agent.load.isNone || s.bridge.port == .agent .record

/-- The oldest record is dropped after 20 ms (R167). -/
def State.dropRecord (s : State) (rest : List FailureRecord) : State :=
  let t := s.dropJob .record
  State.raiseFault { t with agent := { t.agent with records := rest } } none .memoryFault 0

/-- BUS_RECOVERY (R146); no effect while no recovery holds the port. -/
def execBusRecovery (s : State) : Host.Outcome State Fault Refusal :=
  match s.recoveryRunning with
  | some l => .next (if l.stage = .recovery then s.recoveryDone l else s)
  | none => .next s

/-- AGENT_TAKES_PORT (R144). -/
def execAgentTakesPort (s : State) : Host.Outcome State Fault Refusal := .next s.agentTakes

/-- HEADER_CHUNK (R162); no effect while the header chunk is not on the port. -/
def execHeaderChunk (bytes : Page) (s : State) : Host.Outcome State Fault Refusal :=
  match s.chunkRunning with
  | some l =>
    match l.stage with
    | .header => .next (s.headerRead l bytes)
    | _ => .next s
  | none => .next s

/-- LEG_RECORD_CHUNK (R162); no effect while no leg record chunk is on the port. -/
def execLegRecordChunk (bytes : Page) (s : State) : Host.Outcome State Fault Refusal :=
  match s.chunkRunning with
  | some l =>
    match l.stage with
    | .leg n => .next (s.legRead l n bytes)
    | _ => .next s
  | none => .next s

/-- RING_SLOT_READ (R165); no effect while no ring slot is read on the port. -/
def execRingSlotRead (bytes : Page) (s : State) : Host.Outcome State Fault Refusal :=
  match s.chunkRunning with
  | some l =>
    match l.stage with
    | .slot k => .next (s.slotRead l k bytes)
    | _ => .next s
  | none => .next s

/-- CHUNK_RETRY (R162): 1 ms after it was left unacknowledged the chunk is ready again. -/
def execChunkRetry (s : State) : Host.Outcome State Fault Refusal :=
  .next { s with agent := { s.agent with load := s.agent.load.map fun l => { l with retryWait := false } } }

/-- LOAD_CHUNK_TIMEOUT (R162, R163); no effect while no chunk of a load has been tried. -/
def execLoadChunkTimeout (s : State) : Host.Outcome State Fault Refusal :=
  match s.agent.load.bind Load.windowEnd with
  | some instant => .next (((s.reach instant).dropJob .loadChunk).endNoMemory)
  | none => .next s

/-- RELOAD_LOAD_START (R164): the load of a reload begins once no failure-record page write is in progress. -/
def execReloadLoadStart (s : State) : Host.Outcome State Fault Refusal :=
  match s.agent.load with
  | some l => .next (if l.stage = .awaitStart ∧ s.bridge.port ≠ .agent .record then s.loadStep l .recovery else s)
  | none => .next s

/-- RECORD_WRITTEN (R167); no effect while no record is being written. -/
def execRecordWritten (s : State) : Host.Outcome State Fault Refusal :=
  match s.bridge.port, s.agent.records with
  | .agent .record, r :: rest => .next (s.recordDone r rest)
  | _, _ => .next s

/-- FAILURE_RECORD_RETRY (R167): 1 ms after it was left unacknowledged the oldest record is ready again. -/
def execFailureRecordRetry (s : State) : Host.Outcome State Fault Refusal :=
  match s.agent.records with
  | r :: rest => .next { s with agent := { s.agent with records := { r with retryWait := false } :: rest } }
  | [] => .next s

/-- FAILURE_RECORD_TIMEOUT (R167); no effect while no record has been tried, or while records are held through a load. -/
def execFailureRecordTimeout (s : State) : Host.Outcome State Fault Refusal :=
  match s.agent.records with
  | r :: rest =>
    match r.window with
    | some instant => .next (if s.recordActive then (s.reach instant).dropRecord rest else s)
    | none => .next s
  | [] => .next s

/-- CHUNK_NOT_ACKNOWLEDGED (R144, R162, R167); no effect while the agent does not hold the port. -/
def execChunkNotAcknowledged (nackAt : NackAt) (s : State) : Host.Outcome State Fault Refusal :=
  match s.bridge.port with
  | .agent job => .next (s.chunkRefused job nackAt)
  | _ => .next s

end Sys2Proof.Machine
end

