-- ==== Sys2Proof/Machine/Window.lean ====
section
/-! DEFINITION. The live window: its rows and codes (R147, R150, section 10.2), what each writable or command byte does
(R148, R149, R151, R155, R157), and the effect of one buffered byte (R143). -/

namespace Sys2Proof.Machine

/-! ### Codes of section 10.2 -/

def bit (b : Bool) : Nat := if b then 1 else 0

def HeadState.number : HeadState → Nat
  | .running => 1
  | .planBad => 2
  | .noMemory => 3
  | .loading => 4

def ResetCause.number : ResetCause → Nat
  | .power => 1
  | .line => 2
  | .reload => 3

def LegState.number : LegState → Nat
  | .parked => 0
  | .waiting => 1
  | .training => 2
  | .up => 3
  | .held => 4
  | .lost => 5
  | .down => 6
  | .failed => 7

def LaneState.number : LaneState → Nat
  | .quiet => 0
  | .listen => 1
  | .tune => 2
  | .ready => 3
  | .count => 4
  | .data => 5

def LegCause.number : LegCause → Nat
  | .load => 1
  | .reload => 2
  | .unpark => 3
  | .retrain => 4
  | .park => 5
  | .backoff => 6
  | .allSignals => 7
  | .bothData => 8
  | .budget => 9
  | .laneFail => 10
  | .partnerRevert => 11
  | .signalLost => 12
  | .restored => 13
  | .bridge => 14
  | .cut => 15

def EventMode.number : EventMode → Nat
  | .off => 0
  | .any => 1
  | .half => 2

def RateClass.number : RateClass → Nat
  | .one => 1
  | .two => 2

def sideNumber : Side → Nat
  | .s => 0
  | .c => 1

/-- A leg number, 0xFF for the head. -/
def ownerByte : Option LegId → Byte
  | some n => BitVec.ofNat 8 n.val
  | none => 0xFF

def byteOf (v : Nat) : Byte := BitVec.ofNat 8 v

/-- A signed byte. -/
def signedByte (v : Int) : Byte := BitVec.ofInt 8 v

/-- An answer as four bytes: echo, applied, outcome, limit. -/
def Answer.bytes (a : Answer) : List Byte :=
  [byteOf a.echo.toNat, signedByte a.applied, byteOf a.outcome.code.toNat, byteOf a.limit.code.toNat]

/-! ### Rows -/

/-- Row 0x4000, head status. -/
def State.headStatusRow (s : State) : List Byte :=
  [Config.partCode, Config.revision, byteOf s.head.number, byteOf s.resetCause.number, s.loadCount,
    byteOf s.report.faults.length, byteOf (bit s.report.listFull), byteOf (worstCode s.report.faults)]
    ++ littleEndian 4 s.report.headClock.toNat ++ [byteOf (bit s.report.attention)]

/-- Row 0x4010, head control; its command byte reads 0. -/
def State.headControlRow (s : State) : List Byte :=
  [0, byteOf (bit s.report.viewPinned), byteOf s.report.viewLeg.val, s.report.faultMask, byteOf s.report.eventMode.number,
    byteOf (bit s.report.rolloverEnable)]

/-- Row 0x4020 + 16n, the row of leg `n`; its command byte reads 0. -/
def State.legRow (s : State) (n : LegId) : List Byte :=
  let l := s.leg n
  [byteOf l.state.number, byteOf l.profile.rate.number, byteOf l.width, byteOf l.first, byteOf l.retry,
    byteOf (bit l.differs + 2 * bit (s.learnedValidFlag n) + 4 * bit l.clamped + 8 * bit l.profile.reverse
      + 16 * l.profile.polarity.toNat)]
    ++ littleEndian 2 l.glitch.toNat ++ littleEndian 2 l.lost.toNat ++ littleEndian 2 l.retrain.toNat
    ++ [byteOf (bit l.rollGlitch + 2 * bit l.rollLost + 4 * bit l.rollRetrain), byteOf l.gap, l.lastFailure.byte]

/-- The leg on view (R150). -/
def State.legOnView (s : State) : LegId :=
  if s.report.viewPinned then s.report.viewLeg
  else
    match shownEntry s.report.faults with
    | some e => e.owner.getD 0
    | none => 0

/-- First detail row of lane `i` side `x` of leg `n`. -/
def State.detailFirst (s : State) (n : LegId) (i : Lane) (x : Side) : List Byte :=
  let e := s.exch i x
  let t := (s.txPath i x).inUse
  [byteOf n.val, byteOf i.val, byteOf e.lane.number, byteOf (bit e.warm), byteOf t.pre, byteOf t.main, byteOf t.post,
    byteOf t.peak, signedByte t.lowFrequency] ++ e.lastGiven.bytes
    ++ [byteOf (bit (x == .c && (s.slice i).inverted)), byteOf (s.phys i x).val]

/-- Second detail row of lane `i` side `x`. -/
def State.detailSecond (s : State) (i : Lane) (x : Side) : List Byte :=
  let e := s.exch i x
  let m := (s.rxPath i x).eye
  e.req.lastReceived.bytes ++ [byteOf e.badFrames, byteOf e.restarts, e.made, e.answered, byteOf m.current,
    byteOf m.minimum, byteOf m.maximum, byteOf (bit m.valid + 2 * bit m.alarm)]

/-- Lane `k` of leg `n`, where the leg exists and has it (R150). That no leg exists here from a reload's start to the load's end,
though its row still shows its width, is the model's choice (log 34). -/
def State.laneOfLeg (s : State) (n : LegId) (k : Nat) : Option Lane :=
  if s.legExists n then (s.legLanes n)[k]? else none

/-- A row of the detail page by its number 0..15 in the page (R150). -/
def State.detailRow (s : State) (idx : Nat) : List Byte :=
  let n := s.legOnView
  match s.laneOfLeg n (idx / 4), idx % 4 with
  | some i, 0 => s.detailFirst n i .s
  | some i, 1 => s.detailSecond i .s
  | some i, 2 => s.detailFirst n i .c
  | some i, _ => s.detailSecond i .c
  | none, 0 => [byteOf n.val, 0xFF]
  | none, 2 => [byteOf n.val, 0xFF]
  | none, _ => []

/-- The kind code of an event record. -/
def EventKind.number : EventKind → Nat
  | .legState _ _ _ => 1
  | .laneTuned _ _ _ _ _ => 2
  | .faultRaised _ _ _ => 3
  | .faultCleared _ _ => 4
  | .faultLeft _ _ => 5
  | .profileTaken _ => 6
  | .profileRefused => 7
  | .recordWritten _ _ => 8
  | .recordSkipped => 9
  | .headLoaded _ _ => 10

/-- The bytes of an event record from offset 8 on. -/
def EventKind.bytes : EventKind → List Byte
  | .legState before after cause => [byteOf before.number, byteOf after.number, byteOf cause.number]
  | .laneTuned x i low eye t =>
    [byteOf (sideNumber x), byteOf i.val, byteOf (if low then 2 else 1), byteOf eye, signedByte t.pre, signedByte t.main,
      signedByte t.post]
  | .faultRaised code missed detail => [byteOf code.number, byteOf (bit missed), detail]
  | .faultCleared code detail => [byteOf code.number, 0, detail]
  | .faultLeft code detail => [byteOf code.number, 0, detail]
  | .profileTaken clamped => [byteOf (bit clamped)]
  | .profileRefused => []
  | .recordWritten slot serial => byteOf slot.val :: littleEndian 2 serial
  | .recordSkipped => []
  | .headLoaded head count => [byteOf head.number, count]

/-- An event record as row 0x4200 shows it. -/
def EventRecord.bytes (r : EventRecord) : List Byte :=
  [r.seq, byteOf r.kind.number, ownerByte r.leg, 0] ++ littleEndian 4 r.time.toNat ++ r.kind.bytes

/-- Row 0x4200: the oldest record, zeros with the queue empty (R156). -/
def State.queueRow (s : State) : List Byte :=
  match s.report.events with
  | r :: _ => r.bytes
  | [] => []

/-- Row 0x4210, queue status; its command bytes read 0. -/
def State.queueStatusRow (s : State) : List Byte :=
  [byteOf s.report.events.length, byteOf (bit s.report.half), byteOf (bit s.report.overrun), s.report.nextSeq]

/-- Row 0x4220: the shown entry, zeros without one (R155). -/
def State.shownRow (s : State) : List Byte :=
  match shownEntry s.report.faults with
  | some e =>
    [1, ownerByte e.owner, byteOf e.code.number, byteOf (if e.active then 1 else 2), byteOf e.occurrences, e.detail, 0, 0]
      ++ littleEndian 4 e.firstTime.toNat
  | none => []

/-- The assigned bytes of the row with number `row`, its address over 16 (R147). -/
def State.rowFields (s : State) (row : Nat) : List Byte :=
  if row = 0x400 then s.headStatusRow
  else if row = 0x401 then s.headControlRow
  else if h : row - 0x402 < 8 ∧ 0x402 ≤ row then s.legRow ⟨row - 0x402, h.1⟩
  else if 0x410 ≤ row ∧ row ≤ 0x41F then s.detailRow (row - 0x410)
  else if row = 0x420 then s.queueRow
  else if row = 0x421 then s.queueStatusRow
  else if row = 0x422 then s.shownRow
  else []

/-- The sixteen bytes of a row; an unassigned byte reads 0 (R148). -/
def State.rowBytes (s : State) (row : BitVec 12) : List Byte := padTo 16 (s.rowFields row.toNat)

/-! ### Commands and stored values -/

/-- A command or a stored value of the live window acts only while the window takes commands (R145, R146, R148). -/
def State.whenOpen (s : State) (f : State → State) : State := if s.windowOpen then f s else s

/-- A leg command acts only on a leg that exists (R5, R6). -/
def State.legCommand (s : State) (n : LegId) (f : State → State) : State :=
  s.whenOpen fun t => if t.legExists n then f t else t

/-- Every record removed; overrun flag and next sequence unchanged (R151). -/
def State.clearQueue (s : State) : State := State.deriveAttention { s with report := { s.report with events := [] } }

/-- The overrun flag becomes 0 (R151, R157). -/
def State.dropOverrun (s : State) : State := State.deriveAttention { s with report := { s.report with overrun := false } }

/-- The clear command of R111 on all eight leg records and on every lane (R151). -/
def State.clearAll (s : State) : State :=
  ((allLegs.foldl (fun t n => t.modLeg n Leg.cleared) s).onExchanges allLanes fun i x t =>
    t.clearExchange i x).deriveAttention

/-- The oldest record removed (R157). -/
def State.advanceQueue (s : State) : State :=
  State.deriveAttention { s with report := { s.report with events := s.report.events.tail } }

/-- The list with the shown entry acknowledged, or without it where it is CLEARED (R155). -/
def acknowledgeIn (faults : List FaultEntry) (e : FaultEntry) : List FaultEntry :=
  if e.active then faults.map fun f => if f.isOf e.owner e.code then { f with acked := true } else f
  else faults.filter fun f => !f.isOf e.owner e.code

/-- A write to the acknowledge byte (R155). -/
def State.acknowledgeShown (s : State) : State :=
  match shownEntry s.report.faults with
  | none => s
  | some e =>
    let t : State := { s with report := { s.report with faults := acknowledgeIn s.report.faults e
                                                        listFull := s.report.listFull && e.active } }
    if e.active then t.deriveAttention else t.queueEvent e.owner (.faultLeft e.code e.detail)

/-- View mode: 0 follow, 1 pinned, anything else ignored (R149). -/
def State.storeViewMode (s : State) (v : Byte) : State :=
  if v = 0 then { s with report := { s.report with viewPinned := false } }
  else if v = 1 then { s with report := { s.report with viewPinned := true } }
  else s

/-- View leg: a value above 7 is stored as 7 (R149). -/
def State.storeViewLeg (s : State) (v : Byte) : State :=
  { s with report := { s.report with viewLeg := Fin.ofNat 8 (min 7 v.toNat) } }

/-- Fault attention mask: any value (R149). -/
def State.storeFaultMask (s : State) (v : Byte) : State :=
  State.deriveAttention { s with report := { s.report with faultMask := v } }

/-- The event attention mode of a written value; a value above 2 is ignored (R149). -/
def eventModeOf (v : Byte) : Option EventMode :=
  if v = 0 then some .off else if v = 1 then some .any else if v = 2 then some .half else none

/-- Event attention mode (R149). -/
def State.storeEventMode (s : State) (v : Byte) : State :=
  match eventModeOf v with
  | some m => State.deriveAttention { s with report := { s.report with eventMode := m } }
  | none => s

/-- Rollover attention enable: 0 or 1, any other value ignored (R149). -/
def State.storeRollover (s : State) (v : Byte) : State :=
  if v = 0 then State.deriveAttention { s with report := { s.report with rolloverEnable := false } }
  else if v = 1 then State.deriveAttention { s with report := { s.report with rolloverEnable := true } }
  else s

/-! ### One byte written (R143, R148) -/

/-- What a byte of the live window is for a write. -/
inductive WriteKind where
  | headCommand
  | viewMode
  | viewLeg
  | faultMask
  | eventMode
  | rolloverEnable
  | legCommand (n : LegId)
  | advance
  | clearOverrun
  | acknowledge
  | noEffect
deriving DecidableEq, Repr

/-- The kind of a byte by its address (sections 10.1 and 10.2). -/
def writeKind (a : BusAddr) : WriteKind :=
  let k := a.toNat
  if k = 0x4010 then .headCommand
  else if k = 0x4011 then .viewMode
  else if k = 0x4012 then .viewLeg
  else if k = 0x4013 then .faultMask
  else if k = 0x4014 then .eventMode
  else if k = 0x4015 then .rolloverEnable
  else if h : k % 16 = 15 ∧ 0x402 ≤ k / 16 ∧ k / 16 - 0x402 < 8 then .legCommand ⟨k / 16 - 0x402, h.2.2⟩
  else if k = 0x4214 then .advance
  else if k = 0x4215 then .clearOverrun
  else if k = 0x422F then .acknowledge
  else .noEffect

/-- A head command byte by its value (R151); other values are ignored. -/
def State.headCommandByte (s : State) (v : Byte) : State :=
  if v = 1 then s.reloadHead
  else if v = 2 then s.whenOpen State.clearQueue
  else if v = 3 then s.whenOpen State.dropOverrun
  else if v = 4 then s.whenOpen State.clearAll
  else s

/-- A leg command byte by its value (R151, section 6.6); other values are ignored. -/
def State.legCommandByte (s : State) (n : LegId) (v : Byte) : State :=
  if v = 1 then s.legCommand n (·.retrainLeg n)
  else if v = 2 then s.legCommand n (·.parkLeg n .park)
  else if v = 3 then s.legCommand n (·.unparkLeg n)
  else if v = 4 then s.legCommand n fun t => t.clearLeg n (t.legLanes n)
  else s

/-- The effect of one buffered byte (R143). -/
def State.applyByte (s : State) (a : BusAddr) (v : Byte) : State :=
  match writeKind a with
  | .headCommand => s.headCommandByte v
  | .viewMode => s.whenOpen (·.storeViewMode v)
  | .viewLeg => s.whenOpen (·.storeViewLeg v)
  | .faultMask => s.whenOpen (·.storeFaultMask v)
  | .eventMode => s.whenOpen (·.storeEventMode v)
  | .rolloverEnable => s.whenOpen (·.storeRollover v)
  | .legCommand n => s.legCommandByte n v
  | .advance => s.whenOpen State.advanceQueue
  | .clearOverrun => s.whenOpen State.dropOverrun
  | .acknowledge => s.whenOpen State.acknowledgeShown
  | .noEffect => s

/-- Buffered bytes take effect one by one in the order in which they arrived (R143); what follows a reload is discarded,
because the window takes no command while loading (R148). -/
def State.applyBytes (s : State) (bytes : List (BusAddr × Byte)) : State := bytes.foldl (fun t b => t.applyByte b.1 b.2) s

/-- A byte that has no effect whatever the state: read-only, unassigned, or a command value that the byte does not define
(R148). -/
def writeHasNoEffect (a : BusAddr) (v : Byte) : Bool :=
  match writeKind a with
  | .noEffect => true
  | .headCommand => decide (v = 0 ∨ 4 < v.toNat)
  | .legCommand _ => decide (v = 0 ∨ 4 < v.toNat)
  | _ => false

end Sys2Proof.Machine
end

