-- ==== Sys2Proof/Machine/Bridge.lean ====
section
/-! DEFINITION. The management bridge: the switch transaction from START to its end (R137 to R146), the snoop (R142), and
the bytes the BX8 serves (R141). -/

namespace Sys2Proof.Machine

/-! ### Answers and ends -/

def State.answer (s : State) (a : SwitchAnswer) : State := { s with bridge := { s.bridge with toSwitch := a } }

/-- What is driven on the memory-side port. -/
def State.drive (s : State) (acts : List MemAct) : State := { s with bridge := { s.bridge with toMemory := acts } }

def State.setPhase (s : State) (phase : TxnPhase) : State :=
  { s with bridge := { s.bridge with txn := { s.bridge.txn with phase } } }

/-- A byte outside its place: the switch sees it unacknowledged and nothing else changes (log 4). -/
def State.outOfPlace (s : State) : State := s.answer .nack

/-- The port once the bridge's transaction is over (R144). -/
def Port.afterBridge : Port → Port
  | .bridge => .free
  | other => other

/-- The switch transaction is over: no buffer, no snapshot, the bridge's port free, the memory side closed (R139, R144). In
LOADING the bridge drives nothing there, so what stands open at the memory stays open for the recovery's STOP (R145, R146). -/
def State.endTxn (s : State) (acts : List MemAct) (a : SwitchAnswer) : State :=
  { s with bridge := { s.bridge with txn := .initial, port := s.bridge.port.afterBridge
                                     memOpen := s.bridge.memOpen && s.head == .loading, toMemory := acts, toSwitch := a } }

def State.mirrorUnknown (s : State) : State := { s with bridge := { s.bridge with mirror := none } }

/-- What closes the memory side: a STOP where a transaction is open there (R139); in LOADING the recovery's STOP does that, and
nothing is forwarded after a reload (R145, R146). -/
def State.closing (s : State) : List MemAct :=
  if s.bridge.memOpen && !s.bridge.txn.runOn && s.head != .loading then [.stop] else []

/-- An abnormal end (R138, R143): the mirror becomes unknown where a memory-side transaction was open (log 16), the write
buffer is emptied without effect, and the switch sees no acknowledge. -/
def State.endAbnormally (s : State) (acts : List MemAct) : State :=
  let t := if s.bridge.memOpen then s.mirrorUnknown else s
  t.endTxn (acts ++ s.closing) .nack

/-! ### START and the port (R144, R137) -/

/-- A transaction begins with its address byte awaited, or with the switch clock held low. -/
def State.beginTxn (s : State) (port : Port) (phase : TxnPhase) : State :=
  { s with bridge := { s.bridge with port, txn := { Txn.initial with phase }, toSwitch := .nothing, toMemory := [] } }

/-- A switch START at the arbiter (R144); while the reset input is asserted both ports are released (R146). -/
def State.switchStarts (s : State) : State :=
  if s.resetHeld then s
  else
    match s.bridge.txn.phase, s.bridge.port with
    | .none, .free => s.beginTxn .bridge .address
    | .none, .agent job => s.beginTxn (.agent job) .held
    | _, _ => s

/-- A held transaction is given the port at the chunk's STOP (R144). -/
def State.givePort (s : State) : State :=
  if s.resetHeld then s
  else
    match s.bridge.txn.phase, s.bridge.port with
    | .held, .free => s.beginTxn .bridge .address
    | _, _ => s

/-! ### Address phases (R139, R140, R145) -/

/-- START, or a repeated START where the memory side is still open: one and the same on the line (R139). -/
def addressActs (address : Byte) : List MemAct := [.start, .send address]

/-- A write-addressed address byte 0x54 (R139 step 1, R145). -/
def State.beginWrite (s : State) (memAck : Bool) : State :=
  match s.head with
  | .loading => s.endTxn [] .nack
  | .noMemory => ((s.setPhase .wordAddress).drive []).answer .ack
  | _ =>
    if memAck then
      let t := { s with bridge := { s.bridge with memOpen := true } }
      ((t.setPhase .wordAddress).drive (addressActs Config.addressWrite)).answer .ack
    else s.endTxn (addressActs Config.addressWrite ++ [.stop]) .nack

/-- What a resync sends (R140). -/
def resyncActs (a : BusAddr) : List MemAct :=
  addressActs Config.addressWrite ++ wordBytes a ++ addressActs Config.addressRead

/-- What a resync has sent when the memory leaves a byte of it unacknowledged, with the STOP that ends it (R140, log 16). -/
def resyncRefused (a : BusAddr) (k : Nat) : List MemAct := throughByte k (resyncActs a) ++ [.stop]

/-- A read served by the BX8 begins; the memory-side port is not used (R140). What stands open at the memory, after a repeated
START before the word address was complete, stays open until the STOP: the model's choice (log 30). -/
def State.beginServed (s : State) : State := ((s.setPhase .readServed).drive []).answer .ack

/-- A forwarded read begins, the mirror equal to the combined pointer (R140). -/
def State.beginForwarded (s : State) (acts : List MemAct) : State :=
  let t := { s with bridge := { s.bridge with memOpen := true, mirror := some (memoryPointer s.bridge.combined) } }
  ((t.setPhase .readForwarded).drive acts).answer .ack

/-- A read-addressed address byte 0x54, classified by the combined pointer (R140, R145). -/
def State.beginRead (s : State) (answer : MemAnswer) : State :=
  match s.head, spaceOf s.bridge.combined with
  | .loading, _ => s.endTxn [] .nack
  | .noMemory, _ => s.beginServed
  | _, .live => s.beginServed
  | _, .void => s.beginServed
  | _, .memory =>
    if s.bridge.mirror = some (memoryPointer s.bridge.combined) then
      if answer = .busy then s.endTxn (addressActs Config.addressRead ++ [.stop]) .nack
      else s.beginForwarded (addressActs Config.addressRead)
    else
      match answer with
      | .acknowledged => s.beginForwarded (resyncActs s.bridge.combined)
      | .busy => s.endTxn (resyncRefused s.bridge.combined 0) .nack
      | .highRefused => s.mirrorUnknown.endTxn (resyncRefused s.bridge.combined 1) .nack
      | .lowRefused => s.mirrorUnknown.endTxn (resyncRefused s.bridge.combined 2) .nack
      | .readAddressRefused => s.mirrorUnknown.endTxn (resyncRefused s.bridge.combined 3) .nack

/-- The address byte of a transaction that has begun is a write address. -/
def State.writeAddress (s : State) (memAck : Bool) : State :=
  if s.bridge.txn.phase = .address then s.beginWrite memAck else s.outOfPlace

/-- The address byte of a transaction that has begun is a read address. -/
def State.readAddress (s : State) (answer : MemAnswer) : State :=
  if s.bridge.txn.phase = .address then s.beginRead answer else s.outOfPlace

/-- An address byte for another bus address: unacknowledged, and the transaction is over (R137, R144). -/
def State.otherAddress (s : State) : State :=
  if s.bridge.txn.phase = .address then s.endTxn [] .nack else s.outOfPlace

/-! ### Word address (R138, R139 steps 2 and 3, R145) -/

/-- The data phase of a write in a space. -/
def Space.writePhase : Space → TxnPhase
  | .memory => .writeMemory
  | .live => .writeLive
  | .void => .writeVoid

/-- Both word-address bytes are acknowledged: the combined pointer and the mirror are set, and outside memory space the
memory side is closed before any data byte. In NO_MEMORY nothing is forwarded and the mirror stays unknown. -/
def State.setPointers (s : State) (a : BusAddr) : State :=
  let t := { s with bridge := { s.bridge with combined := a } }
  let u := (t.setPhase (spaceOf a).writePhase).answer .ack
  if s.bridge.memOpen then
    let v := u.moveMirror (memoryPointer a)
    match spaceOf a with
    | .memory => v.drive (wordBytes a)
    | _ => { v with bridge := { v.bridge with memOpen := false, toMemory := wordBytes a ++ [.stop] } }
  else u.drive []

/-- The two word-address bytes (R139 step 2): one that the memory leaves unacknowledged ends the transaction abnormally (R138);
discarded in a transaction that carried a reload (R145). -/
def State.wordArrives (s : State) (high low : WordByte) : State :=
  if s.bridge.txn.phase = .wordAddress then
    if s.bridge.txn.runOn then ((s.setPhase (spaceOf s.bridge.combined).writePhase).drive []).answer .ack
    else if s.bridge.memOpen && !high.memAck then s.endAbnormally [.send high.value]
    else if s.bridge.memOpen && !low.memAck then s.endAbnormally [.send high.value, .send low.value]
    else s.setPointers (high.value ++ low.value)
  else s.outOfPlace

/-! ### Bytes written (R139, R142, R143, R145) -/

/-- The snoop (R142): an acknowledged memory-space byte goes to the pending copy that mirrors its address. -/
def State.snoop (s : State) (a : BusAddr) (v : Byte) : State :=
  match mirroredAt a with
  | .header k => { s with pendingHeader := s.pendingHeader.set k.val v k.isLt }
  | .leg n k =>
    let page := (s.pendingLegs[n]).set k.val v k.isLt
    ({ s with pendingLegs := s.pendingLegs.set n.val page n.isLt }).refreshDiffers n
  | .nowhere => s

/-- The combined pointer moves past a written byte (R138). -/
def State.pastWrite (s : State) : State :=
  { s with bridge := { s.bridge with combined := nextWrite s.bridge.combined } }

/-- A written byte that the BX8 acknowledges itself and discards. -/
def State.discardByte (s : State) : State := ((s.pastWrite).drive []).answer .ack

/-- A byte forwarded to the memory and acknowledged: snooped, and both pointers advance by the page wrap (R138, R142). -/
def State.forwardByte (s : State) (v : Byte) : State :=
  let t := (s.snoop s.bridge.combined v).pastWrite
  let u := { t with bridge := { t.bridge with mirror := t.bridge.mirror.map pageNext } }
  (u.drive [.send v]).answer .ack

/-- The data phases of a write. -/
def TxnPhase.writes : TxnPhase → Bool
  | .writeMemory => true
  | .writeLive => true
  | .writeVoid => true
  | _ => false

/-- A data byte of the write whose data phase is `phase`, taken by `take`. In a transaction that carried a reload every data byte
is acknowledged and discarded and moves the combined pointer (R145), whichever of the three rows brings it: the word address
that the switch has sent was discarded too, and may name another space than the pointer's (log 19). -/
def State.writtenByte (s : State) (phase : TxnPhase) (take : State → State) : State :=
  if s.bridge.txn.runOn && s.bridge.txn.phase.writes then s.discardByte
  else if s.bridge.txn.phase = phase then take s
  else s.outOfPlace

/-- A forwarded byte is the memory's to acknowledge; with no memory the BX8 acknowledges and discards it (R139, R142, R145). -/
def State.takeMemoryByte (s : State) (v : Byte) (memAck : Bool) : State :=
  if s.bridge.memOpen then
    if memAck then s.forwardByte v else s.endAbnormally [.send v]
  else s.discardByte

/-- A memory-space data byte (R139, R142, R145). -/
def State.memoryByte (s : State) (v : Byte) (memAck : Bool) : State :=
  s.writtenByte .writeMemory fun t => t.takeMemoryByte v memAck

/-- The write buffer takes a byte while it holds fewer than sixteen (R143). -/
def bufferByte (buffer : List (BusAddr × Byte)) (a : BusAddr) (v : Byte) : List (BusAddr × Byte) :=
  if buffer.length < Config.writeBufferCapacity then buffer ++ [(a, v)] else buffer

/-- A live-window byte joins the write buffer with its address, and the pointer moves on (R143). -/
def State.takeLiveByte (s : State) (v : Byte) : State :=
  let buffer := bufferByte s.bridge.txn.buffer s.bridge.combined v
  State.discardByte { s with bridge := { s.bridge with txn := { s.bridge.txn with buffer } } }

/-- A live-window data byte is acknowledged and buffered (R143); discarded after a reload (R145). -/
def State.liveByte (s : State) (v : Byte) : State := s.writtenByte .writeLive fun t => t.takeLiveByte v

/-- A void-space data byte is acknowledged and discarded (R139). -/
def State.voidByte (s : State) : State := s.writtenByte .writeVoid State.discardByte

/-! ### Bytes read (R138, R140, R141, R145) -/

/-- The row an address lies in. -/
def rowOf (a : BusAddr) : BitVec 12 := a.extractLsb' 4 12

/-- The phase after a byte read: the switch's NACK ends the read. -/
def readPhase (phase : TxnPhase) (switchAck : Bool) : TxnPhase := if switchAck then phase else .readDone

/-- A byte the memory drives is passed on unchanged and the switch's acknowledge of it relayed (R139); both pointers advance
by the read wrap (R140). -/
def State.forwardedByte (s : State) (v : Byte) (switchAck : Bool) : State :=
  if s.bridge.txn.phase = .readForwarded then
    let t := { s with bridge := { s.bridge with combined := nextRead s.bridge.combined
                                                mirror := s.bridge.mirror.map (· + 1) } }
    ((t.setPhase (readPhase .readForwarded switchAck)).drive [if switchAck then .ack else .nack]).answer (.data v)
  else s.outOfPlace

/-- The row snapshot in force at an address: the one held for its row, or a fresh one (R141). -/
def State.snapshotFor (s : State) (a : BusAddr) : BitVec 12 × List Byte :=
  match s.bridge.txn.snapshot with
  | some (row, bytes) => if row = rowOf a then (row, bytes) else (rowOf a, s.rowBytes (rowOf a))
  | none => (rowOf a, s.rowBytes (rowOf a))

/-- The snapshot is kept until the pointer leaves its row (R141). -/
def keepSnapshot (snap : BitVec 12 × List Byte) (next : BusAddr) : Option (BitVec 12 × List Byte) :=
  if snap.1 = rowOf next then some snap else none

/-- A byte the BX8 serves: from the row's snapshot in the live window, 0xFF elsewhere (R141, R145). -/
def State.servedValue (s : State) : Byte :=
  match spaceOf s.bridge.combined with
  | .live => (s.snapshotFor s.bridge.combined).2.getD (s.bridge.combined.toNat % 16) 0
  | _ => 0xFF

/-- The snapshot after a served byte. -/
def State.servedSnapshot (s : State) : Option (BitVec 12 × List Byte) :=
  match spaceOf s.bridge.combined with
  | .live => keepSnapshot (s.snapshotFor s.bridge.combined) (nextRead s.bridge.combined)
  | _ => none

/-- A byte the BX8 serves is sent and the combined pointer advances (R141). -/
def State.servedByte (s : State) (switchAck : Bool) : State :=
  if s.bridge.txn.phase = .readServed then
    let value := s.servedValue
    let snapshot := s.servedSnapshot
    let t := { s with bridge := { s.bridge with combined := nextRead s.bridge.combined
                                                txn := { s.bridge.txn with snapshot } } }
    ((t.setPhase (readPhase .readServed switchAck)).drive []).answer (.data value)
  else s.outOfPlace

/-! ### Ends of a write or read (R138, R139, R143) -/

/-- A word address that is not complete leaves the mirror unknown where the memory took part of it (R139 step 2). -/
def State.leaveWordAddress (s : State) : State :=
  if s.bridge.txn.phase = .wordAddress ∧ s.bridge.memOpen = true then s.mirrorUnknown else s

/-- The write buffer is emptied and its bytes take effect (R143). -/
def State.applyBuffer (s : State) : State :=
  State.applyBytes { s with bridge := { s.bridge with txn := { s.bridge.txn with buffer := [] } } } s.bridge.txn.buffer

/-- A repeated START that begins a new write-addressed transaction drops the row snapshot (log 18). -/
def State.dropSnapshot (s : State) (target : RestartTarget) : State :=
  if target = .write then { s with bridge := { s.bridge with txn := { s.bridge.txn with snapshot := none } } } else s

/-- The address byte after a repeated START in a transaction that carried a reload: acknowledged, nothing forwarded, any
other bus address unacknowledged (R145). -/
def State.restartRunOn (s : State) (target : RestartTarget) : State :=
  match target with
  | .read => s.beginServed
  | .write => ((s.setPhase .wordAddress).drive []).answer .ack
  | .otherAddress => s.endTxn [] .nack

/-- The address byte after a repeated START (R139). Before the word address is complete no rule says what a read or a write then
is; the model's choices are a current-address read by the combined pointer that the transaction has left as it was, and a new
write address phase (log 30). After a read it is taken as after a word address (log 36). -/
def State.restartTo (s : State) (target : RestartTarget) (answer : MemAnswer) : State :=
  match target with
  | .read => s.beginRead answer
  | .write => s.beginWrite (decide (answer ≠ .busy))
  | .otherAddress => s.endTxn s.closing .nack

/-- A repeated START (R139, R143): what the write had buffered takes effect, then the address byte is taken. -/
def State.repeatStart (s : State) (target : RestartTarget) (answer : MemAnswer) : State :=
  if s.bridge.txn.phase.runsOn then
    let t := s.leaveWordAddress.applyBuffer.dropSnapshot target
    if t.bridge.txn.runOn then t.restartRunOn target else t.restartTo target answer
  else s.outOfPlace

/-- The switch's STOP (R139, R143, R144): the memory side is closed where it is open, the port is free, and what the write
had buffered takes effect. -/
def State.stopTxn (s : State) : State :=
  let buffer := s.bridge.txn.buffer
  match s.bridge.txn.phase with
  | .none => s
  | .held => s
  | _ => (s.leaveWordAddress.endTxn s.closing .nothing).applyBytes buffer

/-- ABNORMAL_END on a transaction of the memory side or the switch side (R138, R162): the agent's chunk where the agent holds
the port, by its first word-address byte (log 16), else the switch's transaction. -/
def State.abnormal (s : State) : State :=
  match s.bridge.port with
  | .agent job => s.chunkRefused job (.laterByte 0)
  | .bridge => s.endAbnormally []
  | .free => s

end Sys2Proof.Machine
end

