-- ==== Sys2Proof/Machine/BusEvents.lean ====
section
/-! DEFINITION. The switch-side bus: each event of a switch transaction (R137 to R146). -/

namespace Sys2Proof.Machine

/-- SWITCH_START (R144). -/
def execSwitchStart (s : State) : Host.Outcome State Fault Refusal := .next s.switchStarts

/-- BRIDGE_TAKES_PORT (R144). -/
def execBridgeTakesPort (s : State) : Host.Outcome State Fault Refusal := .next s.givePort

/-- WRITE_ADDRESS_PHASE (R139 step 1, R145). -/
def execWriteAddressPhase (memAck : Bool) (s : State) : Host.Outcome State Fault Refusal := .next (s.writeAddress memAck)

/-- ADDRESS_NOT_FOR_MEMORY (R137). -/
def execAddressNotForMemory (s : State) : Host.Outcome State Fault Refusal := .next s.otherAddress

/-- WORD_ADDRESS (R139 steps 2 and 3): the upper byte is sent first. -/
def execWordAddress (high low : WordByte) (s : State) : Host.Outcome State Fault Refusal := .next (s.wordArrives high low)

/-- MEMORY_WRITE_BYTE (R142). -/
def execMemoryWriteByte (value : Byte) (memAck : Bool) (s : State) : Host.Outcome State Fault Refusal :=
  .next (s.memoryByte value memAck)

/-- LIVE_WINDOW_WRITE_BYTE (R143). -/
def execLiveWindowWriteByte (value : Byte) (s : State) : Host.Outcome State Fault Refusal := .next (s.liveByte value)

/-- VOID_WRITE_BYTE (R139): the value is discarded. -/
def execVoidWriteByte (_value : Byte) (s : State) : Host.Outcome State Fault Refusal := .next s.voidByte

/-- CURRENT_ADDRESS_READ (R140). -/
def execCurrentAddressRead (answer : MemAnswer) (s : State) : Host.Outcome State Fault Refusal := .next (s.readAddress answer)

/-- FORWARDED_READ_BYTE (R140). -/
def execForwardedReadByte (value : Byte) (switchAck : Bool) (s : State) : Host.Outcome State Fault Refusal :=
  .next (s.forwardedByte value switchAck)

/-- SERVED_READ_BYTE (R141). -/
def execServedReadByte (switchAck : Bool) (s : State) : Host.Outcome State Fault Refusal := .next (s.servedByte switchAck)

/-- REPEATED_START (R139). -/
def execRepeatedStart (target : RestartTarget) (answer : MemAnswer) (s : State) : Host.Outcome State Fault Refusal :=
  .next (s.repeatStart target answer)

/-- TRANSACTION_STOP (R143). -/
def execTransactionStop (s : State) : Host.Outcome State Fault Refusal := .next s.stopTxn

/-- ABNORMAL_END (R138). -/
def execAbnormalEnd (s : State) : Host.Outcome State Fault Refusal := .next s.abnormal

end Sys2Proof.Machine
end

