-- ==== Sys2Proof/Machine/Commands.lean ====
section
/-! DEFINITION. The commands and stored values of the live window, each as it takes effect (R143, R148). -/

namespace Sys2Proof.Machine

/-- RETRAIN (R108). -/
def execRetrain (leg : LegId) (s : State) : Host.Outcome State Fault Refusal :=
  .next (s.legCommand leg (·.retrainLeg leg))

/-- PARK (R109). -/
def execPark (leg : LegId) (s : State) : Host.Outcome State Fault Refusal :=
  .next (s.legCommand leg (·.parkLeg leg .park))

/-- UNPARK (R110). -/
def execUnpark (leg : LegId) (s : State) : Host.Outcome State Fault Refusal :=
  .next (s.legCommand leg (·.unparkLeg leg))

/-- CLEAR (R111). -/
def execClear (leg : LegId) (s : State) : Host.Outcome State Fault Refusal :=
  .next (s.legCommand leg fun t => t.clearLeg leg (t.legLanes leg))

/-- RELOAD (R151, R164). -/
def execReload (s : State) : Host.Outcome State Fault Refusal := .next s.reloadHead

/-- CLEAR_EVENT_QUEUE (R151). -/
def execClearEventQueue (s : State) : Host.Outcome State Fault Refusal := .next (s.whenOpen State.clearQueue)

/-- CLEAR_OVERRUN (R151). -/
def execClearOverrun (s : State) : Host.Outcome State Fault Refusal := .next (s.whenOpen State.dropOverrun)

/-- CLEAR_ALL_LEG_COUNTERS (R151). -/
def execClearAllLegCounters (s : State) : Host.Outcome State Fault Refusal := .next (s.whenOpen State.clearAll)

/-- ADVANCE (R157). -/
def execAdvance (s : State) : Host.Outcome State Fault Refusal := .next (s.whenOpen State.advanceQueue)

/-- QUEUE_CLEAR_OVERRUN (R157). -/
def execQueueClearOverrun (s : State) : Host.Outcome State Fault Refusal := .next (s.whenOpen State.dropOverrun)

/-- ACKNOWLEDGE (R155). -/
def execAcknowledge (s : State) : Host.Outcome State Fault Refusal := .next (s.whenOpen State.acknowledgeShown)

/-- SET_VIEW_MODE (R149). -/
def execSetViewMode (value : Byte) (s : State) : Host.Outcome State Fault Refusal :=
  .next (s.whenOpen (·.storeViewMode value))

/-- SET_VIEW_LEG (R149). -/
def execSetViewLeg (value : Byte) (s : State) : Host.Outcome State Fault Refusal :=
  .next (s.whenOpen (·.storeViewLeg value))

/-- SET_FAULT_ATTENTION_MASK (R149). -/
def execSetFaultAttentionMask (value : Byte) (s : State) : Host.Outcome State Fault Refusal :=
  .next (s.whenOpen (·.storeFaultMask value))

/-- SET_EVENT_ATTENTION_MODE (R149). -/
def execSetEventAttentionMode (value : Byte) (s : State) : Host.Outcome State Fault Refusal :=
  .next (s.whenOpen (·.storeEventMode value))

/-- SET_ROLLOVER_ATTENTION_ENABLE (R149). -/
def execSetRolloverAttentionEnable (value : Byte) (s : State) : Host.Outcome State Fault Refusal :=
  .next (s.whenOpen (·.storeRollover value))

/-- LIVE_WINDOW_OTHER_WRITE (R148): a byte that is read-only, unassigned or an undefined command value has no effect. The
two operands say which byte it was and change nothing. -/
def execLiveWindowOtherWrite (_addr : BusAddr) (_value : Byte) (s : State) : Host.Outcome State Fault Refusal := .next s

end Sys2Proof.Machine
end

