-- ==== Sys2Proof/Machine/Requester.lean ====
section
/-! DEFINITION. The requester context: records used and discarded (R62), the policy (R63, R64), requests made (R67), answers
accepted (R68), contentment (R71, R72) and lane failure by a short eye (R73). -/

namespace Sys2Proof.Machine

/-! ### Exhaustion marks (R60, R65) -/

/-- The mark of a tap in the direction of `rising`; (MAIN, -) has none. -/
def Marks.get (m : Marks) (tap : Tap) (rising : Bool) : Bool :=
  match tap, rising with
  | .pre, true => m.prePlus
  | .pre, false => m.preMinus
  | .main, true => m.mainPlus
  | .main, false => false
  | .post, true => m.postPlus
  | .post, false => m.postMinus

/-- The mark of a tap in a direction is set. -/
def Marks.exhaust (m : Marks) (tap : Tap) (rising : Bool) : Marks :=
  match tap, rising with
  | .pre, true => { m with prePlus := true }
  | .pre, false => { m with preMinus := true }
  | .main, true => { m with mainPlus := true }
  | .main, false => m
  | .post, true => { m with postPlus := true }
  | .post, false => { m with postMinus := true }

/-! ### The policy -/

/-- The delta of a PRE or POST request: sign(r) times min(3, floor(|r| / B)) (R64). -/
def policyDelta (r : Int) (band : Nat) : Int :=
  let size : Int := min 3 (r.natAbs / band : Nat)
  if 0 < r then size else -size

/-- What the policy does with a used record (R63). -/
inductive PolicyAct where
  | request (tap : Tap) (delta : Int)
  | content (low : Bool)
  | eyeShort
deriving DecidableEq, Repr

/-- The first of R63's four steps whose condition holds; at the request cap step 4 alone (R66). -/
def policy (p : Profile) (r : Requester) (eye : Nat) (rp rq : Int) : PolicyAct :=
  let asks := decide (r.accepted < Config.requestCap)
  if asks && decide (p.band < rq.natAbs) && !r.marks.get .post (decide (0 < rq)) then .request .post (policyDelta rq p.band)
  else if asks && decide (p.band < rp.natAbs) && !r.marks.get .pre (decide (0 < rp)) then
    .request .pre (policyDelta rp p.band)
  else if asks && decide (eye < p.target) && !r.marks.get .main true then .request .main 1
  else if p.target ≤ eye then .content false
  else if p.minimum ≤ eye then .content true
  else .eyeShort

/-- A request is made (R67 steps 1 to 3). -/
def Requester.make (r : Requester) (tap : Tap) (delta : Int) : Requester :=
  { r with current := some { tap, delta, seq := r.nextSeq }, lastSeq := r.nextSeq, nextSeq := r.nextSeq + 1
           phase := .pending, firstFrame := false }

/-- A request is made and counted (R67). -/
def State.makeRequest (s : State) (i : Lane) (x : Side) (tap : Tap) (delta : Int) : State :=
  s.modExch i x fun e => { e with req := e.req.make tap delta, made := e.made + 1 }

/-- Entry to CONTENT (R71): LANE_TUNED queued, and READY when the partner verdict is CONTENT already (R78). -/
def State.becomeContent (s : State) (n : LegId) (i : Lane) (x : Side) (low : Bool) (eye : Nat) : State :=
  let t := s.modExch i x fun e => { e with req := { e.req with mode := .content } }
  let u := t.queueEvent (some n) (.laneTuned x i low eye (s.exch i x).req.taps)
  if (s.exch i x).partnerVerdict = .content ∧ s.laneState i x = .tune then u.enterReady i x else u

/-- The policy's choice is carried out (R63, R67, R71, R73). -/
def State.policyTake (s : State) (n : LegId) (i : Lane) (x : Side) (eye : Nat) (rp rq : Int) : State :=
  match policy (s.leg n).profile (s.exch i x).req eye rp rq with
  | .request tap delta => s.makeRequest i x tap delta
  | .content low => s.becomeContent n i x low eye
  | .eyeShort => s.laneFailure n i x .eyeShort

/-- Contentment ends (R72 steps 1 and 2): SEEKING again, and a READY lane returns to TUNE. -/
def State.endContentment (s : State) (i : Lane) (x : Side) : State :=
  let t := s.modExch i x fun e => { e with req := { e.req with mode := .seeking } }
  if s.laneState i x = .ready then t.returnToTune i x .ownReceiver else t

/-- A record of a lane in TUNE or READY (R62, R63, R72). -/
def State.requesterRecord (s : State) (n : LegId) (i : Lane) (x : Side) (eye : Nat) (rp rq : Int) : State :=
  let r := (s.exch i x).req
  if r.phase ≠ .idle then s
  else if r.stale then s.modExch i x fun e => { e with req := { e.req with stale := false } }
  else
    match r.mode with
    | .seeking => s.policyTake n i x eye rp rq
    | .content =>
      if (s.leg n).profile.minimum ≤ eye then s else (s.endContentment i x).policyTake n i x eye rp rq

/-! ### Answers -/

/-- A sum kept within -128..127 (R68 step 3). -/
def saturate8 (v : Int) : Int := max (-128) (min 127 v)

def TapsReceived.add (t : TapsReceived) (tap : Tap) (d : Int) : TapsReceived :=
  match tap with
  | .pre => { t with pre := saturate8 (t.pre + d) }
  | .main => { t with main := saturate8 (t.main + d) }
  | .post => { t with post := saturate8 (t.post + d) }

/-- The answer fields of a frame are those of an acceptable answer to request `q` (R68). -/
def Requester.accepts (r : Requester) (q : Request) (f : TuneFields) : Bool :=
  r.phase == .outstanding && !r.firstFrame && f.echo == q.seq && f.outcome != .none

/-- Acceptance of an answer (R68 steps 1 to 6). -/
def Requester.accept (r : Requester) (q : Request) (f : TuneFields) : Requester :=
  { r with lastReceived := { echo := f.echo, applied := f.applied, outcome := f.outcome, limit := f.limit }
           marks := if f.outcome = .held then r.marks.exhaust q.tap (decide (0 < q.delta)) else r.marks
           taps := r.taps.add q.tap f.applied
           accepted := min Config.requestCap (r.accepted + 1)
           current := none, phase := .idle, firstFrame := false, answerTimer := none, stale := true }

/-- The requester reads the answer fields of a frame (R29, R68, R69). -/
def Requester.readAnswer (r : Requester) (f : TuneFields) : Requester :=
  match r.current with
  | some q => if r.accepts q f then r.accept q f else r
  | none => r

def State.takeAnswer (s : State) (i : Lane) (x : Side) (f : TuneFields) : State :=
  s.modExch i x fun e => { e with req := e.req.readAnswer f }

end Sys2Proof.Machine
end

