-- ==== Sys2Proof/Machine/Responder.lean ====
section
/-! DEFINITION. The responder context: which requests are new, the feasible interval, the clamp, the answer (R44 to R51). -/

namespace Sys2Proof.Machine

/-! ### The feasible interval and the answer -/

def Coef.get (t : Coef) : Tap → Nat
  | .pre => t.pre
  | .main => t.main
  | .post => t.post

def Coef.set (t : Coef) (tap : Tap) (v : Nat) : Coef :=
  match tap with
  | .pre => { t with pre := v }
  | .main => { t with main := v }
  | .post => { t with post := v }

/-- The terms of the upper bound in the order TAP, CEILING, FLOOR, each with its limit (R45, R48). -/
def highTerms (c f : Nat) (t : Coef) : Tap → List (AnswerLimit × Int)
  | .pre => [(.tap, 15), (.ceiling, (c : Int) - t.main - t.post), (.floor, (t.main : Int) - t.post - f)]
  | .post => [(.tap, 23), (.ceiling, (c : Int) - t.main - t.pre), (.floor, (t.main : Int) - t.pre - f)]
  | .main => [(.tap, 60), (.ceiling, (c : Int) - t.pre - t.post)]

/-- The terms of the lower bound in the order TAP, FLOOR, each with its limit (R45, R48). -/
def lowTerms (f : Nat) (t : Coef) : Tap → List (AnswerLimit × Int)
  | .pre => [(.tap, 0)]
  | .post => [(.tap, 0)]
  | .main => [(.tap, 20), (.floor, (f : Int) + t.pre + t.post)]

/-- The upper bound of the feasible interval (R45): the least of its terms. -/
def highBound (c f : Nat) (t : Coef) (tap : Tap) : Int :=
  match tap with
  | .pre => min 15 (min ((c : Int) - t.main - t.post) ((t.main : Int) - t.post - f))
  | .post => min 23 (min ((c : Int) - t.main - t.pre) ((t.main : Int) - t.pre - f))
  | .main => min 60 ((c : Int) - t.pre - t.post)

/-- The lower bound of the feasible interval (R45): the greatest of its terms. -/
def lowBound (f : Nat) (t : Coef) (tap : Tap) : Int :=
  match tap with
  | .pre => 0
  | .post => 0
  | .main => max 20 ((f : Int) + t.pre + t.post)

/-- The wanted value clamped into the feasible interval (R46 steps 1 and 2). -/
def newTap (c f : Nat) (t : Coef) (tap : Tap) (delta : Int) : Int :=
  let wanted : Int := (t.get tap : Int) + delta
  if wanted < lowBound f t tap then lowBound f t tap
  else if highBound c f t tap < wanted then highBound c f t tap
  else wanted

/-- The applied delta (R46 step 3). -/
def appliedDelta (c f : Nat) (t : Coef) (tap : Tap) (delta : Int) : Int := newTap c f t tap delta - (t.get tap : Int)

/-- The outcome (R47). -/
def outcomeOf (delta applied : Int) : AnswerOutcome :=
  if applied = delta then .applied else if applied = 0 then .held else .trimmed

/-- The first of the terms that equals the bound (R48). -/
def firstLimit (terms : List (AnswerLimit × Int)) (bound : Int) : AnswerLimit :=
  match terms.find? fun t => t.2 == bound with
  | some t => t.1
  | none => .none

/-- The limit of an answer (R48): NONE when applied whole, else the limit of the bound reached. -/
def limitOf (c f : Nat) (t : Coef) (tap : Tap) (delta : Int) : AnswerLimit :=
  if appliedDelta c f t tap delta = delta then .none
  else if 0 < delta then firstLimit (highTerms c f t tap) (highBound c f t tap)
  else firstLimit (lowTerms f t tap) (lowBound f t tap)

/-- The in-use set after the request (R46 step 4). -/
def moveTap (c f : Nat) (t : Coef) (tap : Tap) (delta : Int) : Coef := t.set tap (newTap c f t tap delta).toNat

/-- The answer to a request on PRE, MAIN or POST (R46 to R49). -/
def answerFor (c f : Nat) (t : Coef) (tap : Tap) (delta : Int) (seq : BitVec 3) : Answer :=
  let applied := appliedDelta c f t tap delta
  { echo := seq, applied, outcome := outcomeOf delta applied, limit := limitOf c f t tap delta }

/-! ### Taking the request fields -/

/-- An answer given: it becomes the last answer, its sequence the last answered, and the count rises (R44, R49). -/
def Exchange.give (e : Exchange) (a : Answer) : Exchange :=
  { e with lastGiven := a, lastAnswered := some a.echo, answered := e.answered + 1 }

/-- A new request on PRE, MAIN or POST is processed (R45 to R50). -/
def State.processTap (s : State) (i : Lane) (x : Side) (tap : Tap) (delta : Int) (seq : BitVec 3) : State :=
  let prof := s.profileAt i
  let t := (s.txPath i x).inUse
  (s.modTx i x fun p => { p with inUse := moveTap prof.ceiling prof.floor t tap delta }).modExch i x fun e =>
    e.give (answerFor prof.ceiling prof.floor t tap delta seq)

/-- A new RESTART request loads the start set of the working class, COLD (R51). -/
def State.processRestart (s : State) (i : Lane) (x : Side) (seq : BitVec 3) : State :=
  (s.modTx i x fun p => { p with inUse := p.start.get (s.workingClass i) }).modExch i x fun e =>
    { e.give { echo := seq, applied := 0, outcome := .applied, limit := .none } with warm := false }

/-- The responder takes the request fields of a frame (R27, R44): tap NONE carries no request, a sequence equal to the last
answered one is a repeat. -/
def State.takeRequest (s : State) (i : Lane) (x : Side) (f : TuneFields) : State :=
  if (s.exch i x).lastAnswered = some f.seq then s
  else
    match f.tap with
    | .none => s
    | .pre => s.processTap i x .pre f.delta f.seq
    | .main => s.processTap i x .main f.delta f.seq
    | .post => s.processTap i x .post f.delta f.seq
    | .restart => s.processRestart i x f.seq

end Sys2Proof.Machine
end

