-- ==== Sys2Proof/Machine/Arrival.lean ====
section
/-! DEFINITION. A frame's arrival at an exchange (R24, R25, R33, R78, R80, R86 to R92) and the start of a frame interval
(R21, R26, R28, R30, R31). -/

namespace Sys2Proof.Machine

/-! ### Arrival -/

/-- Verdict and count of a TUNE frame are recorded (R30, R31). -/
def State.recordHandover (s : State) (i : Lane) (x : Side) (f : TuneFields) : State :=
  s.modExch i x fun e => { e with partnerVerdict := f.verdict, partnerCount := f.count }

/-- The side of lane `i` is released (R83). -/
def State.isReleased (s : State) (n : LegId) (x : Side) : Bool := (s.leg n).released.get x

/-- What the verdict of a TUNE frame does to a lane in TUNE or READY (R78, R80, R86). -/
def State.handoverMove (s : State) (n : LegId) (i : Lane) (x : Side) (v : Verdict) : State :=
  match s.laneState i x, v with
  | .tune, .content => if (s.exch i x).req.mode = .content then s.enterReady i x else s
  | .ready, .content => if s.isReleased n x then s.enterCount i x else s
  | .ready, .seeking => s.returnToTune i x .partnerRevert
  | _, _ => s

/-- A valid TUNE frame taken in TUNE or READY (R25): watch started again, verdict and count recorded, then the request
fields, then the answer fields (log 9). -/
def State.tuneInTraining (s : State) (n : LegId) (i : Lane) (x : Side) (f : TuneFields) : State :=
  ((((s.startWatch i x).recordHandover i x f).handoverMove n i x f.verdict).takeRequest i x f).takeAnswer i x f

/-- A partner revert of a lane in COUNT or DATA (R90, R91, R92). -/
def State.partnerRevert (s : State) (n : LegId) (i : Lane) (x : Side) : State :=
  (s.returnToTune i x .partnerRevert).revertLeg n x

/-- A partner count of 0 recorded in COUNT sets partner zero seen, and may complete the handover (R31, R88). -/
def State.countArrived (s : State) (i : Lane) (x : Side) : State :=
  (s.modExch i x fun e => { e with zeroSeen := e.zeroSeen || e.partnerCount == 0 }).dataIfBoth i x

/-- A valid TUNE frame at an exchange of leg `n`, by lane state (R25). -/
def State.takeTune (s : State) (n : LegId) (i : Lane) (x : Side) (f : TuneFields) : State :=
  match s.laneState i x with
  | .quiet => s
  | .listen => if (s.rxPath i x).signal then (s.enterTune i x).tuneInTraining n i x f else s
  | .tune => s.tuneInTraining n i x f
  | .ready => s.tuneInTraining n i x f
  | .count =>
    match f.verdict with
    | .content => (s.recordHandover i x f).countArrived i x
    | .seeking => (s.recordHandover i x f).partnerRevert n i x
  | .data =>
    match f.verdict with
    | .content => s.recordHandover i x f
    | .seeking => (s.recordHandover i x f).partnerRevert n i x

/-- A valid FILL frame at an exchange, by lane state (R33, R80). -/
def State.takeFill (s : State) (i : Lane) (x : Side) : State :=
  match s.laneState i x with
  | .quiet => s
  | .listen => s
  | .tune => (s.startWatch i x).modExch i x fun e => { e with partnerVerdict := .seeking }
  | .ready =>
    ((s.startWatch i x).modExch i x fun e => { e with partnerVerdict := .seeking }).returnToTune i x .partnerRevert
  | .count => (s.modExch i x fun e => { e with partnerVerdict := .content, partnerCount := 0 }).countArrived i x
  | .data => s.modExch i x fun e => { e with partnerVerdict := .content, partnerCount := 0 }

/-- An invalid frame adds 1 to the bad-frame count of a lane that is not QUIET (R24). -/
def State.takeInvalid (s : State) (i : Lane) (x : Side) : State :=
  if s.laneState i x = .quiet then s
  else s.modExch i x fun e => { e with badFrames := min 255 (e.badFrames + 1) }

/-- The supervisor hears of every change of the lane's state (R82). -/
def State.reportIfMoved (before after : State) (n : LegId) (i : Lane) (x : Side) : State :=
  if after.laneState i x = before.laneState i x then after else after.laneReport n

/-- A control word arrives at lane `i` side `x`: the word decides what it is (R23); on a lane that no leg owns it is
discarded (R6, R19, R24). -/
def State.arrive (s : State) (i : Lane) (x : Side) (w : ControlWord) : State :=
  match s.owner i with
  | none => s
  | some n =>
    match readWord w with
    | none => s.takeInvalid i x
    | some (.tune f) => s.reportIfMoved (s.takeTune n i x f) n i x
    | some (.fill _) => s.reportIfMoved (s.takeFill i x) n i x

/-! ### Frames sent -/

def Tap.request : Tap → ReqTap
  | .pre => .pre
  | .main => .main
  | .post => .post

/-- The request fields sent: tap, delta, sequence (R26). -/
def Exchange.requestFields (e : Exchange) : ReqTap × Int × BitVec 3 :=
  match e.lane with
  | .listen => (.none, 0, 0)
  | .tune =>
    match e.req.mode, e.req.current with
    | .seeking, some q => (q.tap.request, q.delta, q.seq)
    | _, _ => (.none, 0, e.req.lastSeq)
  | _ => (.none, 0, e.req.lastSeq)

/-- The answer fields sent (R28). -/
def Exchange.answerFields (e : Exchange) : Answer := if e.lane = .listen then .blank else e.lastGiven

/-- The verdict sent (R30): withheld in READY until the side is released. -/
def Exchange.verdictSent (e : Exchange) (released : Bool) : Verdict :=
  match e.lane with
  | .ready => if released then .content else .seeking
  | .count => .content
  | _ => .seeking

/-- The handover count sent: 15 but in COUNT (R31). -/
def Exchange.countSent (e : Exchange) : BitVec 4 := if e.lane = .count then e.ownCount else 15

/-- The fields of the tuning frame composed from the exchange (R21, R26, R28, R30, R31). -/
def Exchange.compose (e : Exchange) (released : Bool) : TuneFields :=
  let q := e.requestFields
  let a := e.answerFields
  { tap := q.1, delta := q.2.1, seq := q.2.2, echo := a.echo, applied := a.applied, outcome := a.outcome, limit := a.limit
    verdict := e.verdictSent released, count := e.countSent }

/-- The release flag of the side of the leg that owns lane `i`. -/
def State.releasedAt (s : State) (i : Lane) (x : Side) : Bool :=
  match s.owner i with
  | some n => (s.leg n).released.get x
  | none => false

/-- A frame begins: the word is on the line, shaped by the in-use set of that instant (R3, R21). -/
def State.beginFrame (s : State) (i : Lane) (x : Side) (w : ControlWord) : State :=
  s.modTx i x fun p => { p with line := .frame w, lineSet := p.inUse }

/-- At the start of the first frame that carries a request it becomes OUTSTANDING and the answer timer starts; at the next
start that first frame has ended (R67, R68). -/
def Requester.frameStarts (r : Requester) (now : Nat) : Requester :=
  match r.phase with
  | .pending => { r with phase := .outstanding, firstFrame := true, answerTimer := some (now + Config.answerMicros) }
  | .outstanding => { r with firstFrame := false }
  | .idle => r

/-- A tuning frame begins (R21, R67). -/
def State.sendTuning (s : State) (i : Lane) (x : Side) : State :=
  let t := s.modExch i x fun e => { e with req := e.req.frameStarts s.now }
  t.beginFrame i x (tuneWord ((t.exch i x).compose (t.releasedAt i x)))

/-- The transmitter serves its order at the start of an interval (R16, R18, R32). -/
def State.serve (s : State) (i : Lane) (x : Side) : State :=
  match (s.exch i x).order with
  | .standby => s.beginFrame i x (fillWord .standby)
  | .gap => s.beginFrame i x (fillWord .gap)
  | .fault => s.beginFrame i x (fillWord .fault)
  | .data => s.modTx i x fun p => { p with line := .data, lineSet := p.inUse }
  | .quiet => s.modTx i x fun p => { p with line := .quiet }

/-- The next count of a lane in COUNT: 7 in the first frame and one less in each after it (R31, R87). -/
def nextCount (c : BitVec 4) : BitVec 4 := if c = 15 then 7 else c - 1

/-- The count-0 frame of a lane in COUNT ends: its transmitter follows the service order, and the lane enters DATA if
partner zero is seen (R87, R88). -/
def State.endCountZero (s : State) (i : Lane) (x : Side) : State :=
  match s.owner i with
  | none => s
  | some n =>
    let e := s.exch i x
    if e.lane = .count ∧ e.ownCount = 0 ∧ e.countEnded = false then
      let t := (s.modExch i x fun e => { e with countEnded := true }).modTx i x fun p =>
        { p with line := LineOut.gap.obey e.order }
      s.reportIfMoved (t.dataIfBoth i x) n i x
    else s

/-- The start of a frame interval of one transmit path (R21), after the count-0 frame that ends with it (log 9). -/
def State.startInterval (s : State) (i : Lane) (x : Side) : State :=
  let t := s.endCountZero i x
  match t.laneState i x with
  | .quiet => t
  | .listen => t.sendTuning i x
  | .tune => t.sendTuning i x
  | .ready => t.sendTuning i x
  | .count =>
    if (t.exch i x).countEnded then t.serve i x
    else (t.modExch i x fun e => { e with ownCount := nextCount e.ownCount }).sendTuning i x
  | .data => t.serve i x

end Sys2Proof.Machine
end

