-- ==== Sys2Proof/Machine/Eye.lean ====
section
/-! DEFINITION. The eye monitor's answer to a measurement record (R129, R130, R132). -/

namespace Sys2Proof.Machine

/-- The first record after the entry to DATA primes the path (R129 steps 1 to 3). -/
def EyeMonitor.prime (m : EyeMonitor) (eye : Nat) : EyeMonitor :=
  { m with acc := 8 * eye, current := eye, minimum := eye, maximum := eye, phase := .running, valid := true }

/-- A record in RUNNING updates the path (R130 steps 1 to 3). -/
def EyeMonitor.update (m : EyeMonitor) (eye : Nat) : EyeMonitor :=
  let acc := m.acc - m.acc / 8 + eye
  { m with acc, current := acc / 8, minimum := min m.minimum (acc / 8), maximum := max m.maximum (acc / 8) }

/-- The alarm test on the current average against level `level` (R132). -/
def EyeMonitor.alarmTest (m : EyeMonitor) (level : Nat) : EyeMonitor :=
  let counts := if m.alarm then decide (level + 4 ≤ m.current) else decide (m.current < level)
  if counts then
    if m.run + 1 = 8 then { m with alarm := !m.alarm, run := 0 } else { m with run := m.run + 1 }
  else { m with run := 0 }

/-- A record that reaches the monitor, by phase (R128 to R132). -/
def EyeMonitor.take (m : EyeMonitor) (level eye : Nat) : EyeMonitor :=
  match m.phase with
  | .idle => m
  | .priming => (m.prime eye).alarmTest level
  | .running => (m.update eye).alarmTest level

/-- A record of a path in DATA (R15): the monitor takes it, and an alarm change reaches the supervisor (R135). -/
def State.eyeRecord (s : State) (n : LegId) (i : Lane) (x : Side) (eye : Nat) : State :=
  (s.modRx i x fun r => { r with eye := r.eye.take (s.leg n).profile.alarmLevel eye }).marginCheck n

end Sys2Proof.Machine
end

