-- ==== Sys2Proof/Machine/LaneEvents.lean ====
section
/-! DEFINITION. The events of the lanes: signals, measurement records, frames, frame intervals and the two exchange timers. -/

namespace Sys2Proof.Machine

/-! ### Signal events (R14, R116 to R118, R123) -/

/-- The signal flag of a receive path. -/
def State.setSignal (s : State) (i : Lane) (x : Side) (present : Bool) : State :=
  s.modRx i x fun r => { r with signal := present }

/-- A loss on a lane in DATA, by leg state (R14, R116, R117, R123). -/
def State.lossInData (s : State) (n : LegId) (i : Lane) (x : Side) : State :=
  match (s.leg n).state with
  | .training => (s.enterListen i x).laneReport n
  | .up => s.enterHeld n
  | .held => s.deriveOrders n
  | .lost => (s.startSide n x).laneReport n
  | _ => s

/-- Signal lost on the receive path of lane `i` side `x` (R14, R6). -/
def State.loseSignal (s : State) (i : Lane) (x : Side) : State :=
  let t := s.setSignal i x false
  match s.owner i with
  | none => t
  | some n =>
    match s.laneState i x with
    | .quiet => t
    | .listen => t
    | .tune => (t.enterListen i x).laneReport n
    | .ready => (t.enterListen i x).laneReport n
    | .count => (t.enterListen i x).laneReport n
    | .data => t.lossInData n i x

/-- A restore reported to the supervisor (R14, R117, R118): in HELD the last one ends the episode. -/
def State.restoreReported (s : State) (n : LegId) : State :=
  match (s.leg n).state with
  | .held => if s.sideLost n .s || s.sideLost n .c then s.deriveOrders n else s.endGlitch n
  | _ => s

/-- Signal restored on the receive path of lane `i` side `x` (R14, R6). -/
def State.regainSignal (s : State) (i : Lane) (x : Side) : State :=
  let t := s.setSignal i x true
  match s.owner i with
  | none => t
  | some n =>
    match s.laneState i x with
    | .quiet => t
    | .listen => t
    | _ => t.restoreReported n

/-! ### Measurement records (R2, R15) -/

/-- A value of a record delivered while the signal flag is ABSENT is 0 (R2). -/
def seen {w : Nat} (signal : Bool) (v : BitVec w) : BitVec w := if signal then v else 0

/-- A measurement record goes where the lane state directs (R15); on a spare lane it is discarded (R6). -/
def State.takeRecord (s : State) (i : Lane) (x : Side) (eye rp rq : BitVec 7) : State :=
  match s.owner i with
  | none => s
  | some n =>
    let flag := (s.rxPath i x).signal
    let e := (seen flag eye).toNat
    match s.laneState i x with
    | .tune => s.reportIfMoved (s.requesterRecord n i x e (seen flag rp).toInt (seen flag rq).toInt) n i x
    | .ready => s.reportIfMoved (s.requesterRecord n i x e (seen flag rp).toInt (seen flag rq).toInt) n i x
    | .data => s.eyeRecord n i x e
    | _ => s

/-! ### Timers of an exchange (R34, R70) -/

/-- A frame-silence restart (R34 step 2): back to LISTEN, counted in TRAINING. -/
def State.restartExchange (s : State) (n : LegId) (i : Lane) (x : Side) : State :=
  let t := s.enterListen i x
  let u := if (s.leg n).state = .training then t.modExch i x fun e => { e with restarts := e.restarts + 1 } else t
  u.laneReport n

/-- The frame-silence watch expires (R34): in TRAINING with three restarts made the lane fails, else the exchange restarts. -/
def State.silence (s : State) (n : LegId) (i : Lane) (x : Side) : State :=
  if (s.leg n).state = .training ∧ 3 ≤ (s.exch i x).restarts then
    s.reportIfMoved (s.laneFailure n i x .frameSilence) n i x
  else s.restartExchange n i x

/-- The watch runs, so its expiry can be: the leg and the expiry instant (R34). -/
def State.watchRunning (s : State) (i : Lane) (x : Side) : Option (LegId × Nat) :=
  if s.laneState i x = .tune ∨ s.laneState i x = .ready then
    match s.owner i, (s.exch i x).watch with
    | some n, some w => some (n, w)
    | _, _ => none
  else none

/-- The answer timer runs, so its expiry can be: the leg and the expiry instant (R70). -/
def State.answerRunning (s : State) (i : Lane) (x : Side) : Option (LegId × Nat) :=
  if s.laneState i x = .tune then
    match s.owner i, (s.exch i x).req.answerTimer with
    | some n, some w => some (n, w)
    | _, _ => none
  else none

/-! ### The commands -/

/-- SIGNAL_LOST (R14); the detectors do not track while the reset input is asserted (R19). -/
def execSignalLost (lane : Lane) (side : Side) (sentAt : Nat) (s : State) : Host.Outcome State Fault Refusal :=
  .next (if s.resetHeld then s else (s.reach sentAt).loseSignal lane side)

/-- SIGNAL_RESTORED (R14); the detectors do not track while the reset input is asserted (R19). -/
def execSignalRestored (lane : Lane) (side : Side) (sentAt : Nat) (s : State) : Host.Outcome State Fault Refusal :=
  .next (if s.resetHeld then s else (s.reach sentAt).regainSignal lane side)

/-- MEASUREMENT_RECORD (R15). -/
def execMeasurementRecord (lane : Lane) (side : Side) (eye rp rq : BitVec 7) (s : State) : Host.Outcome State Fault Refusal :=
  .next (s.takeRecord lane side eye rp rq)

/-- TUNE_FRAME_ARRIVES (R25). -/
def execTuneFrameArrives (lane : Lane) (side : Side) (word : ControlWord) (s : State) : Host.Outcome State Fault Refusal :=
  .next (s.arrive lane side word)

/-- FILL_FRAME_ARRIVES (R33). -/
def execFillFrameArrives (lane : Lane) (side : Side) (word : ControlWord) (s : State) : Host.Outcome State Fault Refusal :=
  .next (s.arrive lane side word)

/-- INVALID_FRAME (R24). -/
def execInvalidFrame (lane : Lane) (side : Side) (word : ControlWord) (s : State) : Host.Outcome State Fault Refusal :=
  .next (s.arrive lane side word)

/-- FRAME_INTERVAL_START (R21). -/
def execFrameIntervalStart (lane : Lane) (side : Side) (s : State) : Host.Outcome State Fault Refusal :=
  .next (s.startInterval lane side)

/-- COUNT_ZERO_FRAME_END (R87, R88). -/
def execCountZeroFrameEnd (lane : Lane) (side : Side) (s : State) : Host.Outcome State Fault Refusal :=
  .next (s.endCountZero lane side)

/-- FRAME_SILENCE_EXPIRY (R34); no effect while the watch is stopped. -/
def execFrameSilenceExpiry (lane : Lane) (side : Side) (s : State) : Host.Outcome State Fault Refusal :=
  match s.watchRunning lane side with
  | some (n, instant) => .next ((s.reach instant).silence n lane side)
  | none => .next s

/-- ANSWER_TIMER_EXPIRY (R70, R74); no effect while the timer is stopped. -/
def execAnswerTimerExpiry (lane : Lane) (side : Side) (s : State) : Host.Outcome State Fault Refusal :=
  match s.answerRunning lane side with
  | some (n, instant) =>
    let t := s.reach instant
    .next (t.reportIfMoved (t.laneFailure n lane side .answerTimeout) n lane side)
  | none => .next s

end Sys2Proof.Machine
end

