-- ==== Sys2Proof/Machine/LegEvents.lean ====
section
/-! DEFINITION. The expiries of the four leg timers and the tick of the head clock. -/

namespace Sys2Proof.Machine

/-- TRAINING_BUDGET_EXPIRY (R105, R106); no effect while the timer is stopped. -/
def execTrainingBudgetExpiry (leg : LegId) (s : State) : Host.Outcome State Fault Refusal :=
  match (s.leg leg).state, (s.leg leg).budget with
  | .training, some instant => .next ((s.reach instant).failAttempt leg .budget .trainTimeout .budget)
  | _, _ => .next s

/-- BACKOFF_EXPIRY (R107, R101); no effect while the timer is stopped. -/
def execBackoffExpiry (leg : LegId) (s : State) : Host.Outcome State Fault Refusal :=
  match (s.leg leg).state, (s.leg leg).backoff with
  | .down, some instant => .next ((s.reach instant).boundary leg .backoff)
  | _, _ => .next s

/-- BRIDGE_EXPIRY (R119); no effect while the timer is stopped. -/
def execBridgeExpiry (leg : LegId) (s : State) : Host.Outcome State Fault Refusal :=
  match (s.leg leg).state, (s.leg leg).bridge with
  | .held, some instant => .next ((s.reach instant).enterLost leg)
  | _, _ => .next s

/-- CUT_EXPIRY (R125, R106); no effect while the timer is stopped. -/
def execCutExpiry (leg : LegId) (s : State) : Host.Outcome State Fault Refusal :=
  match (s.leg leg).state, (s.leg leg).cut with
  | .lost, some instant => .next ((s.reach instant).failAttempt leg .cut .legCut .cut)
  | _, _ => .next s

/-- The instant of the next millisecond. The spec gives a tick and another event of one whole millisecond no order; that a tick
always moves the time on, so that the tick of a millisecond must come before the events sent at it, is the model's choice
(log 2). -/
def nextMillisecond (now : Nat) : Nat := (now / 1000 + 1) * 1000

/-- The head clock rises by 1 and wraps (R158); the spacing of failure records runs with it (R166). -/
def State.tick (s : State) : State :=
  { s with now := nextMillisecond s.now, report := { s.report with headClock := s.report.headClock + 1 }
           agent := { s.agent with spacing := s.agent.spacing - 1 } }

/-- HEAD_CLOCK_TICK (R158); the clock stands at 0 while the reset input is asserted (R160). -/
def execHeadClockTick (s : State) : Host.Outcome State Fault Refusal := .next (if s.resetHeld then s else s.tick)

end Sys2Proof.Machine
end

