-- ==== Sys2Proof/Machine/ResetEvents.lean ====
section
/-! DEFINITION. Power-on and the reset input: POWER_ON, RESET_LINE_ASSERT, RESET_LINE_RELEASE. -/

namespace Sys2Proof.Machine

/-- What the switch sees of the transaction that a reset cuts off: its next byte unacknowledged (R146). -/
def cutOffAnswer (phase : TxnPhase) : SwitchAnswer := if phase = .none then .nothing else .nack

/-- The reset values while the reset input is asserted: those of power-on with cause LINE, no load begun, a transaction open
at the memory left open (R146), the pending copies as they were, for no rule sets them (log 6). -/
def State.heldInReset (s : State) : State :=
  { State.reset with
    resetHeld := true
    resetCause := .line
    agent := { Agent.initial with load := none }
    bridge := { Bridge.initial with memOpen := s.bridge.memOpen, toSwitch := cutOffAnswer s.bridge.txn.phase }
    pendingHeader := s.pendingHeader
    pendingLegs := s.pendingLegs
    freeCount := s.freeCount
    pending := s.pending }

/-- The load begins at the release of the reset input (R162). -/
def State.releaseReset (s : State) : State :=
  if s.resetHeld then
    { s with resetHeld := false, head := .loading, resetCause := .line
             report := { s.report with headClock := 0 }
             agent := { s.agent with load := Agent.initial.load } }
  else s

/-- POWER_ON (R19): every value of the reset tables, then the load begins; the commands that wait and the counter of free
choices are the model's and stay (logs 1 and 23).  Given while the reset input is asserted, it clears `resetHeld` and begins
the load at once: DESIGN CHOICE (log 37), for no rule says whether the part then stays held in reset. -/
def execPowerOn (s : State) : Host.Outcome State Fault Refusal :=
  .next { State.reset with freeCount := s.freeCount, pending := s.pending }

/-- RESET_LINE_ASSERT (R19, R146). -/
def execResetLineAssert (s : State) : Host.Outcome State Fault Refusal := .next s.heldInReset

/-- RESET_LINE_RELEASE (R19, R158, R160, R162). -/
def execResetLineRelease (s : State) : Host.Outcome State Fault Refusal := .next s.releaseReset

end Sys2Proof.Machine
end

