-- ==== Sys2Proof/Machine/Dispatch.lean ====
section
/-! DEFINITION. One arm for each command of the opcode table. -/

namespace Sys2Proof.Machine

def exec (i : Instr) (s : State) : Host.Outcome State Fault Refusal :=
  match i with
  | .powerOn => Sys2Proof.Machine.execPowerOn s
  | .resetLineAssert => Sys2Proof.Machine.execResetLineAssert s
  | .resetLineRelease => Sys2Proof.Machine.execResetLineRelease s
  | .signalLost lane side sentAt => Sys2Proof.Machine.execSignalLost lane side sentAt s
  | .signalRestored lane side sentAt => Sys2Proof.Machine.execSignalRestored lane side sentAt s
  | .measurementRecord lane side eye preResidual postResidual => Sys2Proof.Machine.execMeasurementRecord lane side eye preResidual postResidual s
  | .tuneFrameArrives lane side word => Sys2Proof.Machine.execTuneFrameArrives lane side word s
  | .fillFrameArrives lane side word => Sys2Proof.Machine.execFillFrameArrives lane side word s
  | .invalidFrame lane side word => Sys2Proof.Machine.execInvalidFrame lane side word s
  | .frameIntervalStart lane side => Sys2Proof.Machine.execFrameIntervalStart lane side s
  | .countZeroFrameEnd lane side => Sys2Proof.Machine.execCountZeroFrameEnd lane side s
  | .frameSilenceExpiry lane side => Sys2Proof.Machine.execFrameSilenceExpiry lane side s
  | .answerTimerExpiry lane side => Sys2Proof.Machine.execAnswerTimerExpiry lane side s
  | .trainingBudgetExpiry leg => Sys2Proof.Machine.execTrainingBudgetExpiry leg s
  | .backoffExpiry leg => Sys2Proof.Machine.execBackoffExpiry leg s
  | .bridgeExpiry leg => Sys2Proof.Machine.execBridgeExpiry leg s
  | .cutExpiry leg => Sys2Proof.Machine.execCutExpiry leg s
  | .headClockTick => Sys2Proof.Machine.execHeadClockTick s
  | .retrain leg => Sys2Proof.Machine.execRetrain leg s
  | .park leg => Sys2Proof.Machine.execPark leg s
  | .unpark leg => Sys2Proof.Machine.execUnpark leg s
  | .clear leg => Sys2Proof.Machine.execClear leg s
  | .reload => Sys2Proof.Machine.execReload s
  | .clearEventQueue => Sys2Proof.Machine.execClearEventQueue s
  | .clearOverrun => Sys2Proof.Machine.execClearOverrun s
  | .clearAllLegCounters => Sys2Proof.Machine.execClearAllLegCounters s
  | .advance => Sys2Proof.Machine.execAdvance s
  | .queueClearOverrun => Sys2Proof.Machine.execQueueClearOverrun s
  | .acknowledge => Sys2Proof.Machine.execAcknowledge s
  | .setViewMode value => Sys2Proof.Machine.execSetViewMode value s
  | .setViewLeg value => Sys2Proof.Machine.execSetViewLeg value s
  | .setFaultAttentionMask value => Sys2Proof.Machine.execSetFaultAttentionMask value s
  | .setEventAttentionMode value => Sys2Proof.Machine.execSetEventAttentionMode value s
  | .setRolloverAttentionEnable value => Sys2Proof.Machine.execSetRolloverAttentionEnable value s
  | .liveWindowOtherWrite addr value => Sys2Proof.Machine.execLiveWindowOtherWrite addr value s
  | .switchStart => Sys2Proof.Machine.execSwitchStart s
  | .bridgeTakesPort => Sys2Proof.Machine.execBridgeTakesPort s
  | .writeAddressPhase memAck => Sys2Proof.Machine.execWriteAddressPhase memAck s
  | .addressNotForMemory => Sys2Proof.Machine.execAddressNotForMemory s
  | .wordAddress high low => Sys2Proof.Machine.execWordAddress high low s
  | .memoryWriteByte value memAck => Sys2Proof.Machine.execMemoryWriteByte value memAck s
  | .liveWindowWriteByte value => Sys2Proof.Machine.execLiveWindowWriteByte value s
  | .voidWriteByte value => Sys2Proof.Machine.execVoidWriteByte value s
  | .currentAddressRead answer => Sys2Proof.Machine.execCurrentAddressRead answer s
  | .forwardedReadByte value switchAck => Sys2Proof.Machine.execForwardedReadByte value switchAck s
  | .servedReadByte switchAck => Sys2Proof.Machine.execServedReadByte switchAck s
  | .repeatedStart target answer => Sys2Proof.Machine.execRepeatedStart target answer s
  | .transactionStop => Sys2Proof.Machine.execTransactionStop s
  | .abnormalEnd => Sys2Proof.Machine.execAbnormalEnd s
  | .busRecovery => Sys2Proof.Machine.execBusRecovery s
  | .agentTakesPort => Sys2Proof.Machine.execAgentTakesPort s
  | .headerChunk bytes => Sys2Proof.Machine.execHeaderChunk bytes s
  | .legRecordChunk bytes => Sys2Proof.Machine.execLegRecordChunk bytes s
  | .ringSlotRead bytes => Sys2Proof.Machine.execRingSlotRead bytes s
  | .chunkRetry => Sys2Proof.Machine.execChunkRetry s
  | .loadChunkTimeout => Sys2Proof.Machine.execLoadChunkTimeout s
  | .reloadLoadStart => Sys2Proof.Machine.execReloadLoadStart s
  | .recordWritten => Sys2Proof.Machine.execRecordWritten s
  | .failureRecordRetry => Sys2Proof.Machine.execFailureRecordRetry s
  | .failureRecordTimeout => Sys2Proof.Machine.execFailureRecordTimeout s
  | .chunkNotAcknowledged nackAt => Sys2Proof.Machine.execChunkNotAcknowledged nackAt s

end Sys2Proof.Machine
end

