-- ==== Sys2Proof/Machine/Step.lean ====
section
/-! DEFINITION. One step: the command at the front of the queue. -/

namespace Sys2Proof.Machine

/-- The queue without its front. -/
def State.popped (s : State) : State := { s with pending := s.pending.tail }

/-- The command at the front of the queue is taken and acts on the state with the queue's rest; with no command waiting the
block idles (log 1). -/
def step (s : State) : Host.Outcome State Fault Refusal :=
  match s.pending with
  | [] => .next s
  | c :: _ => exec c s.popped

/-- The state with the command that a word spells put in front of the queue; no word spells one (log 5). -/
def State.withFetchWord (s : State) (nbits w : Nat) : State :=
  match decodeTableWord nbits w with
  | some c => { s with pending := c :: s.pending }
  | none => s

end Sys2Proof.Machine
end

