-- ==== Sys2Proof/Safety.lean ====
section
/-! DEFINITION. What holds of the part in every state it reaches: the laws of the manual's chapters as predicates over
State, in the words the statements use. -/

namespace Sys2Proof.Machine

/-! ### Report unit (R153, R156, R159) -/

/-- Each record's sequence is followed by the next one's, and the last one's by `next` (R156). -/
def sequencesRunTo : List EventRecord → Byte → Prop
  | [], _ => True
  | [r], next => r.seq + 1 = next
  | r :: r' :: rest, next => r.seq + 1 = r'.seq ∧ sequencesRunTo (r' :: rest) next

/-- The event queue holds at most 32 records with consecutive sequences, and the next sequence follows the last (R156). -/
def State.EventsOk (s : State) : Prop :=
  s.report.events.length ≤ 32 ∧ sequencesRunTo s.report.events s.report.nextSeq

/-- The standing fault list (R153, R154): at most 16 entries, no two of one owner and code, occurrences 1..255, an entry
ACTIVE exactly while its condition holds, and the list-full flag set only while the list is full. -/
def State.FaultsOk (s : State) : Prop :=
  s.report.faults.length ≤ 16 ∧ (s.report.faults.map fun e => (e.owner, e.code)).Nodup
    ∧ (∀ e ∈ s.report.faults, 1 ≤ e.occurrences ∧ e.occurrences ≤ 255 ∧ e.active = s.condition e.owner e.code)
    ∧ (s.report.listFull = true → s.report.faults.length = 16)

/-- The attention line is what R159 makes of the list, the queue and the rollover flags. -/
def State.AttentionOk (s : State) : Prop := s.report.attention = s.attentionDue

/-! ### Legs and lanes (R4 to R8, R96, R104, R106) -/

/-- A leg record: each timer runs in its state alone, an episode lasts through HELD and LOST, kept marks stand in LOST alone,
release flags in TRAINING, UP, HELD and LOST alone, and the retry count is bounded as R106 and R117 state. -/
def Leg.Ok (l : Leg) : Prop :=
  (l.budget.isSome = true ↔ l.state = .training) ∧ (l.backoff.isSome = true ↔ l.state = .down)
    ∧ (l.bridge.isSome = true ↔ l.state = .held) ∧ (l.cut.isSome = true ↔ l.state = .lost)
    ∧ (l.episode.isSome = true ↔ l.state = .held ∨ l.state = .lost)
    ∧ (l.state ≠ .lost → l.kept = ⟨false, false⟩)
    ∧ (l.state = .parked ∨ l.state = .waiting ∨ l.state = .down ∨ l.state = .failed → l.released = ⟨false, false⟩)
    ∧ l.retry ≤ 15 ∧ (l.profile.retryLimit < 15 → l.retry ≤ l.profile.retryLimit)
    ∧ (l.state = .parked ∨ l.state = .up ∨ l.state = .held ∨ l.state = .lost → l.retry = 0)

/-- Every leg record is in order, a leg that does not exist is PARKED, a load or the reset input holds the head in LOADING,
and no load runs while the reset input is asserted. -/
def State.LegsOk (s : State) : Prop :=
  (∀ n : LegId, (s.leg n).Ok) ∧ (∀ n : LegId, s.legExists n = false → (s.leg n).state = .parked)
    ∧ (s.agent.load.isSome = true ∨ s.resetHeld = true → s.head = .loading)
    ∧ (s.resetHeld = true → s.agent.load = none)

/-- Lane `j` lies in the group of leg `n` by its record. -/
def State.inGroup (s : State) (n : LegId) (j : Lane) : Prop :=
  (s.leg n).first ≤ j.val ∧ j.val < (s.leg n).first + (s.leg n).width

/-- The group of a leg is empty or one aligned group of 1, 2 or 4 of the eight lanes (R4). -/
def Leg.groupOk (l : Leg) : Prop :=
  l.width = 0 ∨ ((l.width = 1 ∨ l.width = 2 ∨ l.width = 4) ∧ l.first % l.width = 0 ∧ l.first + l.width ≤ 8)

/-- The plan in force (R4, R7, R8): the groups of no two legs share a lane; only under RUNNING, each leg owns the lanes of its
record and no others, and the pairing is one-to-one and stays within each leg's group; a spare lane pairs with itself. -/
def State.PlanOk (s : State) : Prop :=
  (∀ n : LegId, (s.leg n).groupOk) ∧ (∀ (j : Lane) (n : LegId), s.owner j = some n ↔ s.head = .running ∧ s.inGroup n j)
    ∧ (∀ j : Lane, s.owner (s.slice j).pair = s.owner j)
    ∧ (∀ j : Lane, s.owner j = none → (s.slice j).pair = j)
    ∧ (∀ j k : Lane, (s.slice j).pair = (s.slice k).pair → j = k)
    ∧ (∀ (j : Lane) (n m : LegId), s.inGroup n j → s.inGroup m j → n = m)

/-- The lane states that each leg state admits (R96). -/
def LegState.admits : LegState → LaneState → Bool
  | .parked, l => l == .quiet
  | .down, l => l == .quiet
  | .failed, l => l == .quiet
  | .waiting, l => l == .listen || l == .tune || l == .ready
  | .up, l => l == .data
  | .held, l => l == .data
  | .training, l => l != .quiet
  | .lost, l => l != .quiet

/-- Every lane is in a state its leg admits, a spare lane is QUIET (R6, R96), and the eye path of a lane outside DATA is IDLE
(R128, R133). -/
def State.LanesOk (s : State) : Prop :=
  (∀ (i : Lane) (n : LegId), s.owner i = some n → ∀ x : Side, (s.leg n).state.admits (s.laneState i x) = true)
    ∧ (∀ i : Lane, s.owner i = none → ∀ x : Side, s.laneState i x = .quiet)
    ∧ ∀ (i : Lane) (x : Side), s.laneState i x ≠ .data → (s.rxPath i x).eye.phase = .idle

/-! ### Profiles and coefficient sets (R37, R38, R61, R97) -/

/-- Each value of a profile lies in its range, and its start sets are feasible (R97, R38). -/
def Profile.Ok (p : Profile) : Prop :=
  (1 ≤ p.budget ∧ p.budget ≤ 255) ∧ (1 ≤ p.bridge ∧ p.bridge ≤ 255) ∧ (1 ≤ p.cut ∧ p.cut ≤ 255)
    ∧ (1 ≤ p.backoff ∧ p.backoff ≤ 255) ∧ p.retryLimit ≤ 15 ∧ p.target ≤ 127 ∧ p.minimum ≤ p.target
    ∧ p.alarmLevel ≤ 127 ∧ (1 ≤ p.band ∧ p.band ≤ 31) ∧ (40 ≤ p.ceiling ∧ p.ceiling ≤ 63)
    ∧ (4 ≤ p.floor ∧ p.floor ≤ 30)
    ∧ (∀ (r : RateClass) (x : Side), ((p.start.get r).get x).feasible p.ceiling p.floor = true
        ∧ (p.equalizer.get r).get x ≤ 15)

/-- Every value of every leg's active profile lies within its stated range (R97). -/
def State.ProfilesOk (s : State) : Prop := ∀ n : LegId, (s.leg n).profile.Ok

/-- Every start set and every valid learned set of a leg's paths is feasible for the leg, and so is the set in use on every
lane that is not QUIET (R38). -/
def State.SetsOk (s : State) : Prop :=
  (∀ (n : LegId) (j : Lane) (x : Side) (r : RateClass), s.inGroup n j →
      (((s.tx[j]).get x).start.get r).feasible (s.leg n).profile.ceiling (s.leg n).profile.floor = true
        ∧ (((s.tx[j]).get x).learnedValid.get r = true →
            (((s.tx[j]).get x).learned.get r).feasible (s.leg n).profile.ceiling (s.leg n).profile.floor = true))
    ∧ (∀ (i : Lane) (x : Side) (n : LegId), s.owner i = some n → s.laneState i x ≠ .quiet →
        (s.txPath i x).inUse.feasible (s.leg n).profile.ceiling (s.leg n).profile.floor = true)

/-! ### Stored pages, in the words of their tables (R37, R54 to R57, R61, R97, R161) -/

/-- The default profile: the last column of R97's table. -/
def Profile.defaults : Profile :=
  { enable := true, rate := .one, reverse := false, polarity := 0, lossAction := .fault, budget := 50, bridge := 40
    cut := 25, backoff := 10, retryLimit := 5, target := 48, minimum := 24, alarmLevel := 30, band := 6, ceiling := 63
    floor := 12
    start := ⟨⟨⟨4, 40, 10⟩, ⟨4, 40, 10⟩⟩, ⟨⟨4, 40, 10⟩, ⟨4, 40, 10⟩⟩⟩, equalizer := ⟨⟨8, 8⟩, ⟨8, 8⟩⟩ }

/-- The place of a class and side among the four start sets and the four equalizer codes of a leg record (R161). -/
def setNumber : RateClass → Side → Fin 4
  | .one, .s => 0
  | .one, .c => 1
  | .two, .s => 2
  | .two, .c => 3

/-- Tap `j` (pre, main, post) of the stored start set of a class and side (R161). -/
def storedTap (p : Page) (r : RateClass) (x : Side) (j : Fin 3) : Nat :=
  (p[16 + 3 * (setNumber r x).val + j.val]'(by have := (setNumber r x).isLt; omega)).toNat

/-- The stored equalizer start code of a class and side (R161). -/
def storedCode (p : Page) (r : RateClass) (x : Side) : Nat :=
  (p[28 + (setNumber r x).val]'(by have := (setNumber r x).isLt; omega)).toNat

/-- The start set (pre, main, post) that stored taps give under ceiling `C` and floor `F` (R54 to R56): each tap in its range,
then for the ceiling post, pre and main no higher than the sum allows, and for the floor post and pre no higher than the
difference allows and main no lower than the floor. -/
def startTaps (C F : Int) (pre main post : Nat) : Int × Int × Int :=
  let pre₀ : Int := min 15 pre
  let main₀ : Int := max 20 (min 60 main)
  let post₀ : Int := min 23 post
  let post₁ := max 0 (min post₀ (C - main₀ - pre₀))
  let pre₁ := max 0 (min pre₀ (C - main₀ - post₁))
  let main₁ := min main₀ (C - pre₁ - post₁)
  let post₂ := max 0 (min post₁ (main₁ - pre₁ - F))
  let pre₂ := max 0 (min pre₁ (main₁ - post₂ - F))
  (pre₂, max main₁ F, post₂)

/-- `q` is the profile that the leg record `p` gives, value by value (R97, R37, R61, R54). -/
def ProfileRead (p : Page) (q : Profile) : Prop :=
  (q.enable = true ↔ p[0].toNat ≠ 0) ∧ (q.rate = .two ↔ 2 ≤ p[1].toNat) ∧ (q.reverse = true ↔ p[2].toNat ≠ 0)
    ∧ q.polarity = p[3].extractLsb' 0 4 ∧ (q.lossAction = .fault ↔ p[4].toNat = 0)
    ∧ q.bridge = max 1 p[5].toNat ∧ q.cut = max 1 p[6].toNat ∧ q.budget = max 1 p[7].toNat ∧ q.backoff = max 1 p[8].toNat
    ∧ q.retryLimit = min 15 p[9].toNat ∧ q.target = min 127 p[10].toNat ∧ q.minimum = min q.target (min 127 p[11].toNat)
    ∧ q.alarmLevel = min 127 p[12].toNat ∧ q.band = max 1 (min 31 p[13].toNat) ∧ q.ceiling = max 40 (min 63 p[14].toNat)
    ∧ q.floor = max 4 (min 30 p[15].toNat)
    ∧ ∀ (r : RateClass) (x : Side),
        ((((q.start.get r).get x).pre : Int), (((q.start.get r).get x).main : Int), (((q.start.get r).get x).post : Int)) =
            startTaps q.ceiling q.floor (storedTap p r x 0) (storedTap p r x 1) (storedTap p r x 2)
          ∧ (q.equalizer.get r).get x = min 15 (storedCode p r x)

/-- Some value of profile `q`, the polarity mask apart, differs from what the leg record `p` stores for it (R57, R97, R99
step 3). -/
def ProfileAltered (p : Page) (q : Profile) : Prop :=
  1 < p[0].toNat ∨ p[1].toNat ≠ (match q.rate with | .one => 1 | .two => 2) ∨ 1 < p[2].toNat ∨ 1 < p[4].toNat
    ∨ p[5].toNat ≠ q.bridge ∨ p[6].toNat ≠ q.cut ∨ p[7].toNat ≠ q.budget ∨ p[8].toNat ≠ q.backoff ∨ p[9].toNat ≠ q.retryLimit
    ∨ p[10].toNat ≠ q.target ∨ p[11].toNat ≠ q.minimum ∨ p[12].toNat ≠ q.alarmLevel ∨ p[13].toNat ≠ q.band
    ∨ p[14].toNat ≠ q.ceiling ∨ p[15].toNat ≠ q.floor
    ∨ ∃ (r : RateClass) (x : Side), storedTap p r x 0 ≠ ((q.start.get r).get x).pre
        ∨ storedTap p r x 1 ≠ ((q.start.get r).get x).main ∨ storedTap p r x 2 ≠ ((q.start.get r).get x).post
        ∨ storedCode p r x ≠ (q.equalizer.get r).get x

/-! ### Exchanges (R22, R31, R34, R60, R66, R70) -/

/-- A request as the policy makes them: a delta in -3..3 other than 0, and +1 on MAIN (R63, R64). -/
def Request.Ok (q : Request) : Prop := -3 ≤ q.delta ∧ q.delta ≤ 3 ∧ q.delta ≠ 0 ∧ (q.tap = .main → q.delta = 1)

/-- Taps received lie in -128..127 (R60). -/
def TapsReceived.Ok (t : TapsReceived) : Prop :=
  (-128 ≤ t.pre ∧ t.pre ≤ 127) ∧ (-128 ≤ t.main ∧ t.main ≤ 127) ∧ (-128 ≤ t.post ∧ t.post ≤ 127)

/-- The requester context with its lane (R60, R66, R67, R70, R71): a request stands exactly while the phase is not IDLE, and
then in TUNE and mode SEEKING alone, with the last sequence made; a lane beyond TUNE is CONTENT; the answer timer runs
exactly while the request is OUTSTANDING. -/
def Exchange.RequesterOk (e : Exchange) : Prop :=
  (e.req.current = none ↔ e.req.phase = .idle) ∧ (e.req.phase ≠ .idle → e.lane = .tune ∧ e.req.mode = .seeking)
    ∧ (e.lane = .ready ∨ e.lane = .count ∨ e.lane = .data → e.req.mode = .content)
    ∧ (e.req.answerTimer.isSome = true ↔ e.req.phase = .outstanding) ∧ e.req.accepted ≤ 96 ∧ e.req.taps.Ok
    ∧ (∀ q ∈ e.req.current.toList, q.Ok ∧ q.seq = e.req.lastSeq ∧ e.req.nextSeq = e.req.lastSeq + 1)

/-- The frame state with its lane (R31, R34, R87, R88): the watch runs in TUNE and READY alone, the own count leaves 15 in
COUNT and DATA alone, and a lane in DATA has sent count 0 and seen its partner's. -/
def Exchange.FramesOk (e : Exchange) : Prop :=
  (e.watch.isSome = true ↔ e.lane = .tune ∨ e.lane = .ready)
    ∧ (e.ownCount.toNat ≤ 7 ∨ e.ownCount = 15) ∧ (e.lane ≠ .count → e.lane ≠ .data → e.ownCount = 15)
    ∧ (e.countEnded = true → e.ownCount = 0) ∧ (e.lane = .data → e.countEnded = true ∧ e.zeroSeen = true)
    ∧ e.badFrames ≤ 255 ∧ e.restarts ≤ 3

/-- Every exchange is in order. -/
def State.ExchangesOk (s : State) : Prop :=
  ∀ (i : Lane) (x : Side), (s.exch i x).RequesterOk ∧ (s.exch i x).FramesOk

/-- A control word on the line is valid for its kind (R22, R23). -/
def LineOut.wordOk : LineOut → Bool
  | .frame w => (readWord w).isSome
  | _ => true

/-- Every control word on the line is valid (R22), and so are the answers from which the next ones are composed. -/
def State.WordsOk (s : State) : Prop :=
  (∀ (i : Lane) (x : Side), -3 ≤ (s.exch i x).lastGiven.applied ∧ (s.exch i x).lastGiven.applied ≤ 3)
    ∧ ∀ (j : Lane) (x : Side), ((s.tx[j]).get x).line.wordOk = true

/-! ### Eye monitor (R128, R130, R132) -/

/-- The ranges of R128, and in RUNNING the average of the accumulator between minimum and maximum; the valid flag stands
exactly in RUNNING and no alarm in IDLE. -/
def EyeMonitor.Ok (m : EyeMonitor) : Prop :=
  m.acc ≤ 1023 ∧ m.current ≤ 127 ∧ m.minimum ≤ 127 ∧ m.maximum ≤ 127 ∧ m.run ≤ 7
    ∧ (m.valid = true ↔ m.phase = .running) ∧ (m.alarm = true → m.phase ≠ .idle)
    ∧ (m.phase = .running → m.current = m.acc / 8 ∧ m.minimum ≤ m.current ∧ m.current ≤ m.maximum)

def State.EyesOk (s : State) : Prop := ∀ (j : Lane) (x : Side), ((s.rx[j]).get x).eye.Ok

/-! ### Memory agent (R144, R162, R165 to R167) -/

/-- What holds the port belongs to the agent's work in progress, slot and serial are in range, and no record is kept through
a reset. -/
def State.AgentOk (s : State) : Prop :=
  (1 ≤ s.agent.nextSerial ∧ s.agent.nextSerial ≤ 65535) ∧ s.agent.skipped ≤ 255 ∧ s.agent.spacing ≤ 10000
    ∧ (s.bridge.port = .agent .record → s.agent.records ≠ [])
    ∧ (s.bridge.port = .agent .recovery → s.agent.load.map Load.stage = some .recovery)
    ∧ (s.bridge.port = .agent .loadChunk → (s.agent.load.bind Load.windowEnd).isSome = true)
    ∧ (s.resetHeld = true → s.agent.records = [] ∧ s.bridge.port = .free)

/-! ### Management bridge (R138, R143 to R145) -/

/-- The phases in which the bridge owns the port. -/
def TxnPhase.owns : TxnPhase → Bool
  | .none => false
  | .held => false
  | _ => true

/-- The space a data phase of a write belongs to. -/
def TxnPhase.space : TxnPhase → Option Space
  | .writeMemory => some .memory
  | .writeLive => some .live
  | .writeVoid => some .void
  | _ => Option.none

/-- The bridge holds the port exactly for a transaction that has it, the write buffer holds at most sixteen live-window
bytes of a live-window write, a data byte goes to the space of the combined pointer, a snapshot is held in a read alone and
is of the live row the pointer is in, and with no memory the mirror is unknown. -/
def State.BridgeOk (s : State) : Prop :=
  (s.bridge.port = .bridge ↔ s.bridge.txn.phase.owns = true)
    ∧ s.bridge.txn.buffer.length ≤ 16 ∧ (s.bridge.txn.buffer ≠ [] → s.bridge.txn.phase = .writeLive)
    ∧ (∀ b ∈ s.bridge.txn.buffer, spaceOf b.1 = .live)
    ∧ (∀ p ∈ s.bridge.txn.phase.space.toList, spaceOf s.bridge.combined = p)
    ∧ (∀ r ∈ s.bridge.txn.snapshot.toList, r.1 = rowOf s.bridge.combined ∧ r.2.length = 16
        ∧ spaceOf s.bridge.combined = .live ∧ (s.bridge.txn.phase = .readServed ∨ s.bridge.txn.phase = .readDone))
    ∧ (s.head = .noMemory → s.bridge.mirror = none)

/-! ### What an event does in the report unit (R153, R154, R156) -/

/-- One thing that an event does in the report unit: a record joins the queue, a fault is raised with its detail, or a
condition ends. -/
inductive ReportAct where
  | queues (leg : Option LegId) (kind : EventKind)
  | raises (owner : Option LegId) (code : FaultCode) (detail : Byte)
  | ends (owner : Option LegId) (code : FaultCode)
deriving DecidableEq, Repr

/-- What stands in the report unit in the course of an event: the fault list with its flag, the conditions, and the records
that the event has queued. -/
structure Desk where
  faults : List FaultEntry
  listFull : Bool
  holds : Option LegId → FaultCode → Bool
  queued : List (Option LegId × EventKind)

/-- The desk as an event finds it. -/
def State.desk (s : State) : Desk :=
  { faults := s.report.faults, listFull := s.report.listFull, holds := s.condition, queued := [] }

/-- The desk with the condition of one owner and code set. -/
def Desk.hold (d : Desk) (owner : Option LegId) (code : FaultCode) (b : Bool) : Desk :=
  { d with holds := fun o c => if o = owner ∧ c = code then b else d.holds o c }

/-- A raise (R153): the entry there is ACTIVE again, unacknowledged, with one more occurrence and the new detail, at its place
and with its first time; without one a new entry joins at the end, or, at sixteen entries, none does and the list-full flag
becomes 1. FAULT_RAISED is queued in each case. -/
def Desk.raised (d : Desk) (owner : Option LegId) (code : FaultCode) (detail : Byte) (clock : BitVec 32) : Desk :=
  if ∃ e ∈ d.faults, e.owner = owner ∧ e.code = code then
    { d.hold owner code true with
      faults := d.faults.map fun e =>
        if e.owner = owner ∧ e.code = code then
          { e with occurrences := min 255 (e.occurrences + 1), active := true, acked := false, detail }
        else e
      queued := d.queued ++ [(owner, .faultRaised code false detail)] }
  else if d.faults.length < 16 then
    { d.hold owner code true with
      faults := d.faults ++ [{ owner, code, active := true, acked := false, occurrences := 1, detail, firstTime := clock }]
      queued := d.queued ++ [(owner, .faultRaised code false detail)] }
  else
    { d.hold owner code true with listFull := true, queued := d.queued ++ [(owner, .faultRaised code true detail)] }

/-- The end of a condition (R112, R154): nothing where it does not hold; without an entry nothing else; the entry is CLEARED and
FAULT_CLEARED queued; an acknowledged one leaves, with FAULT_LEFT, and the list-full flag becomes 0. -/
def Desk.ended (d : Desk) (owner : Option LegId) (code : FaultCode) : Desk :=
  if d.holds owner code then
    match d.faults.find? fun e => decide (e.owner = owner ∧ e.code = code) with
    | none => d.hold owner code false
    | some e =>
      { d.hold owner code false with
        faults := (d.faults.filter fun f => decide ¬(f.owner = owner ∧ f.code = code ∧ f.acked = true)).map fun f =>
          if f.owner = owner ∧ f.code = code then { f with active := false } else f
        listFull := d.listFull && !e.acked
        queued := d.queued ++ [(owner, .faultCleared code e.detail)]
          ++ if e.acked then [(owner, .faultLeft code e.detail)] else [] }
  else d

/-- The desk after one act at a head clock. -/
def Desk.after (clock : BitVec 32) (d : Desk) : ReportAct → Desk
  | .queues leg kind => { d with queued := d.queued ++ [(leg, kind)] }
  | .raises owner code detail => d.raised owner code detail clock
  | .ends owner code => d.ended owner code

/-- A kind without the detail byte of FAULT_CLEARED and FAULT_LEFT, which no rule gives (log 11). -/
def EventKind.stated : EventKind → EventKind
  | .faultCleared code _ => .faultCleared code 0
  | .faultLeft code _ => .faultLeft code 0
  | kind => kind

/-- The records `news` have joined the queue, with the next sequences and the head clock; beyond 32 the oldest are lost and the
overrun flag is set (R156). -/
def State.Joined (s t : State) (news : List EventRecord) : Prop :=
  t.report.events = (s.report.events ++ news).drop ((s.report.events ++ news).length - 32)
    ∧ t.report.nextSeq = s.report.nextSeq + BitVec.ofNat 8 news.length
    ∧ t.report.overrun = (s.report.overrun || decide (32 < (s.report.events ++ news).length))
    ∧ (∀ k : Nat, ∀ r ∈ (news[k]?).toList, r.seq = s.report.nextSeq + BitVec.ofNat 8 k ∧ r.time = s.report.headClock)

/-- The event that began in `s` has brought the report unit to the desk `d`: its list, flag and conditions, with the clock of
before, and its records queued; beside them a RECORD_SKIPPED for each leg in `skipped`, which another block queues at its own
place (R156). -/
def State.ReportsTo (s t : State) (d : Desk) (skipped : List LegId) : Prop :=
  t.report.faults = d.faults ∧ t.report.listFull = d.listFull ∧ t.report.headClock = s.report.headClock
    ∧ (∀ (o : Option LegId) (c : FaultCode), t.condition o c = d.holds o c)
    ∧ (s.report.events.length ≤ 32 → ∃ news : List EventRecord, s.Joined t news
        ∧ (news.filter fun r => decide (r.kind ≠ .recordSkipped)).map (fun r => (r.leg, r.kind.stated)) =
            d.queued.map (fun q => (q.1, q.2.stated))
        ∧ (news.filter fun r => decide (r.kind = .recordSkipped)).map EventRecord.leg = skipped.map some)

/-- What one event has done in the report unit: the acts, in their order, and a RECORD_SKIPPED for each leg in `skipped`. -/
def State.ReportsBeside (s t : State) (acts : List ReportAct) (skipped : List LegId) : Prop :=
  s.ReportsTo t (acts.foldl (Desk.after s.report.headClock) s.desk) skipped

/-- What one event has done in the report unit: the acts, in their order, and nothing else. -/
def State.Reports (s t : State) (acts : List ReportAct) : Prop := s.ReportsBeside t acts []

/-- The margin condition of leg `n` after an event (R135): raised where an alarm of the leg is the first, ended where none is
left. -/
def State.marginActs (s t : State) (n : LegId) : List ReportAct :=
  if t.anyAlarm n = false then [.ends (some n) .marginLow]
  else if s.condition (some n) .marginLow then [] else [.raises (some n) .marginLow 0]

/-- What a take of leg `n` reports, by its case (R100). -/
def State.takeActs (s : State) (n : LegId) : List ReportAct :=
  if (s.leg n).source = some s.pendingLegs[n] then [.ends (some n) .profileBad]
  else if checkByteHolds s.pendingLegs[n] then
    [.queues (some n) (.profileTaken (recordClamped s.pendingLegs[n])), .ends (some n) .profileBad]
  else [.queues (some n) .profileRefused, .raises (some n) .profileBad 0]

/-- What a boundary of leg `n` that takes it to WAITING reports (R100, R113, R135). -/
def State.boundaryActs (s t : State) (n : LegId) (cause : LegCause) : List ReportAct :=
  [.queues (some n) (.legState (s.leg n).state .waiting cause)] ++ s.takeActs n ++ s.marginActs t n

/-- The ends of the conditions of a leg's attempts, in the order of R104 and R109. -/
def attemptEnds (n : LegId) : List ReportAct :=
  [.ends (some n) .trainTimeout, .ends (some n) .sideFail, .ends (some n) .legCut]

/-- What a park of leg `n` reports (R109 steps 4 and 6, R113, R135). -/
def State.parkActs (s t : State) (n : LegId) (cause : LegCause) : List ReportAct :=
  attemptEnds n ++ (if (s.leg n).state = .failed then [.ends (some n) .retryOut] else [])
    ++ [.queues (some n) (.legState (s.leg n).state .parked cause)] ++ s.marginActs t n

/-- The end of PROFILE_BAD of every leg, where no leg exists (R112). -/
def profileBadEnds : List ReportAct := allLegs.map fun m => .ends (some m) .profileBad

/-! ### What a step has done, in the words of the rules -/

/-- The first record this step has queued carries this leg and kind, with the sequence and the time that stood (R156). -/
def State.queuedFirst (s t : State) (leg : Option LegId) (kind : EventKind) : Prop :=
  { seq := s.report.nextSeq, leg, time := s.report.headClock, kind : EventRecord } ∈ t.report.events

/-- An exchange that has made a request (R67 steps 1 to 4). -/
def Exchange.requesting (e : Exchange) (tap : Tap) (delta : Int) : Exchange :=
  { e with
    req := { e.req with current := some { tap, delta, seq := e.req.nextSeq }, lastSeq := e.req.nextSeq
                        nextSeq := e.req.nextSeq + 1, phase := .pending, firstFrame := false }
    made := e.made + 1 }

/-- The policy asks for nothing more (R63, R66): the cap is reached, or each residual lies in the band or asks in an exhausted
direction and the eye is at the target or MAIN is exhausted. -/
def Requester.AsksNothing (r : Requester) (p : Profile) (eye : Nat) (rp rq : Int) : Prop :=
  96 ≤ r.accepted
    ∨ (rq.natAbs ≤ p.band ∨ r.marks.get .post (decide (0 < rq)) = true)
      ∧ (rp.natAbs ≤ p.band ∨ r.marks.get .pre (decide (0 < rp)) = true) ∧ (p.target ≤ eye ∨ r.marks.mainPlus = true)

/-- The policy asks for `delta` on `tap` (R63, R64): the first step below the cap whose residual lies beyond the band in a
direction not exhausted, else MAIN by +1 below the target. -/
def Requester.Asks (r : Requester) (p : Profile) (eye : Nat) (rp rq : Int) (tap : Tap) (delta : Int) : Prop :=
  r.accepted < 96
    ∧ if p.band < rq.natAbs ∧ r.marks.get .post (decide (0 < rq)) = false then
        tap = .post ∧ delta = rq.sign * min 3 (rq.natAbs / p.band : Nat)
      else if p.band < rp.natAbs ∧ r.marks.get .pre (decide (0 < rp)) = false then
        tap = .pre ∧ delta = rp.sign * min 3 (rp.natAbs / p.band : Nat)
      else eye < p.target ∧ r.marks.mainPlus = false ∧ tap = .main ∧ delta = 1

/-- An exchange whose contentment has ended (R72 steps 1 and 2, R80): SEEKING, and from READY back in TUNE. -/
def Exchange.discontent (e : Exchange) : Exchange :=
  if e.lane = .ready then
    { e with req := { e.req with mode := .seeking }, lane := .tune, ownCount := 15, zeroSeen := false, countEnded := false
             returnCause := some .ownReceiver }
  else { e with req := { e.req with mode := .seeking } }

/-- The values an exchange takes at an entry to LISTEN (R36, R41, R60), the restart count apart. -/
def Exchange.Fresh (e : Exchange) : Prop :=
  e.lane = .listen ∧ e.req = .initial ∧ e.lastGiven = .blank ∧ e.lastAnswered = none ∧ e.partnerVerdict = .seeking
    ∧ e.ownCount = 15 ∧ e.partnerCount = 15 ∧ e.zeroSeen = false ∧ e.watch = none

/-- The in-use set of a path just loaded (R40): the learned set of the class where it is valid, else the start set. -/
def TxPath.Loaded (p : TxPath) (r : RateClass) : Prop :=
  p.inUse = if p.learnedValid.get r then p.learned.get r else p.start.get r

/-- No timer runs, no episode stands, release flags and kept marks are clear (R101 step 1, R106, R109). -/
def Leg.Idle (l : Leg) : Prop :=
  l.budget = none ∧ l.bridge = none ∧ l.cut = none ∧ l.episode = none ∧ l.released = ⟨false, false⟩ ∧ l.kept = ⟨false, false⟩

/-- The frame of an event on lane `i` side `x`: the slices and every other lane with its paths are as they were, but for what
the leg's answer gives them: service order and restart count, and what the line does on a change of order (R16, R18, R102). -/
def State.OthersStand (s t : State) (i : Lane) (x : Side) : Prop :=
  t.slices = s.slices ∧ ∀ (j : Lane) (y : Side), (j, y) ≠ (i, x) →
    t.exch j y = { s.exch j y with order := (t.exch j y).order, restarts := (t.exch j y).restarts }
      ∧ t.rxPath j y = s.rxPath j y ∧ t.txPath j y = { s.txPath j y with line := (t.txPath j y).line }

/-- The record of leg `n` is as it was, but for release flags, kept marks and the margin condition. -/
def State.LegStands (s t : State) (n : LegId) : Prop :=
  t.leg n = { s.leg n with
    released := (t.leg n).released, kept := (t.leg n).kept
    conds := { (s.leg n).conds with marginLow := (t.leg n).conds.marginLow } }

/-- Lane `i` side `x` of leg `n` is back in LISTEN with in-use set and equalizer loaded and the side's release cleared (R2,
R36, R40, R85); the leg keeps its state, and every other lane stands. -/
def State.BackInListen (s t : State) (n : LegId) (i : Lane) (x : Side) : Prop :=
  (t.exch i x).Fresh ∧ (t.txPath i x).Loaded (s.leg n).profile.rate
    ∧ (t.rxPath i x).eqCode = ((s.leg n).profile.equalizer.get (s.leg n).profile.rate).get x
    ∧ (t.leg n).released.get x = false ∧ s.LegStands t n ∧ s.OthersStand t i x

/-- A new request of frame `f` on tap PRE, MAIN or POST, or a new RESTART, has been processed on lane `i` side `x`, the set in
use being `u` under ceiling `C` and floor `F` (R44 to R51). -/
def State.RequestAnswered (s t : State) (n : LegId) (i : Lane) (x : Side) (f : TuneFields) (u : Coef) (C F : Nat) : Prop :=
  (f.tap ≠ .restart → (t.txPath i x).inUse.feasible C F = true)
    ∧ (f.tap = .pre → (t.txPath i x).inUse = { u with pre := (max 0 (min (min 15 (min ((C : Int) - u.main - u.post)
        ((u.main : Int) - u.post - F))) (u.pre + f.delta))).toNat })
    ∧ (f.tap = .main → (t.txPath i x).inUse = { u with main := (max (max 20 ((F : Int) + u.pre + u.post))
        (min (min 60 ((C : Int) - u.pre - u.post)) (u.main + f.delta))).toNat })
    ∧ (f.tap = .post → (t.txPath i x).inUse = { u with post := (max 0 (min (min 23 (min ((C : Int) - u.main - u.pre)
        ((u.main : Int) - u.pre - F))) (u.post + f.delta))).toNat })
    ∧ (t.exch i x).lastAnswered = some f.seq ∧ (t.exch i x).answered = (s.exch i x).answered + 1
    ∧ (t.exch i x).lastGiven.echo = f.seq
    ∧ (f.tap ≠ .restart →
        (t.exch i x).lastGiven.applied = ((t.txPath i x).inUse.peak : Int) - u.peak
          ∧ (t.exch i x).lastGiven.outcome = (if (t.exch i x).lastGiven.applied = f.delta then .applied
              else if (t.exch i x).lastGiven.applied = 0 then .held else .trimmed)
          ∧ ((t.exch i x).lastGiven.limit = .none ↔ (t.exch i x).lastGiven.applied = f.delta)
          ∧ (t.exch i x).warm = (s.exch i x).warm)
    ∧ ((t.exch i x).lastGiven.applied ≠ f.delta →
        (f.tap = .pre → (t.exch i x).lastGiven.limit =
          if f.delta < 0 ∨ (t.txPath i x).inUse.pre = 15 then .tap
          else if ((t.txPath i x).inUse.pre : Int) = (C : Int) - u.main - u.post then .ceiling else .floor)
        ∧ (f.tap = .post → (t.exch i x).lastGiven.limit =
          if f.delta < 0 ∨ (t.txPath i x).inUse.post = 23 then .tap
          else if ((t.txPath i x).inUse.post : Int) = (C : Int) - u.main - u.pre then .ceiling else .floor)
        ∧ (f.tap = .main → (t.exch i x).lastGiven.limit =
          if f.delta < 0 then (if (t.txPath i x).inUse.main = 20 then .tap else .floor)
          else if (t.txPath i x).inUse.main = 60 then .tap else .ceiling))
    ∧ (f.tap = .restart →
        (t.txPath i x).inUse = (s.txPath i x).start.get (s.leg n).profile.rate
          ∧ (t.exch i x).lastGiven = { echo := f.seq, applied := 0, outcome := .applied, limit := .none }
          ∧ (t.exch i x).warm = false ∧ (t.txPath i x).learnedValid = (s.txPath i x).learnedValid)

/-- No new request has been processed on lane `i` side `x` (R27, R44, R51): the path's coefficient sets, the start indicator, the
last answer given, the answered count and the last answered sequence are as they were. -/
def State.RequestPassedOver (s t : State) (i : Lane) (x : Side) : Prop :=
  t.txPath i x = { s.txPath i x with line := (t.txPath i x).line } ∧ (t.exch i x).warm = (s.exch i x).warm
    ∧ (t.exch i x).lastGiven = (s.exch i x).lastGiven ∧ (t.exch i x).answered = (s.exch i x).answered
    ∧ (t.exch i x).lastAnswered = (s.exch i x).lastAnswered

/-- The requester after the answer fields of frame `f` (R29, R68, R69): an answer that echoes the outstanding request after the
first frame that carried it, with an outcome other than NONE, is accepted, HELD exhausting its tap in its direction and each
sum of taps kept in -128..127; any other leaves it as it was. -/
def Requester.afterAnswer (r : Requester) (f : TuneFields) : Requester :=
  match r.current with
  | none => r
  | some q =>
    if r.phase = .outstanding ∧ r.firstFrame = false ∧ f.echo = q.seq ∧ f.outcome ≠ .none then
      { r with lastReceived := ⟨f.echo, f.applied, f.outcome, f.limit⟩
               marks := if f.outcome = .held then
                   { prePlus := r.marks.prePlus || decide (q.tap = .pre ∧ 0 < q.delta)
                     preMinus := r.marks.preMinus || decide (q.tap = .pre ∧ q.delta ≤ 0)
                     mainPlus := r.marks.mainPlus || decide (q.tap = .main ∧ 0 < q.delta)
                     postPlus := r.marks.postPlus || decide (q.tap = .post ∧ 0 < q.delta)
                     postMinus := r.marks.postMinus || decide (q.tap = .post ∧ q.delta ≤ 0) }
                 else r.marks
               taps := { pre := if q.tap = .pre then max (-128) (min 127 (r.taps.pre + f.applied)) else r.taps.pre
                         main := if q.tap = .main then max (-128) (min 127 (r.taps.main + f.applied)) else r.taps.main
                         post := if q.tap = .post then max (-128) (min 127 (r.taps.post + f.applied)) else r.taps.post }
               accepted := min 96 (r.accepted + 1), current := none, phase := .idle, firstFrame := false
               answerTimer := none, stale := true }
    else r

/-- Lane `i` side `x` of leg `n`, in TRAINING or LOST, has become READY, and the release rule has been tested there (R84, R122).
Where no side was released and every other lane is in READY or TUNE, both sides are released together once all are READY, and
none before. A side that is GATED so is released alone where the opposite side is COUNTING or DATA. -/
def State.GateTested (s t : State) (n : LegId) (i : Lane) (x : Side) : Prop :=
  t.laneState i x = .ready ∧ s.LegStands t n ∧ (t.leg n).kept = (s.leg n).kept ∧ s.OthersStand t i x
    ∧ ((∀ (j : Lane) (y : Side), s.owner j = some n → (j, y) ≠ (i, x) → s.laneState j y = .ready ∨ s.laneState j y = .tune) →
        (s.leg n).released = ⟨false, false⟩ →
        ((∀ (j : Lane) (y : Side), s.owner j = some n → (j, y) ≠ (i, x) → s.laneState j y = .ready) →
            (t.leg n).released = ⟨true, true⟩)
          ∧ ∀ (j : Lane) (y : Side), s.owner j = some n → (j, y) ≠ (i, x) → s.laneState j y = .tune →
              (t.leg n).released = ⟨false, false⟩)
    ∧ ((∀ j : Lane, s.owner j = some n → j ≠ i →
          s.laneState j x = .ready ∨ s.laneState j x = .count ∨ s.laneState j x = .data) →
        (∀ j : Lane, s.owner j = some n → s.laneState j x.opposite = .count ∨ s.laneState j x.opposite = .data
          ∨ s.laneState j x.opposite = .ready ∧ (s.leg n).released.get x.opposite = true) →
        (t.leg n).released.get x = true ∧ (t.leg n).released.get x.opposite = (s.leg n).released.get x.opposite)

/-- A SEEKING frame `f` has returned lane `i` side `x` of leg `n` from COUNT or DATA to TUNE (R90, R91): counts and zero seen
reset, watch started, contexts kept, release of the side cleared, eye path IDLE, banks kept, data on the line stopped. -/
def State.Reverted (s t : State) (n : LegId) (i : Lane) (x : Side) (f : TuneFields) : Prop :=
  t.exch i x = { s.exch i x with
      lane := .tune, partnerVerdict := .seeking, partnerCount := f.count, ownCount := 15, zeroSeen := false
      countEnded := false, watch := some (s.now + 640), returnCause := some .partnerRevert
      order := (t.exch i x).order, restarts := (t.exch i x).restarts }
    ∧ (t.leg n).released.get x = false ∧ t.slices = s.slices
    ∧ t.rxPath i x = (if s.laneState i x = .data then
        { s.rxPath i x with eye := { (s.rxPath i x).eye with phase := .idle, valid := false, alarm := false, run := 0 } }
      else s.rxPath i x)
    ∧ t.txPath i x = { s.txPath i x with line := if (s.txPath i x).line = .data then .gap else (s.txPath i x).line }

/-- The state after lane `i` side `x` has begun a frame interval (R3, R21): `line` is sent, shaped by the set in use, and its
exchange has become `e`. -/
def State.sends (s : State) (i : Lane) (x : Side) (e : Exchange) (line : LineOut) : State :=
  { s with ex := (s.setExch i x e).ex
           tx := (s.setTxAt (s.phys i x) x { s.txPath i x with line, lineSet := (s.txPath i x).inUse }).tx }

/-- What a failure record of leg `n` takes at its request (R161, R166): time, skipped count, rate class, counts, and for lanes
0 to 3 of the leg the in-use taps and the eye minima of both sides, 0 for a lane the leg does not have. -/
def State.RecordHolds (s : State) (n : LegId) (r : FailureRecord) : Prop :=
  r.leg = n ∧ r.time = s.report.headClock ∧ r.skipped = s.agent.skipped ∧ r.rate = (s.leg n).profile.rate
    ∧ r.glitch = (s.leg n).glitch ∧ r.lost = (s.leg n).lost ∧ r.taps.length = 24 ∧ r.eyes.length = 8
    ∧ ∀ k : Fin 4,
        (r.taps.drop (6 * k.val)).take 6 =
            (match (s.legLanes n)[k.val]? with
              | some i => [(s.txPath i .s).inUse.pre, (s.txPath i .s).inUse.main, (s.txPath i .s).inUse.post,
                  (s.txPath i .c).inUse.pre, (s.txPath i .c).inUse.main, (s.txPath i .c).inUse.post].map (BitVec.ofNat 8)
              | none => List.replicate 6 0)
          ∧ (r.eyes.drop (2 * k.val)).take 2 =
            (match (s.legLanes n)[k.val]? with
              | some i => [(s.rxPath i .s).eye.minimum, (s.rxPath i .c).eye.minimum].map (BitVec.ofNat 8)
              | none => [0, 0])

/-- One failure record of leg `n` has been asked for (R166): accepted behind those that wait, with its contents as they stood,
or, within the spacing, skipped and counted. -/
def State.RecordAsked (s t : State) (n : LegId) (cause : FaultCode) : Prop :=
  (s.agent.spacing = 0 → t.agent.spacing = 10000 ∧ t.agent.skipped = s.agent.skipped
      ∧ t.agent.records.dropLast = s.agent.records
      ∧ ∃ r, t.agent.records.getLast? = some r ∧ s.RecordHolds n r ∧ r.cause = cause ∧ r.before = (s.leg n).state)
    ∧ (s.agent.spacing ≠ 0 → t.agent.spacing = s.agent.spacing ∧ t.agent.skipped = min 255 (s.agent.skipped + 1)
      ∧ t.agent.records = s.agent.records)

/-- The failure causes of section 10.2 with side and lane. -/
def LastFailure.code : LastFailure → Nat
  | .none => 0
  | .budget => 16 * 1
  | .cut => 16 * 2
  | .lane reason x i =>
    16 * (match reason with | .eyeShort => 3 | .answerTimeout => 4 | .frameSilence => 5) + (if x = .c then 8 else 0) + i.val

/-- The cause of the LEG_STATE record at an entry to DOWN or FAILED (R105, R125). -/
def LastFailure.legCause : LastFailure → LegCause
  | .cut => .cut
  | .lane _ _ _ => .laneFail
  | _ => .budget

/-- What an entry of leg `n` to DOWN or FAILED reports (R113, R135): LEG_STATE, the raise of the failure's fault, whose detail
is the lane failure or 0 (R152), that of RETRY_OUT where the leg is FAILED, then the margin condition. -/
def State.failureActs (s t : State) (n : LegId) (failure : LastFailure) (code : FaultCode) : List ReportAct :=
  [.queues (some n) (.legState (s.leg n).state (t.leg n).state failure.legCause),
      .raises (some n) code (if code = .sideFail then BitVec.ofNat 8 failure.code else 0)]
    ++ (if (t.leg n).state = .failed then [.raises (some n) .retryOut 0] else []) ++ s.marginActs t n

/-- An attempt that has failed asks for one failure record where leg `n` entered FAILED, and for none otherwise (R166). -/
def State.AskedIfOut (s t : State) (n : LegId) : Prop :=
  if (t.leg n).state = .failed then s.RecordAsked t n .retryOut else t.agent = s.agent

/-- A failed attempt or recovery of leg `n` (R105, R106, R125) at instant `now`: FAILED with the retry count at the limit, or
DOWN with the backoff running, every timer stopped, every lane QUIET and silent, the failure recorded, reported and its fault
raised, with RECORD_SKIPPED where a failure record is asked for within the spacing (R113, R153, R166); the rest of the leg
record, the lane map and the coefficient banks are as they were. -/
def State.Failed (s t : State) (n : LegId) (failure : LastFailure) (code : FaultCode) (now : Nat) : Prop :=
  (if (s.leg n).profile.retryLimit < 15 ∧ (s.leg n).profile.retryLimit ≤ (s.leg n).retry + 1 then
      (t.leg n).state = .failed ∧ (t.leg n).retry = (s.leg n).profile.retryLimit ∧ (t.leg n).backoff = none
        ∧ t.condition (some n) .retryOut = true
    else
      (t.leg n).state = .down ∧ (t.leg n).retry = min 15 ((s.leg n).retry + 1)
        ∧ (t.leg n).backoff = some (now + 10000 * ((s.leg n).profile.backoff * 2 ^ min ((t.leg n).retry - 1) 4)))
    ∧ t.leg n = { s.leg n with
        state := (t.leg n).state, retry := (t.leg n).retry, backoff := (t.leg n).backoff, lastFailure := failure
        budget := none, bridge := none, cut := none, episode := none, released := ⟨false, false⟩, kept := ⟨false, false⟩
        conds := (t.leg n).conds }
    ∧ t.condition (some n) code = true ∧ t.slices = s.slices
    ∧ s.ReportsBeside t (s.failureActs t n failure code)
        (if ((t.leg n).state = .failed ∨ code = .legCut) ∧ s.agent.spacing ≠ 0 then [n] else [])
    ∧ ∀ (j : Lane) (y : Side), s.owner j = some n →
        t.laneState j y = .quiet ∧ (t.exch j y).order = .quiet ∧ (t.txPath j y) = { s.txPath j y with line := .quiet }
          ∧ (t.rxPath j y).signal = (s.rxPath j y).signal ∧ (t.exch j y).restarts = (s.exch j y).restarts

/-- The lane map of a leg (R8, R9, R10): pairing, inversion and rate class of its slice `j` by its active profile. -/
def State.Mapped (t : State) (n : LegId) (j : Lane) : Prop :=
  ((t.slice j).pair.val =
      if (t.leg n).profile.reverse then (t.leg n).first + ((t.leg n).width - 1 - (j.val - (t.leg n).first)) else j.val)
    ∧ (t.slice j).inverted = (t.leg n).profile.polarity.getLsbD (j.val - (t.leg n).first)
    ∧ (t.slice j).rate = (t.leg n).profile.rate

/-- The coefficient banks of leg `n`'s transmit paths are those of before (R43, R99). -/
def State.BanksKept (s t : State) (n : LegId) : Prop :=
  ∀ (j : Lane) (y : Side), s.owner j = some n →
    ((t.tx[j]).get y).start = ((s.tx[j]).get y).start ∧ ((t.tx[j]).get y).learned = ((s.tx[j]).get y).learned
      ∧ ((t.tx[j]).get y).learnedValid = ((s.tx[j]).get y).learnedValid

/-- The retry count of leg `n` after its take: kept, but a record that is taken brings it down to its limit (R99 step 5). -/
def State.RetryTaken (s t : State) (n : LegId) (retry : Nat) : Prop :=
  (t.leg n).retry =
    if (s.leg n).source ≠ some s.pendingLegs[n] ∧ checkByteHolds s.pendingLegs[n] = true ∧ (t.leg n).profile.retryLimit < 15 then
      min retry (t.leg n).profile.retryLimit
    else retry

/-- A boundary of leg `n` that takes it to WAITING (R99, R100, R101): the take by its case, the lane map applied, every lane
in LISTEN with its in-use set loaded; the banks are kept where the take is skipped or refused (R43). -/
def State.Boundary (s t : State) (n : LegId) : Prop :=
  (t.leg n).state = .waiting ∧ (t.leg n).Idle ∧ (t.leg n).backoff = none ∧ (t.leg n).width = (s.leg n).width
    ∧ (t.leg n).first = (s.leg n).first
    ∧ (∀ (j : Lane) (y : Side), s.owner j = some n →
        (t.exch j y).Fresh ∧ t.Mapped n j ∧ (t.txPath j y).Loaded (t.leg n).profile.rate
          ∧ (t.rxPath j y).eqCode = ((t.leg n).profile.equalizer.get (t.leg n).profile.rate).get y
          ∧ (t.exch j y).order = .standby)
    ∧ (if (s.leg n).source = some s.pendingLegs[n] then
        (t.leg n).profile = (s.leg n).profile ∧ (t.leg n).source = (s.leg n).source
          ∧ (t.leg n).clamped = (s.leg n).clamped ∧ t.condition (some n) .profileBad = false ∧ s.BanksKept t n
      else if checkByteHolds s.pendingLegs[n] then
        (t.leg n).profile = profileOf s.pendingLegs[n] ∧ (t.leg n).source = some s.pendingLegs[n]
          ∧ (t.leg n).clamped = recordClamped s.pendingLegs[n] ∧ t.condition (some n) .profileBad = false
          ∧ ∀ (j : Lane) (y : Side), s.owner j = some n → (t.txPath j y).learnedValid = ⟨false, false⟩
              ∧ ∀ r : RateClass, (t.txPath j y).start.get r = ((t.leg n).profile.start.get r).get y
      else
        (t.leg n).profile = (s.leg n).profile ∧ (t.leg n).source = (s.leg n).source
          ∧ (t.leg n).clamped = (s.leg n).clamped ∧ t.condition (some n) .profileBad = true ∧ s.BanksKept t n)
    ∧ ((t.leg n).differs = true ↔ (t.leg n).source ≠ some s.pendingLegs[n])

/-- Every lane of leg `n` is in LISTEN with its in-use set and equalizer loaded. -/
def State.Listening (t : State) (n : LegId) : Prop :=
  ∀ (j : Lane) (y : Side), t.owner j = some n →
    (t.exch j y).Fresh ∧ (t.txPath j y).Loaded (t.leg n).profile.rate
      ∧ (t.rxPath j y).eqCode = ((t.leg n).profile.equalizer.get (t.leg n).profile.rate).get y ∧ (t.exch j y).order = .standby

/-- Every lane of leg `n` is QUIET and silent. -/
def State.Silent (t : State) (n : LegId) : Prop :=
  ∀ (j : Lane) (y : Side), t.owner j = some n →
    t.laneState j y = .quiet ∧ (t.exch j y).order = .quiet ∧ (t.txPath j y).line = .quiet

/-- The transmit paths of leg `n` have the start sets of its profile and no valid learned set (R43, R54). -/
def State.BanksGiven (t : State) (n : LegId) : Prop :=
  ∀ (j : Lane) (y : Side), t.owner j = some n →
    ((t.tx[j]).get y).learnedValid = ⟨false, false⟩
      ∧ ∀ r : RateClass, ((t.tx[j]).get y).start.get r = ((t.leg n).profile.start.get r).get y

/-- Existing leg `n` has been settled at the end of a load (R163, R99, R43, R54): a record taken or skipped takes it to WAITING
where its profile's enable is 1; one that fails its check leaves it PARKED with the default profile, its clamped flag 0 by the
model's choice (log 14). Learned sets stay valid
only where the take is skipped and the leg has the first lane and width of before. -/
def State.SettledByLoad (s t : State) (n : LegId) : Prop :=
  (if (s.leg n).source = some s.pendingLegs[n] then
      (t.leg n).profile = (s.leg n).profile ∧ (t.leg n).source = (s.leg n).source ∧ (t.leg n).clamped = (s.leg n).clamped
        ∧ (t.leg n).state = (if (t.leg n).profile.enable then .waiting else .parked)
        ∧ t.condition (some n) .profileBad = false
        ∧ (if (t.leg n).width = (s.leg n).width ∧ (t.leg n).first = (s.leg n).first then t.BanksKept s n else t.BanksGiven n)
    else if checkByteHolds s.pendingLegs[n] then
      (t.leg n).profile = profileOf s.pendingLegs[n] ∧ (t.leg n).source = some s.pendingLegs[n]
        ∧ (t.leg n).clamped = recordClamped s.pendingLegs[n]
        ∧ (t.leg n).state = (if (t.leg n).profile.enable then .waiting else .parked)
        ∧ t.condition (some n) .profileBad = false ∧ t.BanksGiven n
    else
      (t.leg n).profile = .defaults ∧ (t.leg n).source = none ∧ (t.leg n).clamped = false ∧ (t.leg n).state = .parked
        ∧ t.condition (some n) .profileBad = true ∧ t.BanksGiven n)
    ∧ s.RetryTaken t n (s.leg n).retry ∧ ((t.leg n).differs = true ↔ (t.leg n).source ≠ some s.pendingLegs[n])
    ∧ t.leg n = { (s.leg n).standDown with
        state := (t.leg n).state, width := (t.leg n).width, first := (t.leg n).first, profile := (t.leg n).profile
        source := (t.leg n).source, clamped := (t.leg n).clamped, differs := (t.leg n).differs, retry := (t.leg n).retry
        conds := { (s.leg n).conds with profileBad := (t.leg n).conds.profileBad } }
    ∧ (∀ j : Lane, t.owner j = some n → t.Mapped n j)
    ∧ (if (t.leg n).state = .waiting then t.Listening n else t.Silent n)

/-- What the settling of leg `m` at the end of a load that ends in RUNNING reports (R163, R100, R113): for a leg that does not
exist the end of PROFILE_BAD; else LEG_STATE of cause LOAD where the leg enters WAITING, and what its take reports, the raise of
PROFILE_BAD alone where the record fails its check. -/
def State.settleActs (s t : State) (m : LegId) : List ReportAct :=
  if (t.leg m).width = 0 then [.ends (some m) .profileBad]
  else (if (t.leg m).state = .waiting then [.queues (some m) (.legState .parked .waiting .load)] else [])
    ++ if (s.leg m).source = some s.pendingLegs[m] ∨ checkByteHolds s.pendingLegs[m] = true then s.takeActs m
      else [.raises (some m) .profileBad 0]

/-- Nothing but the report unit's `r` differs, and the attention line is what R159 makes of it. -/
def State.OnlyReport (s t : State) (r : Report) : Prop :=
  t = { s with report := { r with attention := t.report.attention } } ∧ t.report.attention = t.attentionDue

/-! ### The rows of the live window (R147, R150, section 10.2) -/

/-- A flag as a byte. -/
def flagByte (b : Bool) : Byte := if b then 1 else 0

/-- A 16-bit field, least significant byte first. -/
def twoBytes (v : BitVec 16) : List Byte := [v.extractLsb' 0 8, v.extractLsb' 8 8]

/-- A 32-bit field, least significant byte first. -/
def fourBytes (v : BitVec 32) : List Byte := [v.extractLsb' 0 8, v.extractLsb' 8 8, v.extractLsb' 16 8, v.extractLsb' 24 8]

/-- An answer of the detail page: echo, applied, outcome, limit. -/
def Answer.fields (a : Answer) : List Byte :=
  [BitVec.ofNat 8 a.echo.toNat, BitVec.ofInt 8 a.applied,
    (match a.outcome with | .none => 0 | .applied => 1 | .trimmed => 2 | .held => 3),
    (match a.limit with | .none => 0 | .tap => 1 | .ceiling => 2 | .floor => 3)]

/-- Rows 0x4000 and 0x4010: head status and head control. -/
def State.HeadRowsShown (s : State) : Prop :=
  (∃ w : Nat, s.rowBytes 0x400 =
      [0x8B, 0x01, (match s.head with | .running => 1 | .planBad => 2 | .noMemory => 3 | .loading => 4),
        (match s.resetCause with | .power => 1 | .line => 2 | .reload => 3), s.loadCount,
        BitVec.ofNat 8 s.report.faults.length, flagByte s.report.listFull, BitVec.ofNat 8 w]
        ++ fourBytes s.report.headClock ++ [flagByte s.report.attention, 0, 0, 0]
      ∧ (∀ e ∈ s.report.faults, e.active = true → 1 ≤ w ∧ w ≤ e.code.number)
      ∧ (w ≠ 0 → ∃ e ∈ s.report.faults, e.active = true ∧ e.code.number = w))
    ∧ s.rowBytes 0x401 =
      [0, flagByte s.report.viewPinned, BitVec.ofNat 8 s.report.viewLeg.val, s.report.faultMask,
        (match s.report.eventMode with | .off => 0 | .any => 1 | .half => 2), flagByte s.report.rolloverEnable]
        ++ List.replicate 10 0

/-- Row 0x4020 + 16n, the leg row of leg `n`. -/
def State.LegRowShown (s : State) (n : LegId) : Prop :=
  s.rowBytes (0x402 + BitVec.ofNat 12 n.val) =
    [(match (s.leg n).state with
        | .parked => 0 | .waiting => 1 | .training => 2 | .up => 3 | .held => 4 | .lost => 5 | .down => 6 | .failed => 7),
      (match (s.leg n).profile.rate with | .one => 1 | .two => 2), BitVec.ofNat 8 (s.leg n).width,
      BitVec.ofNat 8 (s.leg n).first, BitVec.ofNat 8 (s.leg n).retry,
      flagByte (s.leg n).differs + 2 * flagByte (s.learnedValidFlag n) + 4 * flagByte (s.leg n).clamped
        + 8 * flagByte (s.leg n).profile.reverse + 16 * BitVec.ofNat 8 (s.leg n).profile.polarity.toNat]
      ++ twoBytes (s.leg n).glitch ++ twoBytes (s.leg n).lost ++ twoBytes (s.leg n).retrain
      ++ [flagByte (s.leg n).rollGlitch + 2 * flagByte (s.leg n).rollLost + 4 * flagByte (s.leg n).rollRetrain,
        BitVec.ofNat 8 (s.leg n).gap, BitVec.ofNat 8 (s.leg n).lastFailure.code, 0]

/-- The two detail rows of lane `i` side `x` of leg `n`, from row `r` on. -/
def State.DetailShown (s : State) (n : LegId) (i : Lane) (x : Side) (r : BitVec 12) : Prop :=
  s.rowBytes r =
      [BitVec.ofNat 8 n.val, BitVec.ofNat 8 i.val,
        (match s.laneState i x with | .quiet => 0 | .listen => 1 | .tune => 2 | .ready => 3 | .count => 4 | .data => 5),
        flagByte (s.exch i x).warm, BitVec.ofNat 8 (s.txPath i x).inUse.pre, BitVec.ofNat 8 (s.txPath i x).inUse.main,
        BitVec.ofNat 8 (s.txPath i x).inUse.post, BitVec.ofNat 8 (s.txPath i x).inUse.peak,
        BitVec.ofInt 8 (s.txPath i x).inUse.lowFrequency] ++ (s.exch i x).lastGiven.fields
        ++ [flagByte (decide (x = .c) && (s.slice i).inverted),
          BitVec.ofNat 8 (match x with | .s => i.val | .c => (s.slice i).pair.val), 0]
    ∧ s.rowBytes (r + 1) =
      (s.exch i x).req.lastReceived.fields
        ++ [BitVec.ofNat 8 (s.exch i x).badFrames, BitVec.ofNat 8 (s.exch i x).restarts, (s.exch i x).made,
          (s.exch i x).answered, BitVec.ofNat 8 (s.rxPath i x).eye.current, BitVec.ofNat 8 (s.rxPath i x).eye.minimum,
          BitVec.ofNat 8 (s.rxPath i x).eye.maximum,
          flagByte (s.rxPath i x).eye.valid + 2 * flagByte (s.rxPath i x).eye.alarm, 0, 0, 0, 0]

/-- The four detail rows of lane `k` of the leg on view, which is the pinned one, or the shown entry's, or leg 0 (R150); the
rows of a lane it does not have read 0 but for the first rows' bytes 0 and 1 (log 28). -/
def State.DetailPageShown (s : State) (k : Fin 4) : Prop :=
  s.legOnView = (if s.report.viewPinned then s.report.viewLeg
      else (((s.report.faults.find? fun e => !e.acked).bind fun e => e.owner).getD 0))
    ∧ (∀ i ∈ ((s.legLanes s.legOnView)[k.val]?).toList, s.legExists s.legOnView = true →
        s.DetailShown s.legOnView i .s (0x410 + 4 * BitVec.ofNat 12 k.val)
          ∧ s.DetailShown s.legOnView i .c (0x412 + 4 * BitVec.ofNat 12 k.val))
    ∧ (s.legExists s.legOnView = false ∨ (s.legLanes s.legOnView)[k.val]? = none →
        ∀ j : Fin 4, s.rowBytes (0x410 + 4 * BitVec.ofNat 12 k.val + BitVec.ofNat 12 j.val) =
          (if j.val % 2 = 0 then [BitVec.ofNat 8 s.legOnView.val, 0xFF] ++ List.replicate 14 0 else List.replicate 16 0))

/-- The fields of an event record by its kind, from offset 8 on, with the kind's number. -/
def EventKind.fields : EventKind → Byte × List Byte
  | .legState before after cause => (1, [BitVec.ofNat 8 before.number, BitVec.ofNat 8 after.number, BitVec.ofNat 8 cause.number])
  | .laneTuned x i low eye t =>
    (2, [if x = .c then 1 else 0, BitVec.ofNat 8 i.val, if low then 2 else 1, BitVec.ofNat 8 eye, BitVec.ofInt 8 t.pre,
      BitVec.ofInt 8 t.main, BitVec.ofInt 8 t.post])
  | .faultRaised code missed detail => (3, [BitVec.ofNat 8 code.number, flagByte missed, detail])
  | .faultCleared code detail => (4, [BitVec.ofNat 8 code.number, 0, detail])
  | .faultLeft code detail => (5, [BitVec.ofNat 8 code.number, 0, detail])
  | .profileTaken clamped => (6, [flagByte clamped])
  | .profileRefused => (7, [])
  | .recordWritten slot serial => (8, [BitVec.ofNat 8 slot.val, BitVec.ofNat 8 serial, BitVec.ofNat 8 (serial / 256)])
  | .recordSkipped => (9, [])
  | .headLoaded head count => (10, [BitVec.ofNat 8 head.number, count])

/-- Rows 0x4200, 0x4210 and 0x4220: the oldest record, the queue status, the shown entry. -/
def State.QueueRowsShown (s : State) : Prop :=
  s.rowBytes 0x420 =
      (match s.report.events.head? with
        | none => List.replicate 16 0
        | some r => [r.seq, r.kind.fields.1, (r.leg.map fun n => BitVec.ofNat 8 n.val).getD 0xFF, 0] ++ fourBytes r.time
            ++ r.kind.fields.2 ++ List.replicate (8 - r.kind.fields.2.length) 0)
    ∧ s.rowBytes 0x421 =
      [BitVec.ofNat 8 s.report.events.length, flagByte (decide (16 ≤ s.report.events.length)), flagByte s.report.overrun,
        s.report.nextSeq] ++ List.replicate 12 0
    ∧ s.rowBytes 0x422 =
      (match s.report.faults.find? fun e => !e.acked with
        | none => List.replicate 16 0
        | some e => [1, (e.owner.map fun n => BitVec.ofNat 8 n.val).getD 0xFF, BitVec.ofNat 8 e.code.number,
            if e.active then 1 else 2, BitVec.ofNat 8 e.occurrences, e.detail, 0, 0] ++ fourBytes e.firstTime ++ [0, 0, 0, 0])

/-- Every row of the live window that R147's table does not assign reads 0. -/
def State.OtherRowsZero (s : State) (r : BitVec 12) : Prop :=
  0x40A ≤ r.toNat ∧ r.toNat < 0x410 ∨ 0x423 ≤ r.toNat → s.rowBytes r = List.replicate 16 0

/-! ### What a command concerns -/

/-- The leg that a lane event, a leg timer or a leg command concerns: the owner of its lane, or its operand. -/
def State.concerned (s : State) : Instr → Option LegId
  | .signalLost i _ _ => s.owner i
  | .signalRestored i _ _ => s.owner i
  | .measurementRecord i _ _ _ _ => s.owner i
  | .tuneFrameArrives i _ _ => s.owner i
  | .fillFrameArrives i _ _ => s.owner i
  | .invalidFrame i _ _ => s.owner i
  | .frameIntervalStart i _ => s.owner i
  | .countZeroFrameEnd i _ => s.owner i
  | .frameSilenceExpiry i _ => s.owner i
  | .answerTimerExpiry i _ => s.owner i
  | .trainingBudgetExpiry n => some n
  | .backoffExpiry n => some n
  | .bridgeExpiry n => some n
  | .cutExpiry n => some n
  | .retrain n => some n
  | .park n => some n
  | .unpark n => some n
  | .clear n => some n
  | _ => none

/-- The commands that read, or begin to read, on the switch side (R140, R141). -/
def isRead : Instr → Bool
  | .currentAddressRead _ => true
  | .forwardedReadByte _ _ => true
  | .servedReadByte _ => true
  | _ => false

/-- The commands and stored values of the live window (R148). -/
def isWindowCommand : Instr → Bool
  | .retrain _ => true
  | .park _ => true
  | .unpark _ => true
  | .clear _ => true
  | .reload => true
  | .clearEventQueue => true
  | .clearOverrun => true
  | .clearAllLegCounters => true
  | .advance => true
  | .queueClearOverrun => true
  | .acknowledge => true
  | .setViewMode _ => true
  | .setViewLeg _ => true
  | .setFaultAttentionMask _ => true
  | .setEventAttentionMode _ => true
  | .setRolloverAttentionEnable _ => true
  | .liveWindowOtherWrite _ _ => true
  | _ => false

end Sys2Proof.Machine
end

