-- ==== Sys2Proof/Certificates/Slice0/Obligations.lean ====
section
/-! DEFINITION. The statements about the model, each from the manual's numbered rules. -/

open Sys2Proof Sys2Proof.Machine

/-! ### The queue of commands -/

/-- The model's queue (log 1): a step is the command at the front, acting on the state with the queue's rest; with no command
waiting nothing changes. -/
def Obligations.StepRunsFrontCommand : Prop :=
  ∀ (c : Instr) (rest : List Instr) (s : State),
    (s.pending = c :: rest → step s = exec c { s with pending := rest }) ∧ (s.pending = [] → step s = .next s)

/-- The model's choice (logs 1, 4 and 23): every command answers a next state, because an event out of its place has no effect
(log 4), and none touches the queue of waiting commands (log 1), power-on and the reset line included (log 23). -/
def Obligations.EveryCommandCompletes : Prop :=
  ∀ (c : Instr) (s : State),
    ∃ t, exec c s = .next t ∧ t.pending = s.pending

/-! ### Reset -/

/-- R19, R34 to R36, R41, R58, R77, R81, R94, R95, R97, R114, R136, R138, R160, R162, R166 at power-on: the first column of the
reset tables: no leg exists and none has a side status, every exchange at its reset values, both pointers at theirs, no record
waiting or spaced (a count of milliseconds, log 12), the load begun with its recovery. That it begins so where the reset input
is asserted too is the model's choice (log 37). The values the manual leaves open (log 6) are not stated. -/
def Obligations.PowerOnValues : Prop :=
  ∀ (s : State),
    ∃ t, exec .powerOn s = .next t
      ∧ t.head = .loading ∧ t.resetCause = .power ∧ t.loadCount = 0 ∧ t.report.headClock = 0
      ∧ t.report.faults = [] ∧ t.report.listFull = false ∧ t.report.events = [] ∧ t.report.overrun = false
      ∧ t.report.nextSeq = 0 ∧ t.report.viewPinned = false ∧ t.report.viewLeg = 0 ∧ t.report.faultMask = 0
      ∧ t.report.eventMode = .off ∧ t.report.rolloverEnable = false ∧ t.report.attention = false
      ∧ t.bridge.combined = 0 ∧ t.bridge.mirror = none ∧ t.agent.records = [] ∧ t.agent.skipped = 0 ∧ t.agent.spacing = 0
      ∧ t.agent.load = some { stage := .recovery, retryWait := false, window := none, best := none }
      ∧ (∀ (n : LegId) (x : Side), t.sideStatus n x = none)
      ∧ (∀ j : Lane, t.slice j = { owner := none, pair := j, inverted := false, rate := .one })
      ∧ (∀ n : LegId, t.leg n = .initial ∧ (t.leg n).profile = .defaults)
      ∧ ∀ (i : Lane) (x : Side),
          t.laneState i x = .quiet ∧ (t.txPath i x).line = .quiet ∧ (t.rxPath i x).signal = false
            ∧ (t.exch i x).order = .quiet ∧ (t.exch i x).req = .initial ∧ (t.exch i x).lastGiven = .blank
            ∧ (t.exch i x).restarts = 0 ∧ (t.exch i x).badFrames = 0 ∧ (t.exch i x).made = 0 ∧ (t.exch i x).answered = 0
            ∧ (t.exch i x).lastAnswered = none ∧ (t.exch i x).warm = false ∧ (t.exch i x).partnerVerdict = .seeking
            ∧ (t.exch i x).ownCount = 15 ∧ (t.exch i x).partnerCount = 15 ∧ (t.exch i x).zeroSeen = false
            ∧ (t.exch i x).watch = none
            ∧ (t.txPath i x).inUse = ⟨4, 40, 10⟩ ∧ (t.txPath i x).learnedValid = ⟨false, false⟩
            ∧ (∀ r : RateClass, (t.txPath i x).start.get r = ⟨4, 40, 10⟩)
            ∧ (t.rxPath i x).eye = { phase := .idle, acc := 0, current := 0, minimum := 0, maximum := 0, valid := false,
                                     alarm := false, run := 0 }

/-- R19, R146, R160, R166: the reset input's assertion releases both ports, cuts off what runs on them, discards waiting
records and puts every value at reset, a transaction open at the memory left open; its release begins a load. That the head
is LOADING with no load begun meanwhile, and the reset values of learned taps, line set and equalizer code, are the model's
choice (log 6). -/
def Obligations.ResetLine : Prop :=
  ∀ (s : State),
    (∃ t, exec .resetLineAssert s = .next t ∧ t.resetHeld = true ∧ t.head = .loading ∧ t.resetCause = .line
      ∧ t.bridge.port = .free ∧ t.bridge.txn = .initial ∧ t.bridge.memOpen = s.bridge.memOpen ∧ t.bridge.mirror = none
      ∧ t.bridge.combined = 0 ∧ t.agent.load = none ∧ t.agent.records = [] ∧ t.agent.skipped = 0 ∧ t.agent.spacing = 0
      ∧ t.report = .initial ∧ t.slices = State.reset.slices ∧ t.legs = State.reset.legs ∧ t.ex = State.reset.ex
      ∧ t.tx = State.reset.tx ∧ t.rx = State.reset.rx ∧ t.loadCount = 0
      ∧ (s.bridge.txn.phase ≠ .none → t.bridge.toSwitch = .nack))
    ∧ (s.resetHeld = true → exec .resetLineRelease s =
        .next { s with resetHeld := false, head := .loading, resetCause := .line
                       report := { s.report with headClock := 0 }
                       agent := { s.agent with
                         load := some { stage := .recovery, retryWait := false, window := none, best := none } } })

/-- Every law of Safety.lean holds right after power-on. That the agent's law does rests on a next serial of 1 before the first
scan (log 6) and on the record spacing as a count of milliseconds, 0 there (log 12), which are the model's choices. -/
def Obligations.LawsHoldAtReset : Prop :=
  ∀ (s : State),
    s = State.reset →
    s.EventsOk ∧ s.FaultsOk ∧ s.AttentionOk ∧ s.LegsOk ∧ s.PlanOk ∧ s.LanesOk ∧ s.ProfilesOk ∧ s.SetsOk ∧ s.ExchangesOk
      ∧ s.WordsOk ∧ s.EyesOk ∧ s.AgentOk ∧ s.BridgeOk

/-! ### The control word -/

/-- R22, R23: a TUNE word whose fields are in range is read back as those fields, and the three fill words as their reasons.
Section 2.10: a valid word with one bit corrupted is not valid, because one nibble has changed. -/
def Obligations.ControlWordRoundTrip : Prop :=
  (∀ (f : TuneFields) (r : FillReason),
    f.sendable = true →
    readWord (tuneWord f) = some (.tune f) ∧ readWord (fillWord r) = some (.fill r))
  ∧ ∀ (w : ControlWord) (k : Fin 32),
    readWord w ≠ none →
    readWord (w ^^^ BitVec.twoPow 32 k.val) = none

/-! ### Stored pages -/

/-- R161, R163: a page's check holds where its 64 bytes sum to 0 modulo 256, a header is accepted with its check and the format
code 0xB8, and a slot's serial is its first two bytes. R4: each leg's width is its byte, its first lane follows the lanes of the
legs before it, and a plan is valid under the four conditions: widths 0, 1, 2 or 4, width 2 from an even lane, width 4 from lane
0 or 4, and a sum of at most 8. R97, R37, R61, R54 to R57: what a leg record gives for each value of a profile, the start sets
clamped and repaired and every other value clamped into its range; its clamped flag is 1 where any of these, the polarity mask
apart, differs from the byte stored; and the default profile. These are the readings by which the statements on boundaries and
on a load's end name a page's profile and plan. -/
def Obligations.StoredPagesAreRead : Prop :=
  ∀ (p : Page) (first : LegId → Nat),
    (∀ n : LegId, first n = (((p.toList.drop 1).take n.val).map BitVec.toNat).sum) →
    (checkByteHolds p = true ↔ (p.toList.map BitVec.toNat).sum % 256 = 0)
      ∧ (headerAccepted p = true ↔ (p.toList.map BitVec.toNat).sum % 256 = 0 ∧ p[0] = 0xB8)
      ∧ slotSerial p = p[0].toNat + 256 * p[1].toNat
      ∧ (∀ n : LegId, headerWidth p n = p[1 + n.val].toNat ∧ dealtFirst p n = first n)
      ∧ (planValid p = true ↔
          (∀ n : LegId, p[1 + n.val].toNat = 0 ∨ p[1 + n.val].toNat = 1 ∨ p[1 + n.val].toNat = 2 ∨ p[1 + n.val].toNat = 4)
            ∧ (∀ n : LegId, p[1 + n.val].toNat = 2 → first n % 2 = 0)
            ∧ (∀ n : LegId, p[1 + n.val].toNat = 4 → first n = 0 ∨ first n = 4)
            ∧ (((p.toList.drop 1).take 8).map BitVec.toNat).sum ≤ 8)
      ∧ ProfileRead p (profileOf p) ∧ (recordClamped p = true ↔ ProfileAltered p (profileOf p))
      ∧ Profile.initial = Profile.defaults

/-! ### Laws that every step keeps -/

/-- R156: where the event queue holds at most 32 records with consecutive sequences that run up to the next sequence, it does
after every step. -/
def Obligations.EventQueueKept : Prop :=
  ∀ (s t : State),
    s.EventsOk →
    step s = .next t →
    t.EventsOk

/-- R153, R154: where the standing fault list holds at most 16 entries, no two of one owner and code, each with 1 to 255
occurrences and ACTIVE exactly while its condition holds, and the list-full flag is set only with 16 entries, so it is after
every step. -/
def Obligations.FaultListKept : Prop :=
  ∀ (s t : State),
    s.FaultsOk →
    step s = .next t →
    t.FaultsOk

/-- R159: where the attention line is as the five conditions of the rule make it, it is so after every step: it is derived
at every change. -/
def Obligations.AttentionKept : Prop :=
  ∀ (s t : State),
    s.AttentionOk →
    step s = .next t →
    t.AttentionOk

/-- R4, R8, R17, R83, R96, R104, R106, R115: every step keeps three laws together. Each timer, release flag, kept mark and
retry count belongs to the leg state, and a leg that does not exist is PARKED; no two groups share a lane, each leg owns the
lanes of its group alone, and the pairing is one-to-one within the group; each lane is in a state its leg admits, so that a
leg is UP or HELD only while every lane on both of its sides is in DATA, a spare lane is QUIET, and an eye path outside DATA
is IDLE (R133). -/
def Obligations.SupervisionKept : Prop :=
  ∀ (s t : State),
    s.LegsOk →
    s.PlanOk →
    s.LanesOk →
    step s = .next t →
    t.LegsOk ∧ t.PlanOk ∧ t.LanesOk

/-- R38, R97: every step keeps every profile value in its range and every start set, every valid learned set and the set in
use on every lane that is not QUIET feasible under its leg's ceiling and floor. -/
def Obligations.CoefficientLawKept : Prop :=
  ∀ (s t : State),
    s.LegsOk →
    s.PlanOk →
    s.LanesOk →
    s.ProfilesOk →
    s.SetsOk →
    step s = .next t →
    t.ProfilesOk ∧ t.SetsOk

/-- R22, R31, R34, R35, R60, R66, R70, R88: every step keeps every exchange in order (a request stands only in TUNE and
SEEKING with the answer timer running exactly while it is OUTSTANDING; the watch runs in TUNE and READY alone; the own count
leaves 15 in COUNT and DATA alone; a lane in DATA has sent count 0 and seen its partner's), and every control word on the
line is valid. -/
def Obligations.ExchangeLawKept : Prop :=
  ∀ (s t : State),
    s.PlanOk →
    s.LanesOk →
    s.ProfilesOk →
    s.SetsOk →
    s.ExchangesOk →
    s.WordsOk →
    step s = .next t →
    t.ExchangesOk ∧ t.WordsOk

/-- R128, R130: every step keeps the eye values in their ranges, the valid flag set exactly in RUNNING, and there the current
average the accumulator's eighth, between minimum and maximum. -/
def Obligations.EyeLawKept : Prop :=
  ∀ (s t : State),
    s.EyesOk →
    step s = .next t →
    t.EyesOk

/-- R144, R165 to R167: every step keeps the next serial in 1..65535, the skipped count and the record spacing in range, and
the port with the agent only for a record it has, a recovery or a tried chunk of its load, and never under reset.
That the spacing is a count of milliseconds, at most 10000, is the model's choice (log 12). -/
def Obligations.AgentLawKept : Prop :=
  ∀ (s t : State),
    s.LegsOk →
    s.AgentOk →
    step s = .next t →
    t.AgentOk

/-- R138, R141, R143, R144, R145: every step keeps the port with the bridge exactly in the phases of a transaction that has it,
at most sixteen live-window bytes in the write buffer of a live-window write, each data phase in the space of the combined
pointer, a snapshot only of the live row being read, and with no memory the mirror unknown. That a snapshot stands in a read
alone, dropped where a repeated START begins a write, is the model's choice (log 18). -/
def Obligations.BridgeLawKept : Prop :=
  ∀ (s t : State),
    s.BridgeOk →
    step s = .next t →
    t.BridgeOk

/-! ### Frames -/

/-- Chapter 1: each leg trains, carries data and fails on its own. A command that concerns one leg leaves every other leg's
record, lanes, paths and slices, the bridge, the pending copies, the head and the control bytes as they were. -/
def Obligations.OneLegAlone : Prop :=
  ∀ (c : Instr) (s t : State) (n : LegId),
    s.PlanOk →
    s.concerned c = some n →
    exec c s = .next t →
    (∀ m : LegId, m ≠ n → t.leg m = s.leg m)
      ∧ (∀ (j : Lane) (y : Side), s.owner j ≠ some n →
          t.exch j y = s.exch j y ∧ t.txPath j y = s.txPath j y ∧ t.rxPath j y = s.rxPath j y ∧ t.slice j = s.slice j)
      ∧ (∀ j : Lane, t.owner j = s.owner j) ∧ t.bridge = s.bridge ∧ t.pendingHeader = s.pendingHeader
      ∧ t.pendingLegs = s.pendingLegs ∧ t.head = s.head ∧ t.loadCount = s.loadCount ∧ t.resetHeld = s.resetHeld
      ∧ t.agent.load = s.agent.load ∧ t.agent.nextSlot = s.agent.nextSlot ∧ t.agent.nextSerial = s.agent.nextSerial
      ∧ t.report.headClock = s.report.headClock ∧ t.report.planBad = s.report.planBad
      ∧ t.report.memoryFault = s.report.memoryFault ∧ t.report.viewPinned = s.report.viewPinned
      ∧ t.report.viewLeg = s.report.viewLeg ∧ t.report.faultMask = s.report.faultMask
      ∧ t.report.eventMode = s.report.eventMode ∧ t.report.rolloverEnable = s.report.rolloverEnable

/-- R141: a read never changes live-window state; it changes the bridge alone. -/
def Obligations.ReadsChangeTheBridgeAlone : Prop :=
  ∀ (c : Instr) (s : State),
    isRead c = true →
    ∃ b, exec c s = .next { s with bridge := b }

/-- R6: on a spare lane signal events change the flag alone, and records, frames, intervals and timers change nothing. That
the model's time reaches the event's instant is the model's choice (log 2). -/
def Obligations.SpareLaneDiscards : Prop :=
  ∀ (s : State) (i : Lane) (x : Side) (a : Nat) (w : ControlWord) (eye rp rq : BitVec 7),
    s.owner i = none →
    s.laneState i x = .quiet →
    s.resetHeld = false →
    (∀ b : Bool, exec (if b then .signalRestored i x a else .signalLost i x a) s =
        .next { s with now := max s.now a, rx := (s.setRxAt (s.phys i x) x { s.rxPath i x with signal := b }).rx })
      ∧ exec (.measurementRecord i x eye rp rq) s = .next s ∧ exec (.tuneFrameArrives i x w) s = .next s
      ∧ exec (.fillFrameArrives i x w) s = .next s ∧ exec (.invalidFrame i x w) s = .next s
      ∧ exec (.frameIntervalStart i x) s = .next s ∧ exec (.countZeroFrameEnd i x) s = .next s
      ∧ exec (.frameSilenceExpiry i x) s = .next s ∧ exec (.answerTimerExpiry i x) s = .next s

/-! ### Signals -/

/-- R14, R34, R36, R40, R70, R74, R85: a loss in TUNE, READY or COUNT, or in DATA while the leg trains, takes the lane to
LISTEN and is no restart; the frame-silence watch restarts an exchange, counted in TRAINING alone; outside TRAINING an answer
timeout takes the lane to LISTEN uncounted. The leg keeps its state and every other lane stands. R14, R107, R123: a loss on a
lane in QUIET or LISTEN, and a restore on a lane of a leg that is not HELD, change the flag alone, whatever the lane state; that
the model's time reaches the event's instant is the model's choice (log 2). -/
def Obligations.LaneReturnsToListen : Prop :=
  ∀ (s : State) (i : Lane) (x : Side) (a w : Nat) (n : LegId),
    s.PlanOk →
    s.owner i = some n →
    (s.resetHeld = false →
        (s.laneState i x = .tune ∨ s.laneState i x = .ready ∨ s.laneState i x = .count
          ∨ (s.laneState i x = .data ∧ (s.leg n).state = .training)) →
        ∃ t, exec (.signalLost i x a) s = .next t ∧ s.BackInListen t n i x ∧ (t.rxPath i x).signal = false
          ∧ (t.exch i x).restarts = (s.exch i x).restarts)
      ∧ ((s.laneState i x = .tune ∨ s.laneState i x = .ready) → (s.exch i x).watch = some w →
        ¬((s.leg n).state = .training ∧ 3 ≤ (s.exch i x).restarts) →
        ∃ t, exec (.frameSilenceExpiry i x) s = .next t ∧ s.BackInListen t n i x
          ∧ (t.exch i x).restarts = (s.exch i x).restarts + (if (s.leg n).state = .training then 1 else 0))
      ∧ (s.laneState i x = .tune → (s.exch i x).req.answerTimer = some w → (s.leg n).state ≠ .training →
        ∃ t, exec (.answerTimerExpiry i x) s = .next t ∧ s.BackInListen t n i x
          ∧ (t.exch i x).restarts = (s.exch i x).restarts)
      ∧ (s.resetHeld = false → (s.laneState i x = .quiet ∨ s.laneState i x = .listen) →
        exec (.signalLost i x a) s = .next { s with
          now := max s.now a, rx := (s.setRxAt (s.phys i x) x { s.rxPath i x with signal := false }).rx })
      ∧ (s.resetHeld = false → (s.leg n).state ≠ .held →
        exec (.signalRestored i x a) s = .next { s with
          now := max s.now a, rx := (s.setRxAt (s.phys i x) x { s.rxPath i x with signal := true }).rx })

/-- R123, R17: a loss in LOST on a lane in DATA takes every lane of its side to LISTEN, the side's release and kept mark
cleared; the other side's lanes stay and the cut timer runs on. R117: in HELD a loss joins the episode and a restore that
leaves another path ABSENT resumes its own: the leg record and its bridge timer stand, no event is queued, and the opposite
transmit path goes to GAP, or back to DATA at the end of the fill frame in progress. -/
def Obligations.LossInLostStartsTheSide : Prop :=
  ∀ (s : State) (i : Lane) (x : Side) (a : Nat) (n : LegId),
    s.PlanOk →
    s.owner i = some n →
    s.resetHeld = false →
    ((s.leg n).state = .lost → s.laneState i x = .data →
        ∃ t, exec (.signalLost i x a) s = .next t ∧ (t.rxPath i x).signal = false
          ∧ (∀ j : Lane, s.owner j = some n →
              (t.exch j x).Fresh ∧ (t.txPath j x).Loaded (s.leg n).profile.rate ∧ (t.exch j x).order = .standby
                ∧ t.laneState j x.opposite = s.laneState j x.opposite)
          ∧ (t.leg n).released.get x = false ∧ (t.leg n).kept.get x = false
          ∧ (t.leg n).kept.get x.opposite = (s.leg n).kept.get x.opposite ∧ s.LegStands t n ∧ t.slices = s.slices)
      ∧ (s.LanesOk → (s.leg n).state = .held →
        ∃ t, exec (.signalLost i x a) s = .next t ∧ t.legs = s.legs ∧ t.report = s.report ∧ t.agent = s.agent
          ∧ t.slices = s.slices ∧ t.rx = (s.setRxAt (s.phys i x) x { s.rxPath i x with signal := false }).rx
          ∧ (∀ (j : Lane) (y : Side), t.exch j y = { s.exch j y with order := (t.exch j y).order })
          ∧ (∀ (j : Lane) (y : Side), s.owner j = some n →
              (t.exch j y).order = if (t.rxPath j y.opposite).signal then .data else .gap)
          ∧ ((s.txPath i x.opposite).line = .data → (t.txPath i x.opposite).line = .gap))
      ∧ (s.LanesOk → (s.leg n).state = .held →
        (∃ j : Lane, s.owner j = some n ∧ ∃ y : Side, (j, y) ≠ (i, x) ∧ (s.rxPath j y).signal = false) →
        ∃ t, exec (.signalRestored i x a) s = .next t ∧ t.legs = s.legs ∧ t.report = s.report ∧ t.agent = s.agent
          ∧ t.slices = s.slices ∧ t.rx = (s.setRxAt (s.phys i x) x { s.rxPath i x with signal := true }).rx
          ∧ (∀ (j : Lane) (y : Side), t.exch j y = { s.exch j y with order := (t.exch j y).order })
          ∧ (∀ (j : Lane) (y : Side), s.owner j = some n →
              (t.exch j y).order = if (t.rxPath j y.opposite).signal then .data else .gap)
          ∧ ((s.txPath i x.opposite).line = .gap → (t.txPath i x.opposite).line = .data)
          ∧ ((s.txPath i x.opposite).line ≠ .gap → (s.txPath i x.opposite).line ≠ .quiet →
              (t.txPath i x.opposite).line = (s.txPath i x.opposite).line))

/-- R116, R16, R18: a loss on a leg in UP takes it to HELD with the bridge timer started; the lanes stay in DATA, the opposite
transmit path of the lost receiver stops its data at once and sends GAP from the next interval, and every other transmit path
keeps DATA. That the episode and the bridge timer start at the model's time where the event's own instant lies behind it is the
model's choice (log 2). -/
def Obligations.LossInUpIsBridged : Prop :=
  ∀ (s : State) (i : Lane) (x : Side) (a : Nat) (n : LegId),
    s.PlanOk →
    s.LanesOk →
    s.owner i = some n →
    s.resetHeld = false →
    (s.leg n).state = .up →
    (∀ (j : Lane) (y : Side), s.owner j = some n → (s.rxPath j y).signal = true) →
    ∃ t, exec (.signalLost i x a) s = .next t
      ∧ t.leg n = { s.leg n with state := .held, episode := some (max s.now a)
                                 bridge := some (max s.now a + 50 * (s.leg n).profile.bridge) }
      ∧ t.rxPath i x = { s.rxPath i x with signal := false }
      ∧ (∀ (j : Lane) (y : Side), t.exch j y = { s.exch j y with order := (t.exch j y).order })
      ∧ (t.exch i x.opposite).order = .gap
      ∧ ((s.txPath i x.opposite).line = .data → (t.txPath i x.opposite).line = .gap)
      ∧ (∃ u, exec (.frameIntervalStart i x.opposite) t = .next u ∧ (u.txPath i x.opposite).line = .frame 0x80000026)
      ∧ (∀ (j : Lane) (y : Side), s.owner j = some n → (j, y) ≠ (i, x.opposite) → (t.exch j y).order = .data)
      ∧ s.queuedFirst t (some n) (.legState .up .held .signalLost)

/-- R118, R111: the restore that leaves no receive path ABSENT ends the episode in UP: bridge timer stopped, glitch count
risen with its rollover flag, longest gap in units of 50 microseconds rounded up, every order DATA. That the episode is measured
to the model's time where the event's own instant lies behind it is the model's choice (log 2). -/
def Obligations.LastRestoreEndsGlitch : Prop :=
  ∀ (s : State) (i : Lane) (x : Side) (a start : Nat) (n : LegId),
    s.PlanOk →
    s.LanesOk →
    s.owner i = some n →
    s.resetHeld = false →
    (s.leg n).state = .held →
    (s.leg n).episode = some start →
    (∀ (j : Lane) (y : Side), s.owner j = some n → (j, y) ≠ (i, x) → (s.rxPath j y).signal = true) →
    ∃ t, exec (.signalRestored i x a) s = .next t
      ∧ t.leg n = { s.leg n with state := .up, bridge := none, episode := none, glitch := (s.leg n).glitch + 1
                                 rollGlitch := (s.leg n).rollGlitch || decide ((s.leg n).glitch = 65535)
                                 gap := min 255 (max (s.leg n).gap ((max s.now a - start + 49) / 50)) }
      ∧ (∀ (j : Lane) (y : Side), t.laneState j y = s.laneState j y)
      ∧ (∀ (j : Lane) (y : Side), s.owner j = some n → (t.exch j y).order = .data)
      ∧ s.queuedFirst t (some n) (.legState .held .up .restored)

/-! ### Measurement records -/

/-- R15, R89: a record of a lane in QUIET, LISTEN or COUNT is discarded. R62 to R64, R67: one of a lane in TUNE or READY met by a
request in flight is discarded, and one met by the stale mark is discarded and clears the mark, in either mode and after the
last accepted request too. A used record in SEEKING below the cap makes the request of the first step whose condition holds.
Eye and residuals count as 0 while the signal flag is ABSENT (R2), as it can be in TUNE after a revert in HELD (log 33). -/
def Obligations.RecordMakesRequest : Prop :=
  ∀ (s : State) (i : Lane) (x : Side) (eye rp rq : BitVec 7) (n : LegId) (e : Nat) (vp vq : Int),
    s.owner i = some n →
    e = (if (s.rxPath i x).signal then eye.toNat else 0) →
    vp = (if (s.rxPath i x).signal then rp.toInt else 0) →
    vq = (if (s.rxPath i x).signal then rq.toInt else 0) →
    (s.laneState i x = .quiet ∨ s.laneState i x = .listen ∨ s.laneState i x = .count →
        exec (.measurementRecord i x eye rp rq) s = .next s)
      ∧ (s.laneState i x = .tune ∨ s.laneState i x = .ready → (s.exch i x).req.phase ≠ .idle →
          exec (.measurementRecord i x eye rp rq) s = .next s)
      ∧ (s.laneState i x = .tune ∨ s.laneState i x = .ready →
          (s.exch i x).req.phase = .idle → (s.exch i x).req.stale = true →
          exec (.measurementRecord i x eye rp rq) s =
            .next (s.setExch i x { s.exch i x with req := { (s.exch i x).req with stale := false } }))
      ∧ (s.laneState i x = .tune → (s.exch i x).req.mode = .seeking → (s.exch i x).req.accepted < 96 →
          (s.exch i x).req.phase = .idle → (s.exch i x).req.stale = false →
          ((s.leg n).profile.band < vq.natAbs ∧ (s.exch i x).req.marks.get .post (decide (0 < vq)) = false →
            exec (.measurementRecord i x eye rp rq) s = .next (s.setExch i x ((s.exch i x).requesting .post
              (vq.sign * min 3 (vq.natAbs / (s.leg n).profile.band : Nat)))))
          ∧ (¬((s.leg n).profile.band < vq.natAbs ∧ (s.exch i x).req.marks.get .post (decide (0 < vq)) = false) →
            (s.leg n).profile.band < vp.natAbs ∧ (s.exch i x).req.marks.get .pre (decide (0 < vp)) = false →
            exec (.measurementRecord i x eye rp rq) s = .next (s.setExch i x ((s.exch i x).requesting .pre
              (vp.sign * min 3 (vp.natAbs / (s.leg n).profile.band : Nat)))))
          ∧ (¬((s.leg n).profile.band < vq.natAbs ∧ (s.exch i x).req.marks.get .post (decide (0 < vq)) = false) →
            ¬((s.leg n).profile.band < vp.natAbs ∧ (s.exch i x).req.marks.get .pre (decide (0 < vp)) = false) →
            e < (s.leg n).profile.target ∧ (s.exch i x).req.marks.mainPlus = false →
            exec (.measurementRecord i x eye rp rq) s =
              .next (s.setExch i x ((s.exch i x).requesting .main 1))))

/-- R63, R65, R66, R71 to R74, R78: a used record for which no step can ask for more (the cap reached, or each residual in the
band or exhausted in its direction) is judged: at the target or above the receiver is content (TUNED), at the minimum or above
too (TUNED_LOW), and LANE_TUNED is queued; below the minimum the lane fails with EYE_SHORT, which ends an attempt in TRAINING
and starts the lane afresh in any other state. A content receiver's record at the minimum or above changes nothing; one below
ends contentment: a READY lane returns to TUNE with its cause recorded (R80), and the same record makes a request or fails
the lane. An attempt that ends in FAILED asks for one failure record (R166); its spacing as a count of milliseconds is the
model's choice (log 12). Eye and residuals count as 0 while the signal flag is ABSENT (R2). -/
def Obligations.RecordEndsTheSearch : Prop :=
  ∀ (s : State) (i : Lane) (x : Side) (eye rp rq : BitVec 7) (n : LegId) (p : Profile) (r : Requester) (tap : Tap)
      (delta : Int) (e : Nat) (vp vq : Int),
    s.PlanOk →
    s.owner i = some n →
    e = (if (s.rxPath i x).signal then eye.toNat else 0) →
    vp = (if (s.rxPath i x).signal then rp.toInt else 0) →
    vq = (if (s.rxPath i x).signal then rq.toInt else 0) →
    p = (s.leg n).profile →
    r = (s.exch i x).req →
    r.phase = .idle →
    r.stale = false →
    (r.mode = .seeking → s.laneState i x = .tune → r.AsksNothing p e vp vq →
        p.target ≤ e ∨ p.minimum ≤ e →
        ∃ t, exec (.measurementRecord i x eye rp rq) s = .next t
          ∧ (t.exch i x).req = { r with mode := .content }
          ∧ t.laneState i x = (if (s.exch i x).partnerVerdict = .content then .ready else .tune)
          ∧ s.queuedFirst t (some n) (.laneTuned x i (decide (e < p.target)) e r.taps) ∧ s.OthersStand t i x)
      ∧ (s.laneState i x = .tune ∨ s.laneState i x = .ready ∧ r.mode = .content →
        r.AsksNothing p e vp vq → e < p.target → e < p.minimum →
        ((s.leg n).state ≠ .training →
            ∃ t, exec (.measurementRecord i x eye rp rq) s = .next t ∧ s.BackInListen t n i x
              ∧ (t.exch i x).restarts = (s.exch i x).restarts)
          ∧ ((s.leg n).state = .training →
            ∃ t, exec (.measurementRecord i x eye rp rq) s = .next t
              ∧ s.Failed t n (.lane .eyeShort x i) .sideFail s.now ∧ s.AskedIfOut t n))
      ∧ (r.mode = .content → s.laneState i x = .tune ∨ s.laneState i x = .ready →
        (p.minimum ≤ e → exec (.measurementRecord i x eye rp rq) s = .next s)
          ∧ (e < p.minimum → r.Asks p e vp vq tap delta →
            ∃ t, exec (.measurementRecord i x eye rp rq) s = .next t ∧ s.OthersStand t i x
              ∧ t.exch i x = { (s.exch i x).discontent.requesting tap delta with
                  order := (t.exch i x).order, restarts := (t.exch i x).restarts }
              ∧ ((s.leg n).state ≠ .waiting → s.LegStands t n)
              ∧ (s.laneState i x = .ready → (t.leg n).released.get x = false)
              ∧ (s.laneState i x = .tune → t = { s with ex := t.ex })))

/-- R2, R129, R130, R132, R135: a record of a path in DATA updates its eye values, as eye 0 while the flag is ABSENT, and the
margin condition then holds exactly while some path of the leg alarms, MARGIN_LOW raised at the first alarm and its condition
ended at the last (R153, R154). -/
def Obligations.EyeRecordUpdates : Prop :=
  ∀ (s : State) (i : Lane) (x : Side) (eye rp rq : BitVec 7) (n : LegId) (e a : Nat),
    s.owner i = some n →
    s.laneState i x = .data →
    e = (if (s.rxPath i x).signal then eye.toNat else 0) →
    a = (if (s.rxPath i x).eye.phase = .priming then 8 * e
        else (s.rxPath i x).eye.acc - (s.rxPath i x).eye.acc / 8 + e) →
    (s.rxPath i x).eye.phase ≠ .idle →
    ∃ t, exec (.measurementRecord i x eye rp rq) s = .next t
      ∧ t.rx = (s.setRxAt (s.phys i x) x (t.rxPath i x)).rx ∧ t.tx = s.tx ∧ t.ex = s.ex ∧ t.slices = s.slices
      ∧ s.LegStands t n
      ∧ (t.rxPath i x).eye.acc = a ∧ (t.rxPath i x).eye.phase = .running
      ∧ ((s.rxPath i x).eye.phase = .priming →
          (t.rxPath i x).eye.current = e ∧ (t.rxPath i x).eye.minimum = e ∧ (t.rxPath i x).eye.maximum = e
            ∧ (t.rxPath i x).eye.valid = true)
      ∧ ((s.rxPath i x).eye.phase = .running →
          (t.rxPath i x).eye.current = a / 8 ∧ (t.rxPath i x).eye.minimum = min (s.rxPath i x).eye.minimum (a / 8)
            ∧ (t.rxPath i x).eye.maximum = max (s.rxPath i x).eye.maximum (a / 8)
            ∧ (t.rxPath i x).eye.valid = (s.rxPath i x).eye.valid)
      ∧ (if (if (s.rxPath i x).eye.alarm then (s.leg n).profile.alarmLevel + 4 ≤ (t.rxPath i x).eye.current
              else (t.rxPath i x).eye.current < (s.leg n).profile.alarmLevel) then
          if (s.rxPath i x).eye.run = 7 then
            (t.rxPath i x).eye.alarm = !(s.rxPath i x).eye.alarm ∧ (t.rxPath i x).eye.run = 0
          else (t.rxPath i x).eye.alarm = (s.rxPath i x).eye.alarm
            ∧ (t.rxPath i x).eye.run = (s.rxPath i x).eye.run + 1
        else (t.rxPath i x).eye.alarm = (s.rxPath i x).eye.alarm ∧ (t.rxPath i x).eye.run = 0)
      ∧ t.condition (some n) .marginLow = t.anyAlarm n ∧ s.Reports t (s.marginActs t n)

/-! ### Frames taken -/

/-- R44 to R52: a new request on PRE, MAIN or POST in TUNE or READY moves that tap alone to the wanted value clamped into the
feasible interval of R45, the set stays feasible, and the answer tells what was applied and by which limit: NONE, or the
first of TAP, CEILING and FLOOR whose term is the bound reached; a new RESTART loads the start set, COLD. R27, R44: a frame that
repeats the sequence last answered, whatever its tap and delta, and one with tap NONE leave the path's sets, the start indicator,
the last answer given, the answered count and the last answered sequence as they were. A lane stays in its state, but as the
frame's verdict moves it (R78, R80, R86); that the frame which opens COUNT has its request taken too is the model's choice
(log 9). -/
def Obligations.RequestIsClampedAndAnswered : Prop :=
  ∀ (s : State) (i : Lane) (x : Side) (w : ControlWord) (f : TuneFields) (n : LegId) (u : Coef) (C F : Nat),
    s.PlanOk →
    s.owner i = some n →
    s.laneState i x = .tune ∨ s.laneState i x = .ready →
    readWord w = some (.tune f) →
    u = (s.txPath i x).inUse →
    C = (s.leg n).profile.ceiling →
    F = (s.leg n).profile.floor →
    ∃ t, exec (.tuneFrameArrives i x w) s = .next t ∧ s.OthersStand t i x
      ∧ (s.laneState i x = .tune →
          t.laneState i x = if f.verdict = .content ∧ (s.exch i x).req.mode = .content then .ready else .tune)
      ∧ (s.laneState i x = .ready →
          t.laneState i x = if f.verdict = .seeking then .tune else if (s.leg n).released.get x then .count else .ready)
      ∧ ((s.exch i x).lastAnswered ≠ some f.seq → f.tap ≠ .none → u.feasible C F = true → s.RequestAnswered t n i x f u C F)
      ∧ ((s.exch i x).lastAnswered = some f.seq ∨ f.tap = .none → s.RequestPassedOver t i x)

/-- R25, R29, R44, R68, R69: a valid TUNE frame in TUNE or READY has its verdict and count recorded and the watch restarted, its
request taken where it carries a new one, and then its answer fields: an answer is accepted when it echoes the outstanding
request after the first frame that carried it, with an outcome other than NONE. Every other answer is ignored: one that comes
with no current request, and so every answer to a requester whose mode is CONTENT or whose lane is READY (R70, R71). In TUNE a
frame without a request that does not move the lane (R78) does nothing else. That the frame which opens COUNT has both taken is
the model's choice (log 9). -/
def Obligations.AnswerIsAcceptedOrIgnored : Prop :=
  ∀ (s : State) (i : Lane) (x : Side) (w : ControlWord) (f : TuneFields) (n : LegId) (r : Requester) (u : Coef) (C F : Nat),
    s.PlanOk →
    s.owner i = some n →
    s.laneState i x = .tune ∨ s.laneState i x = .ready →
    readWord w = some (.tune f) →
    r = (s.exch i x).req →
    u = (s.txPath i x).inUse →
    C = (s.leg n).profile.ceiling →
    F = (s.leg n).profile.floor →
    (∃ t, exec (.tuneFrameArrives i x w) s = .next t ∧ s.OthersStand t i x
        ∧ (t.exch i x).req = r.afterAnswer f
        ∧ ((s.exch i x).RequesterOk → r.mode = .content ∨ s.laneState i x = .ready → (t.exch i x).req = r)
        ∧ ((s.exch i x).lastAnswered ≠ some f.seq → f.tap ≠ .none → u.feasible C F = true → s.RequestAnswered t n i x f u C F)
        ∧ ((s.exch i x).lastAnswered = some f.seq ∨ f.tap = .none → s.RequestPassedOver t i x)
        ∧ (t.exch i x).partnerVerdict = f.verdict ∧ (t.exch i x).partnerCount = f.count
        ∧ (t.laneState i x ≠ .count → (t.exch i x).watch = some (s.now + 640)))
      ∧ (s.laneState i x = .tune → f.tap = .none → r.mode = .seeking ∨ f.verdict = .seeking →
        exec (.tuneFrameArrives i x w) s = .next (s.setExch i x { s.exch i x with
          watch := some (s.now + 640), partnerVerdict := f.verdict, partnerCount := f.count, req := r.afterAnswer f }))

/-- R13, R25, R44 to R51, R102: in LISTEN a valid TUNE frame has no effect while the flag is ABSENT; with the flag PRESENT
the lane enters TUNE with the watch started, a request that the frame carries is processed as the first of the exchange
start, no sequence having been answered in LISTEN, and a WAITING leg none of whose lanes is then in LISTEN or QUIET enters
TRAINING with its budget running and its restart counts 0. -/
def Obligations.FirstFrameEntersTune : Prop :=
  ∀ (s : State) (i : Lane) (x : Side) (w : ControlWord) (f : TuneFields) (n : LegId),
    s.PlanOk →
    s.owner i = some n →
    s.laneState i x = .listen →
    (s.exch i x).req.mode = .seeking →
    readWord w = some (.tune f) →
    ((s.rxPath i x).signal = false → exec (.tuneFrameArrives i x w) s = .next s)
      ∧ ((s.rxPath i x).signal = true →
          ∃ t, exec (.tuneFrameArrives i x w) s = .next t ∧ t.laneState i x = .tune
            ∧ (t.exch i x).watch = some (s.now + 640) ∧ (t.exch i x).partnerVerdict = f.verdict
            ∧ (t.exch i x).partnerCount = f.count ∧ s.OthersStand t i x
            ∧ ((s.exch i x).lastAnswered = none → f.tap ≠ .none →
                (s.txPath i x).inUse.feasible (s.leg n).profile.ceiling (s.leg n).profile.floor = true →
                s.RequestAnswered t n i x f (s.txPath i x).inUse (s.leg n).profile.ceiling (s.leg n).profile.floor)
            ∧ (f.tap = .none → s.RequestPassedOver t i x)
            ∧ ((s.leg n).state = .waiting →
                (∀ (j : Lane) (y : Side), s.owner j = some n → (j, y) ≠ (i, x) →
                  s.laneState j y ≠ .listen ∧ s.laneState j y ≠ .quiet ∧ s.laneState j y ≠ .count
                    ∧ s.laneState j y ≠ .data) →
                (t.leg n).state = .training
                  ∧ (t.leg n).budget = some (s.now + 10000 * (s.leg n).profile.budget)
                  ∧ (∀ (j : Lane) (y : Side), s.owner j = some n → (t.exch j y).restarts = 0)
                  ∧ s.queuedFirst t (some n) (.legState .waiting .training .allSignals))
            ∧ ((s.leg n).state = .waiting →
                (∃ (j : Lane), s.owner j = some n ∧ ∃ (y : Side), (j, y) ≠ (i, x) ∧ s.laneState j y = .listen) →
                (t.leg n).state = .waiting))

/-- R24, R33, R80: a valid TUNE or FILL frame has no effect in QUIET (R12). A valid FILL frame by lane state: none in LISTEN;
in TUNE the watch and SEEKING; in READY the return to TUNE with the side's release cleared and its cause, partner revert,
recorded; in COUNT before count 0 has ended CONTENT, count 0 and partner zero seen; in DATA CONTENT and count 0. An invalid
frame raises the bad-frame count, saturating at 255, of an exchange whose lane is not QUIET, and has no other effect. -/
def Obligations.FillAndInvalidFrames : Prop :=
  ∀ (s : State) (i : Lane) (x : Side) (w v : ControlWord) (r : FillReason) (n : LegId),
    s.PlanOk →
    s.owner i = some n →
    readWord w = some (.fill r) →
    readWord v = none →
    (s.laneState i x = .quiet → exec (.fillFrameArrives i x w) s = .next s
        ∧ ∀ (u : ControlWord) (f : TuneFields), readWord u = some (.tune f) → exec (.tuneFrameArrives i x u) s = .next s)
      ∧ (s.laneState i x = .listen → exec (.fillFrameArrives i x w) s = .next s)
      ∧ (s.laneState i x = .tune → exec (.fillFrameArrives i x w) s =
          .next (s.setExch i x { s.exch i x with watch := some (s.now + 640), partnerVerdict := .seeking }))
      ∧ (s.laneState i x = .count → (s.exch i x).countEnded = false → exec (.fillFrameArrives i x w) s =
          .next (s.setExch i x { s.exch i x with partnerVerdict := .content, partnerCount := 0, zeroSeen := true }))
      ∧ (s.laneState i x = .data → exec (.fillFrameArrives i x w) s =
          .next (s.setExch i x { s.exch i x with partnerVerdict := .content, partnerCount := 0 }))
      ∧ (s.laneState i x = .ready →
          ∃ t, exec (.fillFrameArrives i x w) s = .next t ∧ t.laneState i x = .tune
            ∧ (t.exch i x).partnerVerdict = .seeking ∧ (t.exch i x).ownCount = 15 ∧ (t.exch i x).zeroSeen = false
            ∧ (t.exch i x).watch = some (s.now + 640) ∧ (t.exch i x).req = (s.exch i x).req
            ∧ (t.exch i x).returnCause = some .partnerRevert
            ∧ (t.leg n).released.get x = false ∧ ((s.leg n).state ≠ .waiting → s.LegStands t n)
            ∧ s.OthersStand t i x)
      ∧ (s.laneState i x ≠ .quiet → exec (.invalidFrame i x v) s =
          .next (s.setExch i x { s.exch i x with badFrames := min 255 ((s.exch i x).badFrames + 1) }))
      ∧ (s.laneState i x = .quiet → exec (.invalidFrame i x v) s = .next s)

/-- R71, R78, R80 to R82, R84, R86, R93, R102, R122: a CONTENT frame takes a lane in TUNE whose requester is CONTENT to
READY, and so does the record that makes its requester content after such a frame. In TRAINING and LOST the release rule is
tested at that event: both sides are released together where all lanes are READY, one alone against a side that is COUNTING
or DATA. A leg in WAITING whose lanes are all READY then enters TRAINING with both sides released. In READY a CONTENT frame
takes the lane to COUNT once its side is released, and not before; a SEEKING frame takes a READY lane back to TUNE, its side
no longer released. -/
def Obligations.ReleaseGate : Prop :=
  ∀ (s : State) (i : Lane) (x : Side) (c : Instr) (w : ControlWord) (f : TuneFields) (eye rp rq : BitVec 7) (n : LegId),
    s.PlanOk →
    s.owner i = some n →
    readWord w = some (.tune f) →
    (s.laneState i x = .tune →
        c = .tuneFrameArrives i x w ∧ f.verdict = .content ∧ (s.exch i x).req.mode = .content
          ∨ c = .measurementRecord i x eye rp rq ∧ (s.exch i x).partnerVerdict = .content ∧ (s.exch i x).req.mode = .seeking
            ∧ (s.exch i x).req.phase = .idle ∧ (s.exch i x).req.stale = false ∧ (s.rxPath i x).signal = true
            ∧ (s.exch i x).req.AsksNothing (s.leg n).profile eye.toNat rp.toInt rq.toInt
            ∧ ((s.leg n).profile.target ≤ eye.toNat ∨ (s.leg n).profile.minimum ≤ eye.toNat) →
        ((s.leg n).state = .training ∨ (s.leg n).state = .lost →
            ∃ t, exec c s = .next t ∧ s.GateTested t n i x
              ∧ (c = .tuneFrameArrives i x w → (t.exch i x).watch = some (s.now + 640)))
          ∧ ((s.leg n).state = .waiting →
            (∀ (j : Lane) (y : Side), s.owner j = some n → (j, y) ≠ (i, x) → s.laneState j y = .ready) →
            ∃ t, exec c s = .next t ∧ t.laneState i x = .ready ∧ s.OthersStand t i x
              ∧ (t.leg n).state = .training ∧ (t.leg n).budget = some (s.now + 10000 * (s.leg n).profile.budget)
              ∧ (t.leg n).released = ⟨true, true⟩
              ∧ ∃ q ∈ t.report.events, q.leg = some n ∧ q.time = s.report.headClock
                  ∧ q.kind = .legState .waiting .training .allSignals))
      ∧ (f.verdict = .content → s.laneState i x = .ready → (s.leg n).released.get x = true →
        ∃ t, exec (.tuneFrameArrives i x w) s = .next t ∧ t.laneState i x = .count ∧ (t.exch i x).watch = none
          ∧ (t.exch i x).ownCount = (s.exch i x).ownCount ∧ (t.exch i x).partnerCount = f.count
          ∧ ((t.exch i x).zeroSeen = true ↔ f.count = 0) ∧ s.OthersStand t i x)
      ∧ (f.verdict = .content → s.laneState i x = .ready → (s.leg n).released.get x = false →
        ∃ t, exec (.tuneFrameArrives i x w) s = .next t ∧ t.laneState i x = .ready ∧ t.leg n = s.leg n
          ∧ (t.exch i x).watch = some (s.now + 640) ∧ s.OthersStand t i x)
      ∧ (f.verdict = .seeking → s.laneState i x = .ready → f.tap = .none → (s.exch i x).req.current = none →
        ∃ t, exec (.tuneFrameArrives i x w) s = .next t ∧ s.OthersStand t i x
          ∧ t.exch i x = { s.exch i x with
              lane := .tune, watch := some (s.now + 640), partnerVerdict := .seeking, partnerCount := f.count, ownCount := 15
              zeroSeen := false, countEnded := false, returnCause := some .partnerRevert, order := (t.exch i x).order
              restarts := (t.exch i x).restarts }
          ∧ (t.leg n).released.get x = false ∧ ((s.leg n).state ≠ .waiting → s.LegStands t n))

/-- R90 to R93, R16: a SEEKING frame to a lane in COUNT or DATA returns it to TUNE, both contexts kept and the side's release
cleared. A leg in UP enters TRAINING at the same event with its budget afresh and every service order STANDBY, a leg in HELD
too with its episode ended uncounted and its ABSENT lanes in LISTEN; in TRAINING the attempt and in LOST the recovery goes
on, there without the side's kept mark. Every other lane and the opposite side's release stay. That the cause is recorded at
a return from COUNT or DATA too (log 32), that a fill frame in progress is sent whole (log 21), and that in HELD the reverted
lane stays in TUNE whatever its flag (log 33) are the model's choices. -/
def Obligations.PartnerRevertLeavesUp : Prop :=
  ∀ (s : State) (i : Lane) (x : Side) (w : ControlWord) (f : TuneFields) (n : LegId),
    s.PlanOk →
    s.LanesOk →
    s.owner i = some n →
    readWord w = some (.tune f) →
    f.verdict = .seeking →
    ((s.leg n).state = .up →
        ∃ t, exec (.tuneFrameArrives i x w) s = .next t ∧ s.Reverted t n i x f ∧ s.OthersStand t i x
          ∧ t.leg n = { s.leg n with
              state := .training, budget := some (s.now + 10000 * (s.leg n).profile.budget), released := (t.leg n).released
              kept := (t.leg n).kept, conds := { (s.leg n).conds with marginLow := (t.leg n).conds.marginLow } }
          ∧ (t.leg n).released.get x.opposite = (s.leg n).released.get x.opposite
          ∧ (∀ (j : Lane) (y : Side), s.owner j = some n → (t.exch j y).order = .standby ∧ (t.exch j y).restarts = 0)
          ∧ s.queuedFirst t (some n) (.legState .up .training .partnerRevert))
      ∧ ((s.leg n).state = .held →
        ∃ t, exec (.tuneFrameArrives i x w) s = .next t ∧ s.Reverted t n i x f
          ∧ t.leg n = { s.leg n with
              state := .training, budget := some (s.now + 10000 * (s.leg n).profile.budget), bridge := none, episode := none
              released := (t.leg n).released, kept := (t.leg n).kept
              conds := { (s.leg n).conds with marginLow := (t.leg n).conds.marginLow } }
          ∧ (∀ (j : Lane) (y : Side), s.owner j = some n →
              (t.exch j y).order = .standby ∧ (t.exch j y).restarts = 0
                ∧ ((j, y) ≠ (i, x) → if (s.rxPath j y).signal then t.laneState j y = .data
                    else (t.exch j y).Fresh ∧ (t.txPath j y).Loaded (s.leg n).profile.rate))
          ∧ s.queuedFirst t (some n) (.legState .held .training .partnerRevert))
      ∧ ((s.leg n).state = .training ∨ (s.leg n).state = .lost → s.laneState i x = .count ∨ s.laneState i x = .data →
        ∃ t, exec (.tuneFrameArrives i x w) s = .next t ∧ s.Reverted t n i x f ∧ s.OthersStand t i x ∧ s.LegStands t n
          ∧ (t.leg n).released.get x.opposite = (s.leg n).released.get x.opposite
          ∧ (t.leg n).kept.get x.opposite = (s.leg n).kept.get x.opposite
          ∧ (∀ (j : Lane) (y : Side), s.owner j = some n → (t.exch j y).restarts = (s.exch j y).restarts)
          ∧ ((s.leg n).state = .lost → (t.leg n).kept.get x = false
              ∧ ∀ j : Lane, s.owner j = some n → (t.exch j x).order = .standby))

/-! ### Frames sent and the handover -/

/-- R3, R16, R21, R26, R28, R30 to R32, R67, R68, R79, R87: the frame that an interval starts, each shaped by the set in use
and with no effect but on its path and exchange: the fixed word in LISTEN; in TUNE the request with the last answer, or no
request; in READY no request and the verdict withheld until the side is released; in COUNT the next count; in DATA, and in
COUNT after count 0, what the service order names; none in QUIET (R12). That an interval which begins while the count-0 frame
is open ends that frame first is the model's choice (log 9). -/
def Obligations.IntervalStartsFrame : Prop :=
  ∀ (s : State) (i : Lane) (x : Side) (q : Request) (e : Exchange) (f : TuneFields),
    e = s.exch i x →
    e.RequesterOk →
    f = { tap := .none, delta := 0, seq := e.req.lastSeq, echo := e.lastGiven.echo, applied := e.lastGiven.applied
          outcome := e.lastGiven.outcome, limit := e.lastGiven.limit, verdict := .seeking, count := 15 } →
    (e.lane = .listen → exec (.frameIntervalStart i x) s = .next (s.sends i x e (.frame 0x400003CD)))
      ∧ (e.lane = .tune → e.req.current = some q → e.req.phase = .pending → exec (.frameIntervalStart i x) s =
          .next (s.sends i x
            { e with req := { e.req with phase := .outstanding, firstFrame := true, answerTimer := some (s.now + 1280) } }
            (.frame (tuneWord { f with tap := q.tap.request, delta := q.delta, seq := q.seq }))))
      ∧ (e.lane = .tune → e.req.current = some q → e.req.phase = .outstanding → exec (.frameIntervalStart i x) s =
          .next (s.sends i x { e with req := { e.req with firstFrame := false } }
            (.frame (tuneWord { f with tap := q.tap.request, delta := q.delta, seq := q.seq }))))
      ∧ (e.lane = .tune → e.req.current = none →
          exec (.frameIntervalStart i x) s = .next (s.sends i x e (.frame (tuneWord f))))
      ∧ (e.lane = .ready → exec (.frameIntervalStart i x) s = .next (s.sends i x e
          (.frame (tuneWord { f with verdict := if s.releasedAt i x then .content else .seeking }))))
      ∧ (e.lane = .count → e.ownCount ≠ 0 → e.countEnded = false → exec (.frameIntervalStart i x) s =
          .next (s.sends i x { e with ownCount := if e.ownCount = 15 then 7 else e.ownCount - 1 }
            (.frame (tuneWord { f with verdict := .content, count := if e.ownCount = 15 then 7 else e.ownCount - 1 }))))
      ∧ (e.lane = .data ∨ e.lane = .count ∧ e.countEnded = true →
          (e.order = .standby → exec (.frameIntervalStart i x) s = .next (s.sends i x e (.frame 0x80000017)))
            ∧ (e.order = .gap → exec (.frameIntervalStart i x) s = .next (s.sends i x e (.frame 0x80000026)))
            ∧ (e.order = .fault → exec (.frameIntervalStart i x) s = .next (s.sends i x e (.frame 0x80000035)))
            ∧ (e.order = .data → exec (.frameIntervalStart i x) s = .next (s.sends i x e .data))
            ∧ (e.order = .quiet →
              exec (.frameIntervalStart i x) s =
                .next { s with tx := (s.setTxAt (s.phys i x) x { s.txPath i x with line := .quiet }).tx }))
      ∧ (e.lane = .quiet → exec (.frameIntervalStart i x) s = .next s)
      ∧ (e.lane = .count → e.ownCount = 0 → e.countEnded = false →
          ∃ u, exec (.countZeroFrameEnd i x) s = .next u
            ∧ exec (.frameIntervalStart i x) s = exec (.frameIntervalStart i x) u)

/-- R25, R42, R87, R88, R104, R129: a CONTENT TUNE frame records its verdict and count on a lane in COUNT or DATA and has no
other effect there, but that count 0 sets partner zero seen in COUNT. A lane in COUNT enters DATA at the end of its count-0
frame when partner zero is seen, or after it at the partner's fill frame or CONTENT TUNE frame of count 0: its in-use set
becomes the learned set of the working class, its eye path primes, and a leg in TRAINING or LOST with every other lane in DATA
enters UP. Partner zero not seen, it waits in COUNT. R104, R113, R154: at the entry to UP the conditions of TRAIN_TIMEOUT,
SIDE_FAIL and LEG_CUT end, then LEG_STATE with cause BOTH_DATA joins the queue. -/
def Obligations.HandoverCompletes : Prop :=
  ∀ (s : State) (i : Lane) (x : Side) (c : Instr) (w : ControlWord) (r : FillReason) (f : TuneFields) (n : LegId),
    s.PlanOk →
    s.owner i = some n →
    (readWord w = some (.tune f) → f.verdict = .content →
        (s.laneState i x = .count → (s.exch i x).countEnded = false ∨ (s.exch i x).zeroSeen = false ∧ f.count ≠ 0 →
          exec (.tuneFrameArrives i x w) s = .next (s.setExch i x { s.exch i x with
            partnerVerdict := .content, partnerCount := f.count
            zeroSeen := (s.exch i x).zeroSeen || decide (f.count = 0) }))
        ∧ (s.laneState i x = .data → exec (.tuneFrameArrives i x w) s =
            .next (s.setExch i x { s.exch i x with partnerVerdict := .content, partnerCount := f.count })))
      ∧ (s.laneState i x = .count → (s.exch i x).ownCount = 0 →
        exec (.countZeroFrameEnd i x) { s with ex := (s.setExch i x { s.exch i x with countEnded := false, zeroSeen := false }).ex }
          = .next { s with
            ex := (s.setExch i x { s.exch i x with countEnded := true, zeroSeen := false }).ex
            tx := (s.setTxAt (s.phys i x) x { s.txPath i x with
              line := match (s.exch i x).order with | .data => .data | .quiet => .quiet | _ => .gap }).tx })
      ∧ (s.laneState i x = .count → (s.exch i x).ownCount = 0 →
        c = .countZeroFrameEnd i x ∧ (s.exch i x).countEnded = false ∧ (s.exch i x).zeroSeen = true
          ∨ c = .fillFrameArrives i x w ∧ readWord w = some (.fill r) ∧ (s.exch i x).countEnded = true
          ∨ c = .tuneFrameArrives i x w ∧ readWord w = some (.tune f) ∧ f.verdict = .content ∧ f.count = 0
            ∧ (s.exch i x).countEnded = true →
        ∃ t, exec c s = .next t ∧ t.laneState i x = .data ∧ (t.txPath i x).inUse = (s.txPath i x).inUse
          ∧ (t.txPath i x).learned.get (s.leg n).profile.rate = (s.txPath i x).inUse
          ∧ (t.txPath i x).learnedValid.get (s.leg n).profile.rate = true
          ∧ (t.rxPath i x).eye.phase = .priming ∧ s.OthersStand t i x
          ∧ (((s.leg n).state = .training ∨ (s.leg n).state = .lost) →
              (∀ (j : Lane) (y : Side), s.owner j = some n → (j, y) ≠ (i, x) → s.laneState j y = .data) →
              (t.leg n).state = .up ∧ (t.leg n).retry = 0 ∧ (t.leg n).budget = none ∧ (t.leg n).cut = none
                ∧ (∀ (j : Lane) (y : Side), s.owner j = some n → (t.exch j y).order = .data)
                ∧ t.condition (some n) .trainTimeout = false ∧ t.condition (some n) .sideFail = false
                ∧ t.condition (some n) .legCut = false
                ∧ s.Reports t (attemptEnds n ++ [.queues (some n) (.legState (s.leg n).state .up .bothData)]
                    ++ s.marginActs t n)))

/-! ### Timers -/

/-- R34, R105, R106, R161, R166: in TRAINING the budget's expiry (TRAIN_TIMEOUT), an answer timeout and a frame silence with
three restarts made (SIDE_FAIL) end the attempt: LEG_STATE with cause BUDGET or LANE_FAIL, then the raise of the failure's
fault and that of RETRY_OUT where the leg enters FAILED (R113, R152, R153). An entry to FAILED asks for one failure record,
an entry to DOWN for none; the spacing of the records as a count of milliseconds (log 12), and that the backoff runs from the
model's time where it lies past the expiry instant (log 2), are the model's choices. -/
def Obligations.AttemptFails : Prop :=
  ∀ (s : State) (i : Lane) (x : Side) (w : Nat) (n : LegId),
    s.PlanOk →
    (s.leg n).state = .training →
    ((s.leg n).budget = some w →
        ∃ t, exec (.trainingBudgetExpiry n) s = .next t ∧ s.Failed t n .budget .trainTimeout (max s.now w) ∧ s.AskedIfOut t n)
      ∧ (s.owner i = some n → s.laneState i x = .tune → (s.exch i x).req.answerTimer = some w →
        ∃ t, exec (.answerTimerExpiry i x) s = .next t
          ∧ s.Failed t n (.lane .answerTimeout x i) .sideFail (max s.now w) ∧ s.AskedIfOut t n)
      ∧ (s.owner i = some n → (s.laneState i x = .tune ∨ s.laneState i x = .ready) → (s.exch i x).watch = some w →
        3 ≤ (s.exch i x).restarts →
        ∃ t, exec (.frameSilenceExpiry i x) s = .next t
          ∧ s.Failed t n (.lane .frameSilence x i) .sideFail (max s.now w) ∧ s.AskedIfOut t n)

/-- R107, R101, R99, R43: the backoff's expiry in DOWN takes the leg through a boundary to WAITING. The retry count is kept,
but that a record which is taken brings it down to its limit; the banks are kept where the take is skipped or refused. R100, R113,
R153, R154: LEG_STATE with cause BACKOFF is reported first, then the take with its raise or end of PROFILE_BAD. -/
def Obligations.BackoffReachesBoundary : Prop :=
  ∀ (s : State) (n : LegId) (w : Nat),
    s.PlanOk →
    (s.leg n).state = .down →
    (s.leg n).backoff = some w →
    ∃ t, exec (.backoffExpiry n) s = .next t ∧ s.Boundary t n
      ∧ s.RetryTaken t n (s.leg n).retry
      ∧ (t.leg n).lastFailure = (s.leg n).lastFailure
      ∧ s.Reports t (s.boundaryActs t n .backoff)

/-- R119, R16, R17: the bridge timer's expiry takes the leg to LOST: the lost count rises, the cut timer starts, a side with
a lost receiver starts afresh, and a side without one is kept in DATA under the loss action. That the cut timer starts at the
model's time where it lies past the expiry instant is the model's choice (log 2). -/
def Obligations.BridgeExpiryStartsRecovery : Prop :=
  ∀ (s : State) (n : LegId) (w : Nat),
    s.PlanOk →
    s.LanesOk →
    (s.leg n).state = .held →
    (s.leg n).bridge = some w →
    ∃ t, exec (.bridgeExpiry n) s = .next t
      ∧ t.leg n = { s.leg n with
          state := .lost, bridge := none, cut := some (max s.now w + 20000 * (s.leg n).profile.cut)
          lost := (s.leg n).lost + 1, rollLost := (s.leg n).rollLost || decide ((s.leg n).lost = 65535)
          kept := ⟨!s.sideLost n .s, !s.sideLost n .c⟩
          released := ⟨!s.sideLost n .s && (s.leg n).released.s, !s.sideLost n .c && (s.leg n).released.c⟩
          conds := { (s.leg n).conds with marginLow := (t.leg n).conds.marginLow } }
      ∧ ((s.leg n).conds.marginLow = false → s.anyAlarm n = false → (t.leg n).conds.marginLow = false)
      ∧ (∀ (j : Lane) (y : Side), s.owner j = some n →
          if s.sideLost n y then (t.exch j y).Fresh ∧ (t.txPath j y).Loaded (s.leg n).profile.rate
            ∧ (t.rxPath j y).eqCode = ((s.leg n).profile.equalizer.get (s.leg n).profile.rate).get y
          else t.laneState j y = .data
            ∧ (t.exch j y).order = match (s.leg n).profile.lossAction with | .fault => .fault | .quiet => .quiet)
      ∧ s.queuedFirst t (some n) (.legState .held .lost .bridge)

/-- R106, R125, R161, R166: the cut timer's expiry in LOST is a failed recovery: LEG_STATE with cause CUT, the raise of
LEG_CUT, and that of RETRY_OUT where the leg enters FAILED (R113, R153). It asks for one failure record: accepted with its
contents as they stood and cause LEG_CUT, or RETRY_OUT where the leg entered FAILED, or skipped and counted within the
spacing. The spacing as a count of milliseconds set to 10000, at 0 of which a request is accepted again (log 12), and that
the backoff runs from the model's time where it lies past the expiry instant (log 2), are the model's choices. -/
def Obligations.CutExpiryEndsRecovery : Prop :=
  ∀ (s : State) (n : LegId) (w : Nat),
    s.PlanOk →
    (s.leg n).state = .lost →
    (s.leg n).cut = some w →
    ∃ t, exec (.cutExpiry n) s = .next t ∧ s.Failed t n .cut .legCut (max s.now w)
      ∧ s.RecordAsked t n (if (t.leg n).state = .failed then .retryOut else .legCut)

/-- R158, R166: the head clock rises by 1 and wraps from its largest value to 0. That the spacing of failure records runs down
with it (log 12) and that the model's time moves forward (log 2) are the model's choices. -/
def Obligations.HeadClockRises : Prop :=
  ∀ (s : State),
    s.resetHeld = false →
    ∃ t, exec .headClockTick s = .next t
      ∧ t.report.headClock.toNat = (s.report.headClock.toNat + 1) % 2 ^ 32
      ∧ t = { s with now := t.now, report := { s.report with headClock := t.report.headClock }
                     agent := { s.agent with spacing := s.agent.spacing - 1 } }
      ∧ s.now < t.now

/-! ### Commands of the live window -/

/-- R108, R110, R111: retrain on a leg not PARKED and unpark on a PARKED one take an existing leg through a boundary to
WAITING; retrain counts and zeroes the retry count, and leaves the other counters and the last failure, with no failure
record asked for. Retrain of a PARKED leg and unpark of any other have no effect; a retry count of 0 stays 0 over unpark, and
the enable value is not read. The banks are kept where the take is skipped or refused (R43, R99). R100, R113, R153, R154:
retrain of a FAILED leg ends the condition of RETRY_OUT; LEG_STATE with cause RETRAIN or UNPARK follows, then the take with
its raise or end of PROFILE_BAD. -/
def Obligations.RetrainAndUnpark : Prop :=
  ∀ (s : State) (n : LegId),
    s.PlanOk →
    s.windowOpen = true →
    s.legExists n = true →
    ((s.leg n).state ≠ .parked →
        ∃ t, exec (.retrain n) s = .next t ∧ s.Boundary t n ∧ (t.leg n).retry = 0
          ∧ (t.leg n).retrain = (s.leg n).retrain + 1
          ∧ (t.leg n).rollRetrain = ((s.leg n).rollRetrain || decide ((s.leg n).retrain = 65535))
          ∧ (t.leg n).glitch = (s.leg n).glitch ∧ (t.leg n).lost = (s.leg n).lost ∧ (t.leg n).gap = (s.leg n).gap
          ∧ (t.leg n).lastFailure = (s.leg n).lastFailure
          ∧ ((s.leg n).state = .failed → t.condition (some n) .retryOut = false) ∧ t.agent = s.agent
          ∧ s.Reports t ((if (s.leg n).state = .failed then [.ends (some n) .retryOut] else [])
              ++ s.boundaryActs t n .retrain))
      ∧ ((s.leg n).state = .parked →
        ∃ t, exec (.unpark n) s = .next t ∧ s.Boundary t n ∧ s.RetryTaken t n (s.leg n).retry
          ∧ ((s.leg n).retry = 0 → (t.leg n).retry = 0)
          ∧ (t.leg n).retrain = (s.leg n).retrain ∧ s.Reports t (s.boundaryActs t n .unpark))
      ∧ ((s.leg n).state = .parked → exec (.retrain n) s = .next s)
      ∧ ((s.leg n).state ≠ .parked → exec (.unpark n) s = .next s)

/-- R109: park takes a leg of any other state to PARKED with its lanes QUIET, its timers stopped and its retry count 0; it ends
the conditions named, abandons an episode with no record asked for, and keeps profile, source bytes, counters, last failure,
learned sets and lane map; on a leg in PARKED it has no effect. The ends of the conditions, in the order of the rule, are
reported before LEG_STATE with cause PARK (R112, R113, R154), and that of the margin condition after it (R135). -/
def Obligations.ParkQuietsTheLeg : Prop :=
  ∀ (s : State) (n : LegId),
    s.windowOpen = true →
    s.legExists n = true →
    ((s.leg n).state = .parked → exec (.park n) s = .next s)
      ∧ ((s.leg n).state ≠ .parked →
        ∃ t, exec (.park n) s = .next t
          ∧ (∃ k : LegConds, t.leg n = { (s.leg n).standDown with state := .parked, retry := 0, conds := k }
              ∧ k.trainTimeout = false ∧ k.sideFail = false ∧ k.legCut = false ∧ k.profileBad = (s.leg n).conds.profileBad
              ∧ k.retryOut = ((s.leg n).conds.retryOut && decide ((s.leg n).state ≠ .failed)))
          ∧ t.slices = s.slices ∧ t.agent = s.agent ∧ s.Reports t (s.parkActs t n .park)
          ∧ (∀ (j : Lane) (y : Side), s.owner j = some n →
              t.laneState j y = .quiet ∧ (t.txPath j y).line = .quiet ∧ (t.exch j y).order = .quiet
                ∧ (t.txPath j y).learned = (s.txPath j y).learned ∧ (t.txPath j y).learnedValid = (s.txPath j y).learnedValid
                ∧ (t.txPath j y).inUse = (s.txPath j y).inUse ∧ (t.exch j y).restarts = (s.exch j y).restarts
                ∧ (t.exch j y).badFrames = (s.exch j y).badFrames))

/-- R111, R131, R35, R151, R159: clear zeroes a leg's counters, rollover flags, longest gap and exchange counters and sets the
eye minimum and maximum to the current average, and nothing else but the attention line derived afresh; the head command does
so for every leg record and lane, whether legs exist or not. -/
def Obligations.ClearZeroesCounters : Prop :=
  ∀ (s : State) (n : LegId) (k : Leg → Leg) (ke : Exchange → Exchange) (km : EyeMonitor → EyeMonitor),
    s.windowOpen = true →
    s.PlanOk →
    k = (fun l => { l with glitch := 0, lost := 0, retrain := 0, rollGlitch := false, rollLost := false
                           rollRetrain := false, gap := 0 }) →
    ke = (fun e => { e with badFrames := 0, made := 0, answered := 0 }) →
    km = (fun m => { m with minimum := m.current, maximum := m.current }) →
    (s.legExists n = true →
        ∃ t, exec (.clear n) s = .next t ∧ { s with legs := t.legs, ex := t.ex, rx := t.rx }.OnlyReport t s.report
          ∧ (∀ m : LegId, t.leg m = if m = n then k (s.leg m) else s.leg m)
          ∧ ∀ (j : Lane) (y : Side),
              t.exch j y = (if s.owner j = some n then ke (s.exch j y) else s.exch j y)
                ∧ t.rxPath j y = { s.rxPath j y with
                    eye := if s.owner j = some n then km (s.rxPath j y).eye else (s.rxPath j y).eye })
      ∧ ∃ t, exec .clearAllLegCounters s = .next t ∧ { s with legs := t.legs, ex := t.ex, rx := t.rx }.OnlyReport t s.report
        ∧ (∀ m : LegId, t.leg m = k (s.leg m))
        ∧ ∀ (j : Lane) (y : Side),
            t.exch j y = ke (s.exch j y) ∧ t.rxPath j y = { s.rxPath j y with eye := km (s.rxPath j y).eye }

/-- R5, R6, R145, R148: a leg command to a leg that does not exist is ignored, no command acts while the head is LOADING or the
reset input is asserted, retrain and park do nothing to a PARKED leg and unpark nothing to another, and a byte that is
read-only, unassigned or an undefined command value never has an effect. R149, R151, R155, R157, sections 10.1 and 10.2: a
buffered byte at each writable or command address has the effect of its command, and at any other address or command value
none. -/
def Obligations.CommandsIgnored : Prop :=
  ∀ (s : State) (c : Instr) (n : LegId) (a : BusAddr) (v : Byte),
    (isWindowCommand c = true → s.windowOpen = false → exec c s = .next s)
      ∧ (s.legExists n = false →
          exec (.retrain n) s = .next s ∧ exec (.park n) s = .next s ∧ exec (.unpark n) s = .next s
            ∧ exec (.clear n) s = .next s)
      ∧ ((s.leg n).state = .parked → exec (.retrain n) s = .next s ∧ exec (.park n) s = .next s)
      ∧ ((s.leg n).state ≠ .parked → exec (.unpark n) s = .next s)
      ∧ exec (.liveWindowOtherWrite a v) s = .next s
      ∧ (exec .reload s = .next (s.applyByte 0x4010 1) ∧ exec .clearEventQueue s = .next (s.applyByte 0x4010 2)
          ∧ exec .clearOverrun s = .next (s.applyByte 0x4010 3) ∧ exec .clearAllLegCounters s = .next (s.applyByte 0x4010 4)
          ∧ exec (.setViewMode v) s = .next (s.applyByte 0x4011 v) ∧ exec (.setViewLeg v) s = .next (s.applyByte 0x4012 v)
          ∧ exec (.setFaultAttentionMask v) s = .next (s.applyByte 0x4013 v)
          ∧ exec (.setEventAttentionMode v) s = .next (s.applyByte 0x4014 v)
          ∧ exec (.setRolloverAttentionEnable v) s = .next (s.applyByte 0x4015 v)
          ∧ exec (.retrain n) s = .next (s.applyByte (0x402F + 16 * BitVec.ofNat 16 n.val) 1)
          ∧ exec (.park n) s = .next (s.applyByte (0x402F + 16 * BitVec.ofNat 16 n.val) 2)
          ∧ exec (.unpark n) s = .next (s.applyByte (0x402F + 16 * BitVec.ofNat 16 n.val) 3)
          ∧ exec (.clear n) s = .next (s.applyByte (0x402F + 16 * BitVec.ofNat 16 n.val) 4)
          ∧ exec .advance s = .next (s.applyByte 0x4214 v) ∧ exec .queueClearOverrun s = .next (s.applyByte 0x4215 v)
          ∧ exec .acknowledge s = .next (s.applyByte 0x422F v))
      ∧ (writeHasNoEffect a v = true ↔
          ¬(a = 0x4010 ∧ 1 ≤ v.toNat ∧ v.toNat ≤ 4) ∧ ¬(0x4011 ≤ a.toNat ∧ a.toNat ≤ 0x4015)
            ∧ (∀ m : LegId, ¬(a = 0x402F + 16 * BitVec.ofNat 16 m.val ∧ 1 ≤ v.toNat ∧ v.toNat ≤ 4))
            ∧ a ≠ 0x4214 ∧ a ≠ 0x4215 ∧ a ≠ 0x422F)
      ∧ (writeHasNoEffect a v = true → s.applyByte a v = s)

/-- R164, R20, R94, R114, R136, R160: the reload command parks every leg, quiets every lane and path, lapses the plan and its
map, sets the eye values to 0 and leaves the load to begin. Rate classes, signal flags, coefficient banks, profiles, counters
and control bytes stay. The fault list changes only as the conditions of the parked legs end (R112, R135, R154), and the queue
takes the records of these ends and a LEG_STATE for every leg parked, the oldest lost beyond 32 (R113, R156). The order of the
legs (log 29), the values of an idle exchange that no rule gives (log 10), and the recorded cause kept over a reload (log 32),
are the model's choices. -/
def Obligations.ReloadParksTheHead : Prop :=
  ∀ (s : State),
    s.windowOpen = true →
    s.LegsOk →
    s.PlanOk →
    s.LanesOk →
    s.EyesOk →
    ∃ t, exec .reload s = .next t ∧ t.head = .loading ∧ t.resetCause = .reload ∧ t.loadCount = s.loadCount ∧ t.now = s.now
      ∧ t.pendingHeader = s.pendingHeader ∧ t.pendingLegs = s.pendingLegs
      ∧ t.agent = { s.agent with
          load := some { stage := .awaitStart, retryWait := false, window := none, best := none }, records := t.agent.records }
      ∧ t.agent.records.length = s.agent.records.length
      ∧ t.bridge = { s.bridge with txn := t.bridge.txn } ∧ t.bridge.txn.buffer = [] ∧ t.bridge.txn.snapshot = none
      ∧ (∀ n : LegId, (t.leg n).state = .parked ∧ (t.leg n).Idle ∧ (t.leg n).backoff = none
          ∧ t.leg n = { (s.leg n).standDown with state := .parked, retry := 0, conds := (t.leg n).conds }
          ∧ (t.leg n).conds.profileBad = (s.leg n).conds.profileBad
          ∧ ((s.leg n).state ≠ .parked → ∀ c ∈ [FaultCode.trainTimeout, .sideFail, .legCut, .marginLow],
              t.condition (some n) c = false)
          ∧ ∀ x : Side, t.sideStatus n x = if (s.leg n).width = 0 then none else some .quiet)
      ∧ t.report = { s.report with faults := t.report.faults, listFull := t.report.listFull, events := t.report.events
                                   overrun := t.report.overrun, nextSeq := t.report.nextSeq
                                   attention := t.report.attention }
      ∧ s.Reports t (allLegs.flatMap fun n =>
          if s.legExists n = true ∧ (s.leg n).state ≠ .parked then s.parkActs t n .reload else [])
      ∧ ∀ (j : Lane) (y : Side),
          t.slice j = { owner := none, pair := j, inverted := false, rate := (s.slice j).rate }
            ∧ t.exch j y = { (s.exch j y).quieted with order := .quiet }
            ∧ (t.tx[j]).get y = { (s.tx[j]).get y with line := .quiet }
            ∧ (t.rx[j]).get y = { (s.rx[j]).get y with eye := .initial }

/-- R155, R154: the acknowledge acts on the oldest unacknowledged entry: an ACTIVE one stays, acknowledged; a CLEARED one
leaves, the list-full flag becomes 0 and FAULT_LEFT is queued; without one nothing changes. That FAULT_LEFT carries the
entry's detail byte is the model's choice (log 11). -/
def Obligations.AcknowledgeActsOnShownEntry : Prop :=
  ∀ (s : State) (older younger : List FaultEntry) (e : FaultEntry),
    s.windowOpen = true →
    s.FaultsOk →
    (∀ f ∈ older, f.acked = true) →
    (s.report.faults = older → exec .acknowledge s = .next s)
      ∧ (s.report.faults = older ++ e :: younger → e.acked = false → e.active = true →
          ∃ t, exec .acknowledge s = .next t
            ∧ s.OnlyReport t { s.report with faults := older ++ { e with acked := true } :: younger })
      ∧ (s.report.faults = older ++ e :: younger → e.acked = false → e.active = false →
          ∃ t, exec .acknowledge s = .next t ∧ t.report.faults = older ++ younger ∧ t.report.listFull = false
            ∧ s.queuedFirst t e.owner (.faultLeft e.code e.detail) ∧ t = { s with report := t.report })

/-- R149, R151, R157, R159: the commands on the event queue (clear removes every record and leaves overrun flag and next
sequence, advance removes the oldest, both clear-overrun commands set the flag to 0), what each writable byte of row 0x4010
stores, and which values are ignored; the attention line follows. -/
def Obligations.QueueCommandsAndStoredValues : Prop :=
  ∀ (s : State) (v : Byte),
    s.windowOpen = true →
    (∃ t, exec .clearEventQueue s = .next t ∧ s.OnlyReport t { s.report with events := [] })
      ∧ (∃ t, exec .advance s = .next t ∧ s.OnlyReport t { s.report with events := s.report.events.drop 1 })
      ∧ (∃ t, exec .clearOverrun s = .next t ∧ s.OnlyReport t { s.report with overrun := false })
      ∧ (∃ t, exec .queueClearOverrun s = .next t ∧ s.OnlyReport t { s.report with overrun := false })
      ∧ exec (.setViewMode v) s = .next (if v = 0 ∨ v = 1 then { s with report := { s.report with viewPinned := decide (v = 1) } } else s)
      ∧ (∃ t, exec (.setViewMode 1) s = .next t ∧ t.legOnView = s.report.viewLeg)
      ∧ (∃ t, exec (.setViewLeg v) s = .next t ∧ t.report.viewLeg.val = min 7 v.toNat
          ∧ (s.report.viewPinned = true → t.legOnView = t.report.viewLeg)
          ∧ t = { s with report := { s.report with viewLeg := t.report.viewLeg } })
      ∧ (∃ t, exec (.setFaultAttentionMask v) s = .next t ∧ s.OnlyReport t { s.report with faultMask := v })
      ∧ (v.toNat ≤ 2 → ∃ t, exec (.setEventAttentionMode v) s = .next t ∧ s.OnlyReport t { s.report with
          eventMode := if v = 0 then .off else if v = 1 then .any else .half })
      ∧ (2 < v.toNat → exec (.setEventAttentionMode v) s = .next s)
      ∧ (v.toNat ≤ 1 → ∃ t, exec (.setRolloverAttentionEnable v) s = .next t
          ∧ s.OnlyReport t { s.report with rolloverEnable := decide (v = 1) })
      ∧ (1 < v.toNat → exec (.setRolloverAttentionEnable v) s = .next s)

/-! ### The arbiter and the switch transaction -/

/-- R144: a START takes the free port for the bridge, and is held while the agent has it; a held one gets the port when it is
free, before a ready chunk; a ready chunk takes a free port that no START waits for, and no port that is taken. -/
def Obligations.ArbiterGrantsThePort : Prop :=
  ∀ (s : State) (job : AgentJob),
    s.resetHeld = false →
    (s.bridge.txn.phase = .none → s.bridge.port = .free →
        ∃ t, exec .switchStart s = .next t ∧ t = { s with bridge := t.bridge } ∧ t.bridge.port = .bridge
          ∧ t.bridge.txn = { phase := .address, runOn := false, buffer := [], snapshot := none })
      ∧ (s.bridge.txn.phase = .none → s.bridge.port = .agent job →
        ∃ t, exec .switchStart s = .next t ∧ t = { s with bridge := t.bridge } ∧ t.bridge.port = .agent job
          ∧ t.bridge.txn.phase = .held)
      ∧ (s.bridge.txn.phase = .held → s.bridge.port = .free →
        exec .agentTakesPort s = .next s
          ∧ ∃ t, exec .bridgeTakesPort s = .next t ∧ t = { s with bridge := t.bridge } ∧ t.bridge.port = .bridge
            ∧ t.bridge.txn.phase = .address)
      ∧ (s.bridge.txn.phase = .held → s.bridge.port = .agent job → exec .bridgeTakesPort s = .next s)
      ∧ (s.bridge.txn.phase ≠ .held → s.bridge.port = .free → s.readyJob = some job →
        ∃ t, exec .agentTakesPort s = .next t ∧ t.bridge.port = .agent job ∧ t.bridge.mirror = s.bridge.mirror
          ∧ t.bridge.combined = s.bridge.combined ∧ t.bridge.txn = s.bridge.txn)
      ∧ (s.bridge.port ≠ .free → exec .agentTakesPort s = .next s)

/-- R137, R139 step 1, R145, R146: the first address byte: 0x54 to write is relayed to the memory, or acknowledged by the BX8
without one, or refused while LOADING, where what stands open at the memory stays so; a refused one and one for another bus
address end the transaction with both pointers kept. That a byte refused in LOADING ends it and frees the port at that instant
is the model's choice (log 20). -/
def Obligations.AddressByteOfWrite : Prop :=
  ∀ (s : State) (memAck : Bool),
    s.bridge.txn.phase = .address →
    s.bridge.port = .bridge →
    (s.head ≠ .loading → s.bridge.memOpen = false) →
    (∃ t, exec (.writeAddressPhase memAck) s = .next t ∧ t = { s with bridge := t.bridge }
        ∧ (s.head = .loading → t.bridge.memOpen = s.bridge.memOpen)
        ∧ t.bridge.combined = s.bridge.combined ∧ t.bridge.mirror = s.bridge.mirror
        ∧ (if s.head = .loading ∨ (s.head ≠ .noMemory ∧ memAck = false) then
            t.bridge.toSwitch = .nack ∧ t.bridge.port = .free ∧ t.bridge.txn = .initial
          else t.bridge.toSwitch = .ack ∧ t.bridge.port = .bridge ∧ t.bridge.txn.phase = .wordAddress)
        ∧ t.bridge.toMemory = (if s.head = .loading ∨ s.head = .noMemory then []
            else if memAck then [.start, .send 0xA8] else [.start, .send 0xA8, .stop]))
      ∧ ∃ t, exec .addressNotForMemory s = .next t ∧ t = { s with bridge := t.bridge } ∧ t.bridge.toSwitch = .nack
        ∧ t.bridge.port = .free ∧ t.bridge.txn = .initial ∧ t.bridge.combined = s.bridge.combined
        ∧ t.bridge.mirror = s.bridge.mirror ∧ t.bridge.toMemory = [] ∧ t.bridge.memOpen = s.bridge.memOpen

/-- R138, R139 steps 2 and 3: an acknowledged word address sets the combined pointer and, taken modulo 0x4000, the mirror;
outside memory space the memory side gets its STOP before any data byte. One that the memory leaves unacknowledged ends the
transaction abnormally, the combined pointer kept and the mirror unknown, with a STOP after the refused byte (log 16). In a
transaction that carried a reload it is discarded, and the data bytes follow at the combined pointer (R145, log 19). -/
def Obligations.WordAddressSetsPointers : Prop :=
  ∀ (s : State) (high low : Byte) (ackHigh ackLow : Bool) (a : Nat),
    s.bridge.txn.phase = .wordAddress →
    a = 256 * high.toNat + low.toNat →
    (s.bridge.txn.runOn = false → s.bridge.memOpen = true → s.head ≠ .noMemory →
        ∃ t, exec (.wordAddress ⟨high, true⟩ ⟨low, true⟩) s = .next t ∧ t = { s with bridge := t.bridge }
          ∧ t.bridge.combined.toNat = a ∧ t.bridge.mirror = some (BitVec.ofNat 14 (a % 0x4000))
          ∧ t.bridge.toSwitch = .ack
          ∧ (if a < 0x4000 then t.bridge.txn.phase = .writeMemory ∧ t.bridge.memOpen = true
                ∧ t.bridge.toMemory = [.send high, .send low]
              else t.bridge.txn.phase = (if a < 0x4400 then .writeLive else .writeVoid) ∧ t.bridge.memOpen = false
                ∧ t.bridge.toMemory = [.send high, .send low, .stop]))
      ∧ (s.bridge.txn.runOn = false → s.bridge.memOpen = true → s.head ≠ .loading → ackHigh = false ∨ ackLow = false →
        ∃ t, exec (.wordAddress ⟨high, ackHigh⟩ ⟨low, ackLow⟩) s = .next t ∧ t = { s with bridge := t.bridge }
          ∧ t.bridge.combined = s.bridge.combined ∧ t.bridge.mirror = none ∧ t.bridge.toSwitch = .nack
          ∧ t.bridge.txn = .initial ∧ t.bridge.port = s.bridge.port.afterBridge ∧ t.bridge.memOpen = false
          ∧ t.bridge.toMemory = [.send high] ++ (if ackHigh then [.send low] else []) ++ [.stop])
      ∧ (s.bridge.txn.runOn = false → s.bridge.memOpen = false →
        ∃ t, exec (.wordAddress ⟨high, ackHigh⟩ ⟨low, ackLow⟩) s = .next t ∧ t = { s with bridge := t.bridge }
          ∧ t.bridge.combined.toNat = a ∧ t.bridge.mirror = s.bridge.mirror ∧ t.bridge.toSwitch = .ack
          ∧ t.bridge.toMemory = [])
      ∧ (s.bridge.txn.runOn = true →
        ∃ t, exec (.wordAddress ⟨high, ackHigh⟩ ⟨low, ackLow⟩) s = .next t ∧ t = { s with bridge := t.bridge }
          ∧ t.bridge.combined = s.bridge.combined ∧ t.bridge.mirror = s.bridge.mirror ∧ t.bridge.toSwitch = .ack
          ∧ t.bridge.toMemory = []
          ∧ t.bridge.txn = { s.bridge.txn with phase :=
              if s.bridge.combined.toNat < 0x4000 then .writeMemory
              else if s.bridge.combined.toNat < 0x4400 then .writeLive else .writeVoid })

/-- R138, R142, R143, R139: a written byte by space. A forwarded byte that the memory acknowledges is copied at the combined
pointer's address into the pending header or leg record, and pointer and mirror move within their page of 64; a live-window
byte joins the write buffer while it holds fewer than sixteen; a void byte is discarded; each is acknowledged. R145, R138:
with no memory a memory-space byte is acknowledged and discarded, nothing forwarded or copied. A forwarded byte that the
memory leaves unacknowledged is not copied and is an abnormal end: no acknowledge, the mirror unknown, the pointer kept; that
the transaction is over there, with a STOP, is the model's choice (log 16). In a transaction that carried a reload every byte
written is acknowledged and discarded and moves the pointer as R138 states, nothing forwarded, copied or buffered (R145); that
the three rows bring it alike is the model's reading (log 19). -/
def Obligations.WrittenByteBySpace : Prop :=
  ∀ (s : State) (v : Byte) (ack : Bool) (a : Nat),
    a = s.bridge.combined.toNat →
    spaceOf s.bridge.combined = .memory ∧ s.bridge.txn.phase = .writeMemory
      ∨ spaceOf s.bridge.combined = .live ∧ s.bridge.txn.phase = .writeLive
      ∨ spaceOf s.bridge.combined = .void ∧ s.bridge.txn.phase = .writeVoid →
    (s.bridge.txn.runOn = false → s.bridge.txn.phase = .writeMemory → s.bridge.memOpen = true →
        ∃ t, exec (.memoryWriteByte v true) s = .next t ∧ t.bridge.toSwitch = .ack ∧ t.bridge.toMemory = [.send v]
          ∧ t.bridge.combined.toNat = a / 64 * 64 + (a + 1) % 64
          ∧ t.bridge.mirror = s.bridge.mirror.map (fun m => BitVec.ofNat 14 (m.toNat / 64 * 64 + (m.toNat + 1) % 64))
          ∧ (∀ k : Fin 64, t.pendingHeader[k] = if a = k.val then v else s.pendingHeader[k])
          ∧ (∀ (n : LegId) (k : Fin 64), (t.pendingLegs[n])[k] = if a = 64 + 64 * n.val + k.val then v else (s.pendingLegs[n])[k])
          ∧ (∀ n : LegId, a / 64 = n.val + 1 →
              ((t.leg n).differs = true ↔ (s.leg n).source ≠ some t.pendingLegs[n]))
          ∧ (∀ n : LegId, ∃ b : Bool, t.leg n = { s.leg n with differs := b }))
      ∧ (s.bridge.txn.runOn = false → s.bridge.txn.phase = .writeMemory → s.bridge.memOpen = true → s.head ≠ .loading →
        ∃ t, exec (.memoryWriteByte v false) s = .next t ∧ t = { s with bridge := t.bridge } ∧ t.bridge.toSwitch = .nack
          ∧ t.bridge.toMemory = [.send v, .stop] ∧ t.bridge.mirror = none ∧ t.bridge.combined = s.bridge.combined
          ∧ t.bridge.txn = .initial ∧ t.bridge.port = s.bridge.port.afterBridge ∧ t.bridge.memOpen = false)
      ∧ (s.bridge.txn.runOn = false → s.bridge.txn.phase = .writeMemory → s.head = .noMemory → s.bridge.memOpen = false →
        ∃ t, exec (.memoryWriteByte v ack) s = .next t ∧ t = { s with bridge := t.bridge } ∧ t.bridge.toSwitch = .ack
          ∧ t.bridge.toMemory = [] ∧ t.bridge.combined.toNat = a / 64 * 64 + (a + 1) % 64 ∧ t.bridge.mirror = s.bridge.mirror
          ∧ t.bridge.txn = s.bridge.txn)
      ∧ (s.bridge.txn.runOn = false → s.bridge.txn.phase = .writeLive →
        ∃ t, exec (.liveWindowWriteByte v) s = .next t ∧ t = { s with bridge := t.bridge } ∧ t.bridge.toSwitch = .ack
          ∧ t.bridge.combined.toNat = (if a = 0x43FF then 0x4000 else a + 1) ∧ t.bridge.mirror = s.bridge.mirror
          ∧ t.bridge.txn = { s.bridge.txn with buffer :=
              if s.bridge.txn.buffer.length < 16 then s.bridge.txn.buffer ++ [(s.bridge.combined, v)] else s.bridge.txn.buffer })
      ∧ (s.bridge.txn.runOn = false → s.bridge.txn.phase = .writeVoid →
        ∃ t, exec (.voidWriteByte v) s = .next t ∧ t = { s with bridge := t.bridge } ∧ t.bridge.toSwitch = .ack
          ∧ t.bridge.combined.toNat = (if a = 0xFFFF then 0x4400 else a + 1) ∧ t.bridge.mirror = s.bridge.mirror
          ∧ t.bridge.txn = s.bridge.txn)
      ∧ (s.bridge.txn.runOn = true →
        ∀ c ∈ [Instr.memoryWriteByte v ack, .liveWindowWriteByte v, .voidWriteByte v],
          ∃ t, exec c s = .next t ∧ t = { s with bridge := t.bridge } ∧ t.bridge.toSwitch = .ack ∧ t.bridge.toMemory = []
            ∧ t.bridge.combined.toNat = (if a < 0x4000 then a / 64 * 64 + (a + 1) % 64
                else if a = 0x43FF then 0x4000 else if a = 0xFFFF then 0x4400 else a + 1)
            ∧ t.bridge.mirror = s.bridge.mirror ∧ t.bridge.txn = s.bridge.txn ∧ t.bridge.port = s.bridge.port
            ∧ t.bridge.memOpen = s.bridge.memOpen)

/-- R140, R145: a current-address read by head state, space and mirror: served without the memory outside memory space;
forwarded where the mirror equals the combined pointer; resynchronized otherwise. A busy memory leaves both pointers, and a
resync refused later leaves the mirror unknown, with a STOP after the refused byte; in LOADING what stands open at the memory
stays so (R146). That a refused address byte ends the transaction with the port free (log 20), that a STOP follows a resync
byte refused later (log 16), and that a later refusal counts as acknowledged where the mirror equals the pointer (log 28),
are the model's choices. -/
def Obligations.CurrentAddressReadClassified : Prop :=
  ∀ (s : State) (answer : MemAnswer) (known : Bool),
    s.bridge.txn.phase = .address →
    s.bridge.port = .bridge →
    (s.head ≠ .loading → s.bridge.memOpen = false) →
    known = decide (s.bridge.mirror = some (BitVec.ofNat 14 s.bridge.combined.toNat)) →
    ∃ t, exec (.currentAddressRead answer) s = .next t ∧ t.bridge.combined = s.bridge.combined
      ∧ (if s.head = .loading then
          t.bridge.toSwitch = .nack ∧ t.bridge.txn = .initial ∧ t.bridge.port = .free ∧ t.bridge.toMemory = []
            ∧ t.bridge.memOpen = s.bridge.memOpen
        else if s.head = .noMemory ∨ spaceOf s.bridge.combined ≠ .memory then
          t.bridge.toSwitch = .ack ∧ t.bridge.txn.phase = .readServed ∧ t.bridge.toMemory = []
            ∧ t.bridge.mirror = s.bridge.mirror
        else if answer = .acknowledged ∨ (known = true ∧ answer ≠ .busy) then
          t.bridge.toSwitch = .ack ∧ t.bridge.txn.phase = .readForwarded ∧ t.bridge.memOpen = true
            ∧ t.bridge.mirror = some (BitVec.ofNat 14 s.bridge.combined.toNat)
            ∧ t.bridge.toMemory = (if known then [.start, .send 0xA9] else
                [.start, .send 0xA8, .send (s.bridge.combined.extractLsb' 8 8), .send (s.bridge.combined.extractLsb' 0 8),
                  .start, .send 0xA9])
        else
          t.bridge.toSwitch = .nack ∧ t.bridge.txn = .initial ∧ t.bridge.port = .free
            ∧ t.bridge.toMemory = (if known then [.start, .send 0xA9] else
                [.start, .send 0xA8]
                  ++ (if answer = .busy then [] else [.send (s.bridge.combined.extractLsb' 8 8)])
                  ++ (if answer = .busy ∨ answer = .highRefused then [] else [.send (s.bridge.combined.extractLsb' 0 8)])
                  ++ (if answer = .readAddressRefused then [.start, .send 0xA9] else [])) ++ [.stop]
            ∧ t.bridge.mirror = (if answer = .busy then s.bridge.mirror else none))

/-- R138 to R141: a forwarded byte is passed unchanged, the switch's acknowledge of it relayed, and both pointers advance by
the read wrap, still equal; a served byte is 0xFF in the void, and in memory space too with no memory (R145), and in the live
window the byte of the row as it stood at the first byte served from it: that byte takes the row's snapshot, every later byte
of the row leaves it as it is, and it is dropped where the pointer leaves the row. R147, R148, R150, section 10.2: what each row
of the live window holds; an unassigned byte reads 0. That a transaction which ran on after a reload reads 0xFF in memory space too
(log 19), the detail and zero byte of FAULT_CLEARED and FAULT_LEFT (log 11), the learned valid bit of a leg with no lanes
(log 15), the second detail rows of an absent lane (log 28), and that no leg exists for the detail page while loading (log
34), are the model's choices. -/
def Obligations.ReadBytes : Prop :=
  ∀ (s : State) (v : Byte) (ack : Bool) (a : Nat) (n : LegId) (k : Fin 4) (r : BitVec 12),
    a = s.bridge.combined.toNat →
    (s.bridge.txn.phase = .readForwarded → spaceOf s.bridge.combined = .memory →
        s.bridge.mirror = some (memoryPointer s.bridge.combined) →
        ∃ t, exec (.forwardedReadByte v ack) s = .next t ∧ t.bridge.toSwitch = .data v
          ∧ t.bridge.toMemory = [if ack then .ack else .nack]
          ∧ t.bridge.combined.toNat = (a + 1) % 0x4000 ∧ t.bridge.mirror = some (memoryPointer t.bridge.combined)
          ∧ t.bridge.txn = { s.bridge.txn with phase := if ack then .readForwarded else .readDone })
      ∧ (s.bridge.txn.phase = .readServed → spaceOf s.bridge.combined = .live →
        ∃ t, exec (.servedReadByte ack) s = .next t
          ∧ t.bridge.toSwitch = .data ((match s.bridge.txn.snapshot with
              | some r => if r.1 = rowOf s.bridge.combined then r.2 else s.rowBytes (rowOf s.bridge.combined)
              | none => s.rowBytes (rowOf s.bridge.combined)).getD (a % 16) 0)
          ∧ t.bridge.combined.toNat = (if a = 0x43FF then 0x4000 else a + 1)
          ∧ (a % 16 ≠ 15 → s.bridge.txn.snapshot = none →
              t.bridge.txn.snapshot = some (rowOf s.bridge.combined, s.rowBytes (rowOf s.bridge.combined)))
          ∧ (∀ q, a % 16 ≠ 15 → s.bridge.txn.snapshot = some q → q.1 = rowOf s.bridge.combined →
              t.bridge.txn.snapshot = some q)
          ∧ (∀ q, a % 16 ≠ 15 → s.bridge.txn.snapshot = some q → q.1 ≠ rowOf s.bridge.combined →
              t.bridge.txn.snapshot = some (rowOf s.bridge.combined, s.rowBytes (rowOf s.bridge.combined)))
          ∧ (a % 16 = 15 → t.bridge.txn.snapshot = none)
          ∧ t.bridge.txn.phase = (if ack then .readServed else .readDone) ∧ t.bridge.mirror = s.bridge.mirror)
      ∧ (s.bridge.txn.phase = .readServed → spaceOf s.bridge.combined = .void →
        ∃ t, exec (.servedReadByte ack) s = .next t ∧ t.bridge.toSwitch = .data 0xFF
          ∧ t.bridge.combined.toNat = (if a = 0xFFFF then 0x4400 else a + 1) ∧ t.bridge.mirror = s.bridge.mirror)
      ∧ (s.bridge.txn.phase = .readServed → spaceOf s.bridge.combined = .memory →
        ∃ t, exec (.servedReadByte ack) s = .next t ∧ t.bridge.toSwitch = .data 0xFF ∧ t.bridge.toMemory = []
          ∧ t.bridge.combined.toNat = (a + 1) % 0x4000 ∧ t.bridge.mirror = s.bridge.mirror
          ∧ t.bridge.txn.phase = if ack then .readServed else .readDone)
      ∧ s.HeadRowsShown ∧ s.LegRowShown n ∧ s.DetailPageShown k ∧ s.QueueRowsShown ∧ s.OtherRowsZero r

/-- R139, R143, R144, R145: a repeated START keeps the port. After a live-window write it applies the buffer first. After a
live or void word address or write, and after a served read: to read on, the BX8 serves what then stands; to write, a new
address phase begins with START, the memory side being closed, or with no memory by the BX8 alone; for another bus address
the transaction is over. After a memory-space word address, write or read it is forwarded to the open memory side: to read,
the bytes follow from the memory's pointer, which equals the combined pointer; to write, a new address phase; for another bus
address a STOP goes out and both pointers stay. A transaction that ran on after a reload is acknowledged by the BX8 alone, its
reads served, and nothing goes to the memory (R145); so is one whose buffered bytes carry the reload, which takes effect first.
Before a word address is complete the combined pointer stays and the mirror becomes unknown where the memory took part of it; a
read there is a current-address read by that pointer, resynchronized in memory space, a write is a new address phase, and for
another bus address a STOP goes out. The model's choices: how a transaction runs on after a reload (log 19), with the mirror
unknown where the memory took part of a word address (log 17); an address byte that the memory refuses ends the transaction with
STOP and a free port (log 20), a resync byte refused later too (log 16), a later refusal counts as acknowledged where the mirror
equals the pointer (log 28), a repeated START after a read is taken as after a word address (log 36), and what one before a
complete word address is (log 30). -/
def Obligations.RepeatedStartAppliesBuffer : Prop :=
  ∀ (s : State) (answer : MemAnswer) (u : State),
    s.bridge.port = .bridge →
    u = State.applyBytes { s with bridge := { s.bridge with txn := { s.bridge.txn with buffer := [] } } } s.bridge.txn.buffer →
    (s.bridge.txn.runOn = false → s.windowOpen = true →
      s.bridge.txn.phase = .writeLive ∨ s.bridge.txn.phase = .writeVoid ∨ s.bridge.txn.phase = .readServed
        ∨ s.bridge.txn.phase = .readDone →
      s.bridge.memOpen = false → spaceOf s.bridge.combined ≠ .memory ∨ s.head = .noMemory → u.head ≠ .loading →
        (∃ t, exec (.repeatedStart .read answer) s = .next t ∧ t = { u with bridge := t.bridge }
            ∧ t.bridge.toSwitch = .ack ∧ t.bridge.txn.phase = .readServed ∧ t.bridge.port = .bridge
            ∧ t.bridge.combined = s.bridge.combined ∧ t.bridge.mirror = s.bridge.mirror ∧ t.bridge.toMemory = [])
          ∧ (∃ t, exec (.repeatedStart .write answer) s = .next t ∧ t = { u with bridge := t.bridge }
            ∧ t.bridge.combined = s.bridge.combined ∧ t.bridge.mirror = s.bridge.mirror
            ∧ (if s.head ≠ .noMemory ∧ answer = .busy then t.bridge.toSwitch = .nack ∧ t.bridge.port = .free
                ∧ t.bridge.txn = .initial ∧ t.bridge.memOpen = false ∧ t.bridge.toMemory = [.start, .send 0xA8, .stop]
              else t.bridge.toSwitch = .ack ∧ t.bridge.txn.phase = .wordAddress ∧ t.bridge.port = .bridge
                ∧ (t.bridge.memOpen = true ↔ s.head ≠ .noMemory)
                ∧ t.bridge.toMemory = if s.head = .noMemory then [] else [.start, .send 0xA8]))
          ∧ (∃ t, exec (.repeatedStart .otherAddress answer) s = .next t ∧ t = { u with bridge := t.bridge }
            ∧ t.bridge.toSwitch = .nack ∧ t.bridge.port = .free ∧ t.bridge.txn = .initial ∧ t.bridge.toMemory = []
            ∧ t.bridge.combined = s.bridge.combined ∧ t.bridge.mirror = s.bridge.mirror))
      ∧ (s.bridge.txn.runOn = false → s.windowOpen = true →
        s.bridge.txn.phase = .writeMemory ∨ s.bridge.txn.phase = .readForwarded ∨ s.bridge.txn.phase = .readDone →
        s.bridge.memOpen = true → s.bridge.txn.buffer = [] → s.head ≠ .noMemory →
        spaceOf s.bridge.combined = .memory → s.bridge.mirror = some (memoryPointer s.bridge.combined) →
        (∃ t, exec (.repeatedStart .read answer) s = .next t ∧ t = { s with bridge := t.bridge }
            ∧ t.bridge.combined = s.bridge.combined ∧ t.bridge.mirror = s.bridge.mirror
            ∧ (if answer = .busy then t.bridge.toSwitch = .nack ∧ t.bridge.port = .free ∧ t.bridge.txn = .initial
                ∧ t.bridge.toMemory = [.start, .send 0xA9, .stop]
              else t.bridge.toSwitch = .ack ∧ t.bridge.port = .bridge ∧ t.bridge.txn.phase = .readForwarded
                ∧ t.bridge.memOpen = true ∧ t.bridge.toMemory = [.start, .send 0xA9]))
          ∧ (∃ t, exec (.repeatedStart .write answer) s = .next t ∧ t = { s with bridge := t.bridge }
            ∧ t.bridge.combined = s.bridge.combined ∧ t.bridge.mirror = s.bridge.mirror
            ∧ (if answer = .busy then t.bridge.toSwitch = .nack ∧ t.bridge.port = .free ∧ t.bridge.txn = .initial
                ∧ t.bridge.toMemory = [.start, .send 0xA8, .stop]
              else t.bridge.toSwitch = .ack ∧ t.bridge.port = .bridge ∧ t.bridge.txn.phase = .wordAddress
                ∧ t.bridge.memOpen = true ∧ t.bridge.toMemory = [.start, .send 0xA8]))
          ∧ (∃ t, exec (.repeatedStart .otherAddress answer) s = .next t ∧ t = { s with bridge := t.bridge }
            ∧ t.bridge.toSwitch = .nack ∧ t.bridge.port = .free ∧ t.bridge.txn = .initial ∧ t.bridge.toMemory = [.stop]
            ∧ t.bridge.combined = s.bridge.combined ∧ t.bridge.mirror = s.bridge.mirror))
      ∧ (s.bridge.txn.runOn = true → s.bridge.txn.buffer = [] →
        s.bridge.txn.phase = .wordAddress ∨ s.bridge.txn.phase = .writeLive ∨ s.bridge.txn.phase = .writeMemory
          ∨ s.bridge.txn.phase = .writeVoid ∨ s.bridge.txn.phase = .readServed ∨ s.bridge.txn.phase = .readDone →
        ∀ target : RestartTarget,
          ∃ t, exec (.repeatedStart target answer) s = .next t ∧ t = { s with bridge := t.bridge }
            ∧ t.bridge.combined = s.bridge.combined ∧ t.bridge.toMemory = []
            ∧ t.bridge.mirror = (if s.bridge.txn.phase = .wordAddress ∧ s.bridge.memOpen = true then none
                else s.bridge.mirror)
            ∧ (if target = .otherAddress then t.bridge.toSwitch = .nack ∧ t.bridge.port = .free ∧ t.bridge.txn = .initial
              else t.bridge.toSwitch = .ack ∧ t.bridge.port = .bridge ∧ t.bridge.txn.runOn = true
                ∧ t.bridge.txn.phase = (if target = .read then .readServed else .wordAddress)))
      ∧ (s.windowOpen = true → s.bridge.txn.phase = .writeLive → u.head = .loading →
        ∀ target : RestartTarget,
          ∃ t, exec (.repeatedStart target answer) s = .next t ∧ t = { u with bridge := t.bridge }
            ∧ t.bridge.combined = s.bridge.combined ∧ t.bridge.mirror = s.bridge.mirror ∧ t.bridge.toMemory = []
            ∧ t.bridge.txn.buffer = []
            ∧ (if target = .otherAddress then t.bridge.toSwitch = .nack ∧ t.bridge.port = .free ∧ t.bridge.txn = .initial
              else t.bridge.toSwitch = .ack ∧ t.bridge.port = .bridge ∧ t.bridge.txn.runOn = true
                ∧ t.bridge.txn.phase = (if target = .read then .readServed else .wordAddress)))
      ∧ (s.bridge.txn.runOn = false → s.windowOpen = true → s.bridge.txn.phase = .wordAddress → s.bridge.txn.buffer = [] →
        (s.bridge.memOpen = true ↔ s.head ≠ .noMemory) →
        (∃ t, exec (.repeatedStart .read answer) s = .next t ∧ t = { s with bridge := t.bridge }
            ∧ t.bridge.combined = s.bridge.combined
            ∧ (if s.head = .noMemory ∨ spaceOf s.bridge.combined ≠ .memory then
                t.bridge.toSwitch = .ack ∧ t.bridge.port = .bridge ∧ t.bridge.txn.phase = .readServed
                  ∧ t.bridge.toMemory = [] ∧ t.bridge.memOpen = s.bridge.memOpen
                  ∧ t.bridge.mirror = (if s.bridge.memOpen then none else s.bridge.mirror)
              else if answer = .acknowledged then
                t.bridge.toSwitch = .ack ∧ t.bridge.port = .bridge ∧ t.bridge.txn.phase = .readForwarded
                  ∧ t.bridge.memOpen = true ∧ t.bridge.mirror = some (memoryPointer s.bridge.combined)
                  ∧ t.bridge.toMemory = [.start, .send 0xA8, .send (s.bridge.combined.extractLsb' 8 8),
                      .send (s.bridge.combined.extractLsb' 0 8), .start, .send 0xA9]
              else
                t.bridge.toSwitch = .nack ∧ t.bridge.port = .free ∧ t.bridge.txn = .initial ∧ t.bridge.memOpen = false
                  ∧ t.bridge.mirror = none
                  ∧ t.bridge.toMemory = [.start, .send 0xA8]
                      ++ (if answer = .busy then [] else [.send (s.bridge.combined.extractLsb' 8 8)])
                      ++ (if answer = .busy ∨ answer = .highRefused then [] else [.send (s.bridge.combined.extractLsb' 0 8)])
                      ++ (if answer = .readAddressRefused then [.start, .send 0xA9] else []) ++ [.stop]))
          ∧ (∃ t, exec (.repeatedStart .write answer) s = .next t ∧ t = { s with bridge := t.bridge }
            ∧ t.bridge.combined = s.bridge.combined
            ∧ t.bridge.mirror = (if s.bridge.memOpen then none else s.bridge.mirror)
            ∧ (if s.head ≠ .noMemory ∧ answer = .busy then t.bridge.toSwitch = .nack ∧ t.bridge.port = .free
                ∧ t.bridge.txn = .initial ∧ t.bridge.memOpen = false ∧ t.bridge.toMemory = [.start, .send 0xA8, .stop]
              else t.bridge.toSwitch = .ack ∧ t.bridge.port = .bridge ∧ t.bridge.txn.phase = .wordAddress
                ∧ t.bridge.memOpen = s.bridge.memOpen
                ∧ t.bridge.toMemory = if s.head = .noMemory then [] else [.start, .send 0xA8]))
          ∧ (∃ t, exec (.repeatedStart .otherAddress answer) s = .next t ∧ t = { s with bridge := t.bridge }
            ∧ t.bridge.toSwitch = .nack ∧ t.bridge.port = .free ∧ t.bridge.txn = .initial ∧ t.bridge.memOpen = false
            ∧ t.bridge.toMemory = (if s.bridge.memOpen then [.stop] else []) ∧ t.bridge.combined = s.bridge.combined
            ∧ t.bridge.mirror = (if s.bridge.memOpen then none else s.bridge.mirror)))

/-- R143, R144, R139: the STOP ends the transaction and frees the port, closes the memory side where it is open (in LOADING the
recovery's STOP does, R146), and the buffered bytes take effect one by one in the order in which they arrived. Before the word
address is complete it leaves the combined pointer as it was, and the mirror unknown where the memory took part of it (R139
step 2, log 17). In a transaction that ran on after a reload it sends nothing (R145); the model's choice of how such a
transaction runs on is log 19. -/
def Obligations.StopAppliesBufferInOrder : Prop :=
  ∀ (s : State) (b : BusAddr × Byte) (rest : List (BusAddr × Byte)) (u : State),
    s.bridge.port = .bridge →
    u = { s with bridge := { s.bridge with
            port := .free, memOpen := s.bridge.memOpen && decide (s.head = .loading), txn := .initial, toSwitch := .nothing
            toMemory := if s.bridge.memOpen = true ∧ s.bridge.txn.runOn = false ∧ s.head ≠ .loading then [.stop] else []
            mirror := if s.bridge.txn.phase = .wordAddress ∧ s.bridge.memOpen = true then none else s.bridge.mirror } } →
    s.bridge.txn.phase = .wordAddress ∨ s.bridge.txn.phase = .writeLive ∨ s.bridge.txn.phase = .writeMemory
      ∨ s.bridge.txn.phase = .writeVoid ∨ s.bridge.txn.phase = .readForwarded ∨ s.bridge.txn.phase = .readServed
      ∨ s.bridge.txn.phase = .readDone →
    (s.bridge.txn.buffer = [] → exec .transactionStop s = .next u)
      ∧ (s.bridge.txn.buffer = b :: rest →
          exec .transactionStop s = .next (rest.foldl (fun t c => t.applyByte c.1 c.2) (u.applyByte b.1 b.2)))

/-- R138, R143, R144, R162, R167: an abnormal end of the switch's transaction empties the buffer without effect and leaves the
mirror unknown where a memory-side transaction was open, the combined pointer kept; a chunk of a load or of a record left
unacknowledged sends what it has up to the refused byte, ends with a STOP, frees the port and waits for its retry, the mirror
unknown unless it was the address byte. The mirror where no memory side was open, and where a read chunk's second address byte
is refused, and the byte at which ABNORMAL_END ends an agent's chunk, are the model's choices (log 16). -/
def Obligations.AbnormalAndRefused : Prop :=
  ∀ (s : State) (at_ : NackAt) (l : Load) (a : BusAddr) (r : FailureRecord) (rest : List FailureRecord) (k : Nat),
    (s.bridge.port = .bridge →
        ∃ t, exec .abnormalEnd s = .next t ∧ t = { s with bridge := t.bridge } ∧ t.bridge.port = .free
          ∧ t.bridge.txn = .initial ∧ t.bridge.combined = s.bridge.combined ∧ t.bridge.toSwitch = .nack
          ∧ t.bridge.mirror = (if s.bridge.memOpen then none else s.bridge.mirror))
      ∧ (s.bridge.port = .agent .loadChunk → s.agent.load = some l → l.stage.address = some a →
        ∃ t, exec (.chunkNotAcknowledged at_) s = .next t ∧ t.bridge.port = .free
          ∧ t.bridge.toMemory = (match at_ with
              | .addressByte => [.send 0xA8]
              | .laterByte b => [.send 0xA8, .send (a.extractLsb' 8 8)]
                  ++ (if 1 ≤ b.val then [.send (a.extractLsb' 0 8)] else [])
                  ++ (if 2 ≤ b.val then [.start, .send 0xA9] else [])) ++ [.stop]
          ∧ t.agent = { s.agent with load := some { l with retryWait := true } }
          ∧ t.bridge.mirror = (if at_ = .addressByte then s.bridge.mirror else none)
          ∧ t = { s with bridge := t.bridge, agent := t.agent })
      ∧ (s.bridge.port = .agent .record → s.agent.records = r :: rest → r.taps.length = 24 → r.eyes.length = 8 →
        k = (match at_ with | .addressByte => 0 | .laterByte b => b.val + 1) →
        ∃ t, exec (.chunkNotAcknowledged at_) s = .next t ∧ t.bridge.port = .free
          ∧ (∃ u, exec .recordWritten s = .next u ∧ t.bridge.toMemory = u.bridge.toMemory.take (k + 1) ++ [.stop])
          ∧ (s.agent.load = none → t.agent = { s.agent with records := { r with retryWait := true } :: rest })
          ∧ t.bridge.mirror = (if at_ = .addressByte then s.bridge.mirror else none)
          ∧ t = { s with bridge := t.bridge, agent := t.agent })
      ∧ (s.bridge.port = .agent .loadChunk → exec .abnormalEnd s = exec (.chunkNotAcknowledged (.laterByte 0)) s)

/-! ### The memory agent -/

/-- R146, R162, R138, R98: the recovery makes the mirror unknown and leads to the header chunk; the header chunk replaces the
whole pending header; each leg record chunk replaces that leg's pending record, derives its pending-differs flag, and leads to
the next leg or the ring; the mirror then holds the address after the chunk's last byte. A condition of MEMORY_FAULT that held
has ended, its entry CLEARED or gone (R154): that each chunk read ends it at its completion is the model's choice (log 26). -/
def Obligations.LoadChunks : Prop :=
  ∀ (s : State) (l : Load) (bytes : Page) (n : LegId),
    s.agent.load = some l →
    s.head = .loading →
    (s.bridge.port = .agent .recovery → l.stage = .recovery →
        ∃ t, exec .busRecovery s = .next t ∧ t.bridge.port = .free ∧ t.bridge.mirror = none
          ∧ t.bridge.toMemory = [.clocks, .stop] ∧ t.bridge.combined = s.bridge.combined
          ∧ t.agent.load = some { l with stage := .header, retryWait := false, window := none })
      ∧ (s.bridge.port = .agent .loadChunk → l.stage = .header →
        ∃ t, exec (.headerChunk bytes) s = .next t ∧ t.pendingHeader = bytes ∧ t.pendingLegs = s.pendingLegs
          ∧ t.bridge.port = .free ∧ t.bridge.mirror = some 0x0040 ∧ t.report.memoryFault = false
          ∧ s.Reports t [.ends none .memoryFault]
          ∧ t.agent.load = some { l with stage := .leg 0, retryWait := false, window := none })
      ∧ (s.bridge.port = .agent .loadChunk → l.stage = .leg n →
        ∃ t, exec (.legRecordChunk bytes) s = .next t ∧ t.pendingHeader = s.pendingHeader
          ∧ (∀ m : LegId, t.pendingLegs[m] = if m = n then bytes else s.pendingLegs[m])
          ∧ ((t.leg n).differs = true ↔ (s.leg n).source ≠ some bytes)
          ∧ t.bridge.port = .free ∧ t.bridge.mirror = some (BitVec.ofNat 14 (0x0080 + 64 * n.val))
          ∧ t.report.memoryFault = false ∧ s.Reports t [.ends none .memoryFault]
          ∧ t.agent.load = some { l with stage := if n = 7 then .slot 0 else .leg (n + 1), retryWait := false, window := none })

/-- R163, R165, R4, R5, R43, R54, R99: a ring slot read leads to the next slot; the last one gives the next slot and serial,
after the valid slot of the highest serial, and ends the load. A refused header or an invalid plan ends it in PLAN_BAD with
no leg, every leg PARKED and no learned set valid; otherwise in RUNNING with each leg owning the lanes dealt to it. There
each existing leg is settled by its record: taken or skipped it enters WAITING where its enable is 1, with LEG_STATE of cause
LOAD in leg order, and stays PARKED where it is 0; failing its check it has the default profile and PROFILE_BAD. Learned sets
stay valid over a skipped take on the lanes of before alone. The load count rises and HEAD_LOADED is the last record queued.
Every raise and every end of the load's end reaches the standing fault list (R112, R153, R154). The model's choices: a leg given
the default profile has clamped flag 0 (log 14), each chunk read ends the condition of MEMORY_FAULT (log 26), and the head's
conditions change before the legs are settled, PROFILE_BAD of legs that do not exist ending with them in leg order (log 8). -/
def Obligations.RingScanEndsLoad : Prop :=
  ∀ (s : State) (l : Load) (k : Fin 8) (bytes : Page),
    s.agent.load = some l →
    s.bridge.port = .agent .loadChunk →
    l.stage = .slot k →
    ∃ t, exec (.ringSlotRead bytes) s = .next t ∧ t.bridge.port = .free
      ∧ (k ≠ 7 → ∃ l', t.agent.load = some l' ∧ l'.stage = .slot (k + 1) ∧ l'.window = none ∧ t.head = s.head
          ∧ s.Reports t [.ends none .memoryFault]
          ∧ l'.best = (if checkByteHolds bytes = true ∧ slotSerial bytes ≠ 0 ∧ (∀ b ∈ l.best.toList, b.1 < slotSerial bytes)
              then some (slotSerial bytes, k) else l.best))
      ∧ (k = 7 → t.agent.load = none
          ∧ (∀ b : Option (Nat × Fin 8),
              b = (if checkByteHolds bytes = true ∧ slotSerial bytes ≠ 0 ∧ (∀ c ∈ l.best.toList, c.1 < slotSerial bytes)
                then some (slotSerial bytes, k) else l.best) →
              (b = none → t.agent.nextSlot = 0 ∧ t.agent.nextSerial = 1)
                ∧ ∀ c ∈ b.toList, t.agent.nextSlot.val = (c.2.val + 1) % 8 ∧ t.agent.nextSerial = min 65535 (c.1 + 1))
          ∧ t.loadCount = s.loadCount + 1
          ∧ (∃ r, t.report.events.getLast? = some r ∧ r.leg = none ∧ r.kind = .headLoaded t.head t.loadCount)
          ∧ (if headerAccepted s.pendingHeader = true ∧ planValid s.pendingHeader = true then
              t.head = .running ∧ t.report.planBad = false
                ∧ (∀ m : LegId, (t.leg m).width = headerWidth s.pendingHeader m
                    ∧ ((t.leg m).state = .parked ∨ (t.leg m).state = .waiting))
                ∧ (∀ m : LegId, 0 < headerWidth s.pendingHeader m →
                    (t.leg m).first = dealtFirst s.pendingHeader m ∧ (s.PlanOk → s.SettledByLoad t m))
                ∧ (∀ m : LegId, headerWidth s.pendingHeader m = 0 →
                    (t.leg m).state = .parked ∧ (t.leg m).first = 0 ∧ t.condition (some m) .profileBad = false)
                ∧ (∀ (j : Lane) (y : Side), t.owner j = none → ((t.tx[j]).get y).learnedValid = ⟨false, false⟩)
                ∧ s.Reports t ([.ends none .memoryFault, .ends none .planBad] ++ allLegs.flatMap (s.settleActs t)
                    ++ [.queues none (.headLoaded t.head t.loadCount)])
                ∧ ∀ (j : Lane) (m : LegId), t.owner j = some m ↔
                    dealtFirst s.pendingHeader m ≤ j.val ∧ j.val < dealtFirst s.pendingHeader m + headerWidth s.pendingHeader m
            else t.head = .planBad ∧ t.report.planBad = true
              ∧ s.Reports t ([.ends none .memoryFault, .raises none .planBad 0] ++ profileBadEnds
                  ++ [.queues none (.headLoaded t.head t.loadCount)])
              ∧ (∀ m : LegId, (t.leg m).state = .parked ∧ (t.leg m).width = 0 ∧ (t.leg m).first = 0)
              ∧ ∀ j : Lane, t.owner j = none ∧ ∀ y : Side, ((t.tx[j]).get y).learnedValid = ⟨false, false⟩))

/-- R145, R163, R167: a load chunk unacknowledged for 20 ms ends the load in NO_MEMORY with no leg, the mirror unknown (log
13); a failure record unacknowledged for 20 ms, outside a load or on the port while a reload waits for it, is dropped, slot,
serial and skipped count unchanged, and a port it held is free with the mirror unknown (log 16); each raises MEMORY_FAULT with
detail 0 (R152, R153). At the load's end the condition of PLAN_BAD ends too, in either order with the raise, then those of
PROFILE_BAD, and HEAD_LOADED is last (R112, R154). The model's choices: the two mirrors, and the order of the load end's changes
(log 8). -/
def Obligations.MemoryTimeouts : Prop :=
  ∀ (s : State) (l : Load) (r : FailureRecord) (rest : List FailureRecord) (w : Nat),
    (s.agent.load = some l → l.windowEnd = some w →
        ∃ t, exec .loadChunkTimeout s = .next t ∧ t.head = .noMemory ∧ t.agent.load = none ∧ t.bridge.mirror = none
          ∧ t.report.memoryFault = true ∧ t.report.planBad = false ∧ t.loadCount = s.loadCount + 1
          ∧ (∃ first ∈ [[ReportAct.raises none .memoryFault 0, .ends none .planBad],
                [.ends none .planBad, .raises none .memoryFault 0]],
              s.Reports t (first ++ profileBadEnds ++ [.queues none (.headLoaded .noMemory t.loadCount)]))
          ∧ t.pendingHeader = s.pendingHeader ∧ t.pendingLegs = s.pendingLegs
          ∧ (∀ m : LegId, (t.leg m).state = .parked ∧ (t.leg m).width = 0)
          ∧ ∀ (j : Lane) (y : Side), t.owner j = none ∧ (t.txPath j y).learnedValid = ⟨false, false⟩)
      ∧ (s.agent.load = none ∨ s.bridge.port = .agent .record → s.agent.records = r :: rest → r.window = some w →
        ∃ t, exec .failureRecordTimeout s = .next t ∧ t.agent = { s.agent with records := rest }
          ∧ t.report.memoryFault = true ∧ s.Reports t [.raises none .memoryFault 0]
          ∧ (s.bridge.port = .agent .record → t.bridge.port = .free ∧ t.bridge.mirror = none))

/-- R162, R164, R167: 1 ms after it was left unacknowledged a chunk or a record is ready for the port again; a reload's load
goes on to its recovery unless a failure record is being written. -/
def Obligations.RetriesAndReloadStart : Prop :=
  ∀ (s : State) (l : Load) (r : FailureRecord) (rest : List FailureRecord),
    s.resetHeld = false →
    (s.agent.load = some l → l.windowEnd.isSome = true →
        ∃ t, exec .chunkRetry s = .next t ∧ t.readyJob = some .loadChunk
          ∧ t = { s with agent := { s.agent with load := some { l with retryWait := false } } })
      ∧ (s.agent.load = none → s.agent.records = r :: rest →
        ∃ t, exec .failureRecordRetry s = .next t ∧ t.readyJob = some .record
          ∧ t = { s with agent := { s.agent with records := { r with retryWait := false } :: rest } })
      ∧ (s.agent.load = some l → l.stage = .awaitStart → s.bridge.port ≠ .agent .record →
        ∃ t, exec .reloadLoadStart s = .next t ∧ t.readyJob = some .recovery ∧ t = { s with agent := t.agent })
      ∧ (s.bridge.port = .agent .record → exec .reloadLoadStart s = .next s)

/-- R167, R161, R163, R138: a written record queues RECORD_WRITTEN with slot and serial, advances the slot modulo 8 and the
serial up to 65535, zeroes the skipped count, ends the condition of MEMORY_FAULT and frees the port; the 64 bytes sent hold
the fields of R161 at their offsets, zeros after them, and sum to 0 modulo 256, and the memory's pointer wraps back to the
start of the slot's page. RECORD_WRITTEN joins before or after the records of that end (R156), which reaches the standing fault
list (R154). That the queued record's leg byte names the failure record's leg (log 31), and that the condition
ends at the record's own completion (log 26), are the model's choices. -/
def Obligations.RecordIsWritten : Prop :=
  ∀ (s : State) (r : FailureRecord) (rest : List FailureRecord),
    s.bridge.port = .agent .record →
    s.agent.records = r :: rest →
    r.taps.length = 24 →
    r.eyes.length = 8 →
    ∃ t, exec .recordWritten s = .next t ∧ t.bridge.port = .free ∧ t.report.memoryFault = false
      ∧ t.agent = { s.agent with records := rest, nextSlot := s.agent.nextSlot + 1
                                 nextSerial := min 65535 (s.agent.nextSerial + 1), skipped := 0 }
      ∧ (s.head ≠ .noMemory → t.bridge.mirror = some (BitVec.ofNat 14 (0x0400 + 64 * s.agent.nextSlot.val)))
      ∧ (∃ q ∈ t.report.events, q.leg = some r.leg ∧ q.time = s.report.headClock
          ∧ q.kind = .recordWritten s.agent.nextSlot s.agent.nextSerial)
      ∧ (∃ acts ∈ [[ReportAct.queues (some r.leg) (.recordWritten s.agent.nextSlot s.agent.nextSerial), .ends none .memoryFault],
            [.ends none .memoryFault, .queues (some r.leg) (.recordWritten s.agent.nextSlot s.agent.nextSerial)]],
          s.Reports t acts)
      ∧ ∃ bytes : List Byte, bytes.length = 64 ∧ (bytes.map BitVec.toNat).sum % 256 = 0
          ∧ bytes.take 47 = [BitVec.ofNat 8 s.agent.nextSerial, BitVec.ofNat 8 (s.agent.nextSerial / 256)] ++ fourBytes r.time
              ++ [BitVec.ofNat 8 r.leg.val, BitVec.ofNat 8 r.cause.number, if r.before = .lost then 5 else 2,
                match r.rate with | .one => 1 | .two => 2]
              ++ r.taps ++ r.eyes ++ twoBytes r.glitch ++ twoBytes r.lost ++ [BitVec.ofNat 8 r.skipped]
          ∧ (bytes.drop 47).take 16 = List.replicate 16 0
          ∧ t.bridge.toMemory = [.send 0xA8, .send (BitVec.ofNat 8 (4 + s.agent.nextSlot.val / 4)),
              .send (BitVec.ofNat 8 (64 * (s.agent.nextSlot.val % 4)))] ++ bytes.map .send ++ [.stop]
end

