-- ==== Sys2Proof/Laws/State.lean ====
section
/-! SUPPORT. What each update of the state leaves as it was: one lemma per field per update, so that no proof unfolds a record
update. -/

namespace Sys2Proof.Machine

/-! ### setExch -/

@[simp] theorem State.setExch_resetHeld (s : State) (i : Lane) (x : Side) (e : Exchange) : (s.setExch i x e).resetHeld = s.resetHeld := rfl
@[simp] theorem State.setExch_now (s : State) (i : Lane) (x : Side) (e : Exchange) : (s.setExch i x e).now = s.now := rfl
@[simp] theorem State.setExch_head (s : State) (i : Lane) (x : Side) (e : Exchange) : (s.setExch i x e).head = s.head := rfl
@[simp] theorem State.setExch_resetCause (s : State) (i : Lane) (x : Side) (e : Exchange) : (s.setExch i x e).resetCause = s.resetCause := rfl
@[simp] theorem State.setExch_loadCount (s : State) (i : Lane) (x : Side) (e : Exchange) : (s.setExch i x e).loadCount = s.loadCount := rfl
@[simp] theorem State.setExch_slices (s : State) (i : Lane) (x : Side) (e : Exchange) : (s.setExch i x e).slices = s.slices := rfl
@[simp] theorem State.setExch_tx (s : State) (i : Lane) (x : Side) (e : Exchange) : (s.setExch i x e).tx = s.tx := rfl
@[simp] theorem State.setExch_rx (s : State) (i : Lane) (x : Side) (e : Exchange) : (s.setExch i x e).rx = s.rx := rfl
@[simp] theorem State.setExch_legs (s : State) (i : Lane) (x : Side) (e : Exchange) : (s.setExch i x e).legs = s.legs := rfl
@[simp] theorem State.setExch_report (s : State) (i : Lane) (x : Side) (e : Exchange) : (s.setExch i x e).report = s.report := rfl
@[simp] theorem State.setExch_pendingHeader (s : State) (i : Lane) (x : Side) (e : Exchange) : (s.setExch i x e).pendingHeader = s.pendingHeader := rfl
@[simp] theorem State.setExch_pendingLegs (s : State) (i : Lane) (x : Side) (e : Exchange) : (s.setExch i x e).pendingLegs = s.pendingLegs := rfl
@[simp] theorem State.setExch_agent (s : State) (i : Lane) (x : Side) (e : Exchange) : (s.setExch i x e).agent = s.agent := rfl
@[simp] theorem State.setExch_bridge (s : State) (i : Lane) (x : Side) (e : Exchange) : (s.setExch i x e).bridge = s.bridge := rfl
@[simp] theorem State.setExch_freeCount (s : State) (i : Lane) (x : Side) (e : Exchange) : (s.setExch i x e).freeCount = s.freeCount := rfl
@[simp] theorem State.setExch_pending (s : State) (i : Lane) (x : Side) (e : Exchange) : (s.setExch i x e).pending = s.pending := rfl

/-! ### modExch -/

@[simp] theorem State.modExch_resetHeld (s : State) (i : Lane) (x : Side) (f : Exchange → Exchange) : (s.modExch i x f).resetHeld = s.resetHeld := rfl
@[simp] theorem State.modExch_now (s : State) (i : Lane) (x : Side) (f : Exchange → Exchange) : (s.modExch i x f).now = s.now := rfl
@[simp] theorem State.modExch_head (s : State) (i : Lane) (x : Side) (f : Exchange → Exchange) : (s.modExch i x f).head = s.head := rfl
@[simp] theorem State.modExch_resetCause (s : State) (i : Lane) (x : Side) (f : Exchange → Exchange) : (s.modExch i x f).resetCause = s.resetCause := rfl
@[simp] theorem State.modExch_loadCount (s : State) (i : Lane) (x : Side) (f : Exchange → Exchange) : (s.modExch i x f).loadCount = s.loadCount := rfl
@[simp] theorem State.modExch_slices (s : State) (i : Lane) (x : Side) (f : Exchange → Exchange) : (s.modExch i x f).slices = s.slices := rfl
@[simp] theorem State.modExch_tx (s : State) (i : Lane) (x : Side) (f : Exchange → Exchange) : (s.modExch i x f).tx = s.tx := rfl
@[simp] theorem State.modExch_rx (s : State) (i : Lane) (x : Side) (f : Exchange → Exchange) : (s.modExch i x f).rx = s.rx := rfl
@[simp] theorem State.modExch_legs (s : State) (i : Lane) (x : Side) (f : Exchange → Exchange) : (s.modExch i x f).legs = s.legs := rfl
@[simp] theorem State.modExch_report (s : State) (i : Lane) (x : Side) (f : Exchange → Exchange) : (s.modExch i x f).report = s.report := rfl
@[simp] theorem State.modExch_pendingHeader (s : State) (i : Lane) (x : Side) (f : Exchange → Exchange) : (s.modExch i x f).pendingHeader = s.pendingHeader := rfl
@[simp] theorem State.modExch_pendingLegs (s : State) (i : Lane) (x : Side) (f : Exchange → Exchange) : (s.modExch i x f).pendingLegs = s.pendingLegs := rfl
@[simp] theorem State.modExch_agent (s : State) (i : Lane) (x : Side) (f : Exchange → Exchange) : (s.modExch i x f).agent = s.agent := rfl
@[simp] theorem State.modExch_bridge (s : State) (i : Lane) (x : Side) (f : Exchange → Exchange) : (s.modExch i x f).bridge = s.bridge := rfl
@[simp] theorem State.modExch_freeCount (s : State) (i : Lane) (x : Side) (f : Exchange → Exchange) : (s.modExch i x f).freeCount = s.freeCount := rfl
@[simp] theorem State.modExch_pending (s : State) (i : Lane) (x : Side) (f : Exchange → Exchange) : (s.modExch i x f).pending = s.pending := rfl

/-! ### setTxAt -/

@[simp] theorem State.setTxAt_resetHeld (s : State) (j : Lane) (x : Side) (p : TxPath) : (s.setTxAt j x p).resetHeld = s.resetHeld := rfl
@[simp] theorem State.setTxAt_now (s : State) (j : Lane) (x : Side) (p : TxPath) : (s.setTxAt j x p).now = s.now := rfl
@[simp] theorem State.setTxAt_head (s : State) (j : Lane) (x : Side) (p : TxPath) : (s.setTxAt j x p).head = s.head := rfl
@[simp] theorem State.setTxAt_resetCause (s : State) (j : Lane) (x : Side) (p : TxPath) : (s.setTxAt j x p).resetCause = s.resetCause := rfl
@[simp] theorem State.setTxAt_loadCount (s : State) (j : Lane) (x : Side) (p : TxPath) : (s.setTxAt j x p).loadCount = s.loadCount := rfl
@[simp] theorem State.setTxAt_slices (s : State) (j : Lane) (x : Side) (p : TxPath) : (s.setTxAt j x p).slices = s.slices := rfl
@[simp] theorem State.setTxAt_rx (s : State) (j : Lane) (x : Side) (p : TxPath) : (s.setTxAt j x p).rx = s.rx := rfl
@[simp] theorem State.setTxAt_ex (s : State) (j : Lane) (x : Side) (p : TxPath) : (s.setTxAt j x p).ex = s.ex := rfl
@[simp] theorem State.setTxAt_legs (s : State) (j : Lane) (x : Side) (p : TxPath) : (s.setTxAt j x p).legs = s.legs := rfl
@[simp] theorem State.setTxAt_report (s : State) (j : Lane) (x : Side) (p : TxPath) : (s.setTxAt j x p).report = s.report := rfl
@[simp] theorem State.setTxAt_pendingHeader (s : State) (j : Lane) (x : Side) (p : TxPath) : (s.setTxAt j x p).pendingHeader = s.pendingHeader := rfl
@[simp] theorem State.setTxAt_pendingLegs (s : State) (j : Lane) (x : Side) (p : TxPath) : (s.setTxAt j x p).pendingLegs = s.pendingLegs := rfl
@[simp] theorem State.setTxAt_agent (s : State) (j : Lane) (x : Side) (p : TxPath) : (s.setTxAt j x p).agent = s.agent := rfl
@[simp] theorem State.setTxAt_bridge (s : State) (j : Lane) (x : Side) (p : TxPath) : (s.setTxAt j x p).bridge = s.bridge := rfl
@[simp] theorem State.setTxAt_freeCount (s : State) (j : Lane) (x : Side) (p : TxPath) : (s.setTxAt j x p).freeCount = s.freeCount := rfl
@[simp] theorem State.setTxAt_pending (s : State) (j : Lane) (x : Side) (p : TxPath) : (s.setTxAt j x p).pending = s.pending := rfl

/-! ### modTx -/

@[simp] theorem State.modTx_resetHeld (s : State) (i : Lane) (x : Side) (f : TxPath → TxPath) : (s.modTx i x f).resetHeld = s.resetHeld := rfl
@[simp] theorem State.modTx_now (s : State) (i : Lane) (x : Side) (f : TxPath → TxPath) : (s.modTx i x f).now = s.now := rfl
@[simp] theorem State.modTx_head (s : State) (i : Lane) (x : Side) (f : TxPath → TxPath) : (s.modTx i x f).head = s.head := rfl
@[simp] theorem State.modTx_resetCause (s : State) (i : Lane) (x : Side) (f : TxPath → TxPath) : (s.modTx i x f).resetCause = s.resetCause := rfl
@[simp] theorem State.modTx_loadCount (s : State) (i : Lane) (x : Side) (f : TxPath → TxPath) : (s.modTx i x f).loadCount = s.loadCount := rfl
@[simp] theorem State.modTx_slices (s : State) (i : Lane) (x : Side) (f : TxPath → TxPath) : (s.modTx i x f).slices = s.slices := rfl
@[simp] theorem State.modTx_rx (s : State) (i : Lane) (x : Side) (f : TxPath → TxPath) : (s.modTx i x f).rx = s.rx := rfl
@[simp] theorem State.modTx_ex (s : State) (i : Lane) (x : Side) (f : TxPath → TxPath) : (s.modTx i x f).ex = s.ex := rfl
@[simp] theorem State.modTx_legs (s : State) (i : Lane) (x : Side) (f : TxPath → TxPath) : (s.modTx i x f).legs = s.legs := rfl
@[simp] theorem State.modTx_report (s : State) (i : Lane) (x : Side) (f : TxPath → TxPath) : (s.modTx i x f).report = s.report := rfl
@[simp] theorem State.modTx_pendingHeader (s : State) (i : Lane) (x : Side) (f : TxPath → TxPath) : (s.modTx i x f).pendingHeader = s.pendingHeader := rfl
@[simp] theorem State.modTx_pendingLegs (s : State) (i : Lane) (x : Side) (f : TxPath → TxPath) : (s.modTx i x f).pendingLegs = s.pendingLegs := rfl
@[simp] theorem State.modTx_agent (s : State) (i : Lane) (x : Side) (f : TxPath → TxPath) : (s.modTx i x f).agent = s.agent := rfl
@[simp] theorem State.modTx_bridge (s : State) (i : Lane) (x : Side) (f : TxPath → TxPath) : (s.modTx i x f).bridge = s.bridge := rfl
@[simp] theorem State.modTx_freeCount (s : State) (i : Lane) (x : Side) (f : TxPath → TxPath) : (s.modTx i x f).freeCount = s.freeCount := rfl
@[simp] theorem State.modTx_pending (s : State) (i : Lane) (x : Side) (f : TxPath → TxPath) : (s.modTx i x f).pending = s.pending := rfl

/-! ### setRxAt -/

@[simp] theorem State.setRxAt_resetHeld (s : State) (j : Lane) (x : Side) (p : RxPath) : (s.setRxAt j x p).resetHeld = s.resetHeld := rfl
@[simp] theorem State.setRxAt_now (s : State) (j : Lane) (x : Side) (p : RxPath) : (s.setRxAt j x p).now = s.now := rfl
@[simp] theorem State.setRxAt_head (s : State) (j : Lane) (x : Side) (p : RxPath) : (s.setRxAt j x p).head = s.head := rfl
@[simp] theorem State.setRxAt_resetCause (s : State) (j : Lane) (x : Side) (p : RxPath) : (s.setRxAt j x p).resetCause = s.resetCause := rfl
@[simp] theorem State.setRxAt_loadCount (s : State) (j : Lane) (x : Side) (p : RxPath) : (s.setRxAt j x p).loadCount = s.loadCount := rfl
@[simp] theorem State.setRxAt_slices (s : State) (j : Lane) (x : Side) (p : RxPath) : (s.setRxAt j x p).slices = s.slices := rfl
@[simp] theorem State.setRxAt_tx (s : State) (j : Lane) (x : Side) (p : RxPath) : (s.setRxAt j x p).tx = s.tx := rfl
@[simp] theorem State.setRxAt_ex (s : State) (j : Lane) (x : Side) (p : RxPath) : (s.setRxAt j x p).ex = s.ex := rfl
@[simp] theorem State.setRxAt_legs (s : State) (j : Lane) (x : Side) (p : RxPath) : (s.setRxAt j x p).legs = s.legs := rfl
@[simp] theorem State.setRxAt_report (s : State) (j : Lane) (x : Side) (p : RxPath) : (s.setRxAt j x p).report = s.report := rfl
@[simp] theorem State.setRxAt_pendingHeader (s : State) (j : Lane) (x : Side) (p : RxPath) : (s.setRxAt j x p).pendingHeader = s.pendingHeader := rfl
@[simp] theorem State.setRxAt_pendingLegs (s : State) (j : Lane) (x : Side) (p : RxPath) : (s.setRxAt j x p).pendingLegs = s.pendingLegs := rfl
@[simp] theorem State.setRxAt_agent (s : State) (j : Lane) (x : Side) (p : RxPath) : (s.setRxAt j x p).agent = s.agent := rfl
@[simp] theorem State.setRxAt_bridge (s : State) (j : Lane) (x : Side) (p : RxPath) : (s.setRxAt j x p).bridge = s.bridge := rfl
@[simp] theorem State.setRxAt_freeCount (s : State) (j : Lane) (x : Side) (p : RxPath) : (s.setRxAt j x p).freeCount = s.freeCount := rfl
@[simp] theorem State.setRxAt_pending (s : State) (j : Lane) (x : Side) (p : RxPath) : (s.setRxAt j x p).pending = s.pending := rfl

/-! ### modRx -/

@[simp] theorem State.modRx_resetHeld (s : State) (i : Lane) (x : Side) (f : RxPath → RxPath) : (s.modRx i x f).resetHeld = s.resetHeld := rfl
@[simp] theorem State.modRx_now (s : State) (i : Lane) (x : Side) (f : RxPath → RxPath) : (s.modRx i x f).now = s.now := rfl
@[simp] theorem State.modRx_head (s : State) (i : Lane) (x : Side) (f : RxPath → RxPath) : (s.modRx i x f).head = s.head := rfl
@[simp] theorem State.modRx_resetCause (s : State) (i : Lane) (x : Side) (f : RxPath → RxPath) : (s.modRx i x f).resetCause = s.resetCause := rfl
@[simp] theorem State.modRx_loadCount (s : State) (i : Lane) (x : Side) (f : RxPath → RxPath) : (s.modRx i x f).loadCount = s.loadCount := rfl
@[simp] theorem State.modRx_slices (s : State) (i : Lane) (x : Side) (f : RxPath → RxPath) : (s.modRx i x f).slices = s.slices := rfl
@[simp] theorem State.modRx_tx (s : State) (i : Lane) (x : Side) (f : RxPath → RxPath) : (s.modRx i x f).tx = s.tx := rfl
@[simp] theorem State.modRx_ex (s : State) (i : Lane) (x : Side) (f : RxPath → RxPath) : (s.modRx i x f).ex = s.ex := rfl
@[simp] theorem State.modRx_legs (s : State) (i : Lane) (x : Side) (f : RxPath → RxPath) : (s.modRx i x f).legs = s.legs := rfl
@[simp] theorem State.modRx_report (s : State) (i : Lane) (x : Side) (f : RxPath → RxPath) : (s.modRx i x f).report = s.report := rfl
@[simp] theorem State.modRx_pendingHeader (s : State) (i : Lane) (x : Side) (f : RxPath → RxPath) : (s.modRx i x f).pendingHeader = s.pendingHeader := rfl
@[simp] theorem State.modRx_pendingLegs (s : State) (i : Lane) (x : Side) (f : RxPath → RxPath) : (s.modRx i x f).pendingLegs = s.pendingLegs := rfl
@[simp] theorem State.modRx_agent (s : State) (i : Lane) (x : Side) (f : RxPath → RxPath) : (s.modRx i x f).agent = s.agent := rfl
@[simp] theorem State.modRx_bridge (s : State) (i : Lane) (x : Side) (f : RxPath → RxPath) : (s.modRx i x f).bridge = s.bridge := rfl
@[simp] theorem State.modRx_freeCount (s : State) (i : Lane) (x : Side) (f : RxPath → RxPath) : (s.modRx i x f).freeCount = s.freeCount := rfl
@[simp] theorem State.modRx_pending (s : State) (i : Lane) (x : Side) (f : RxPath → RxPath) : (s.modRx i x f).pending = s.pending := rfl

/-! ### setLeg -/

@[simp] theorem State.setLeg_resetHeld (s : State) (n : LegId) (l : Leg) : (s.setLeg n l).resetHeld = s.resetHeld := rfl
@[simp] theorem State.setLeg_now (s : State) (n : LegId) (l : Leg) : (s.setLeg n l).now = s.now := rfl
@[simp] theorem State.setLeg_head (s : State) (n : LegId) (l : Leg) : (s.setLeg n l).head = s.head := rfl
@[simp] theorem State.setLeg_resetCause (s : State) (n : LegId) (l : Leg) : (s.setLeg n l).resetCause = s.resetCause := rfl
@[simp] theorem State.setLeg_loadCount (s : State) (n : LegId) (l : Leg) : (s.setLeg n l).loadCount = s.loadCount := rfl
@[simp] theorem State.setLeg_slices (s : State) (n : LegId) (l : Leg) : (s.setLeg n l).slices = s.slices := rfl
@[simp] theorem State.setLeg_tx (s : State) (n : LegId) (l : Leg) : (s.setLeg n l).tx = s.tx := rfl
@[simp] theorem State.setLeg_rx (s : State) (n : LegId) (l : Leg) : (s.setLeg n l).rx = s.rx := rfl
@[simp] theorem State.setLeg_ex (s : State) (n : LegId) (l : Leg) : (s.setLeg n l).ex = s.ex := rfl
@[simp] theorem State.setLeg_report (s : State) (n : LegId) (l : Leg) : (s.setLeg n l).report = s.report := rfl
@[simp] theorem State.setLeg_pendingHeader (s : State) (n : LegId) (l : Leg) : (s.setLeg n l).pendingHeader = s.pendingHeader := rfl
@[simp] theorem State.setLeg_pendingLegs (s : State) (n : LegId) (l : Leg) : (s.setLeg n l).pendingLegs = s.pendingLegs := rfl
@[simp] theorem State.setLeg_agent (s : State) (n : LegId) (l : Leg) : (s.setLeg n l).agent = s.agent := rfl
@[simp] theorem State.setLeg_bridge (s : State) (n : LegId) (l : Leg) : (s.setLeg n l).bridge = s.bridge := rfl
@[simp] theorem State.setLeg_freeCount (s : State) (n : LegId) (l : Leg) : (s.setLeg n l).freeCount = s.freeCount := rfl
@[simp] theorem State.setLeg_pending (s : State) (n : LegId) (l : Leg) : (s.setLeg n l).pending = s.pending := rfl

/-! ### modLeg -/

@[simp] theorem State.modLeg_resetHeld (s : State) (n : LegId) (f : Leg → Leg) : (s.modLeg n f).resetHeld = s.resetHeld := rfl
@[simp] theorem State.modLeg_now (s : State) (n : LegId) (f : Leg → Leg) : (s.modLeg n f).now = s.now := rfl
@[simp] theorem State.modLeg_head (s : State) (n : LegId) (f : Leg → Leg) : (s.modLeg n f).head = s.head := rfl
@[simp] theorem State.modLeg_resetCause (s : State) (n : LegId) (f : Leg → Leg) : (s.modLeg n f).resetCause = s.resetCause := rfl
@[simp] theorem State.modLeg_loadCount (s : State) (n : LegId) (f : Leg → Leg) : (s.modLeg n f).loadCount = s.loadCount := rfl
@[simp] theorem State.modLeg_slices (s : State) (n : LegId) (f : Leg → Leg) : (s.modLeg n f).slices = s.slices := rfl
@[simp] theorem State.modLeg_tx (s : State) (n : LegId) (f : Leg → Leg) : (s.modLeg n f).tx = s.tx := rfl
@[simp] theorem State.modLeg_rx (s : State) (n : LegId) (f : Leg → Leg) : (s.modLeg n f).rx = s.rx := rfl
@[simp] theorem State.modLeg_ex (s : State) (n : LegId) (f : Leg → Leg) : (s.modLeg n f).ex = s.ex := rfl
@[simp] theorem State.modLeg_report (s : State) (n : LegId) (f : Leg → Leg) : (s.modLeg n f).report = s.report := rfl
@[simp] theorem State.modLeg_pendingHeader (s : State) (n : LegId) (f : Leg → Leg) : (s.modLeg n f).pendingHeader = s.pendingHeader := rfl
@[simp] theorem State.modLeg_pendingLegs (s : State) (n : LegId) (f : Leg → Leg) : (s.modLeg n f).pendingLegs = s.pendingLegs := rfl
@[simp] theorem State.modLeg_agent (s : State) (n : LegId) (f : Leg → Leg) : (s.modLeg n f).agent = s.agent := rfl
@[simp] theorem State.modLeg_bridge (s : State) (n : LegId) (f : Leg → Leg) : (s.modLeg n f).bridge = s.bridge := rfl
@[simp] theorem State.modLeg_freeCount (s : State) (n : LegId) (f : Leg → Leg) : (s.modLeg n f).freeCount = s.freeCount := rfl
@[simp] theorem State.modLeg_pending (s : State) (n : LegId) (f : Leg → Leg) : (s.modLeg n f).pending = s.pending := rfl

/-! ### setSlice -/

@[simp] theorem State.setSlice_resetHeld (s : State) (i : Lane) (d : Slice) : (s.setSlice i d).resetHeld = s.resetHeld := rfl
@[simp] theorem State.setSlice_now (s : State) (i : Lane) (d : Slice) : (s.setSlice i d).now = s.now := rfl
@[simp] theorem State.setSlice_head (s : State) (i : Lane) (d : Slice) : (s.setSlice i d).head = s.head := rfl
@[simp] theorem State.setSlice_resetCause (s : State) (i : Lane) (d : Slice) : (s.setSlice i d).resetCause = s.resetCause := rfl
@[simp] theorem State.setSlice_loadCount (s : State) (i : Lane) (d : Slice) : (s.setSlice i d).loadCount = s.loadCount := rfl
@[simp] theorem State.setSlice_tx (s : State) (i : Lane) (d : Slice) : (s.setSlice i d).tx = s.tx := rfl
@[simp] theorem State.setSlice_rx (s : State) (i : Lane) (d : Slice) : (s.setSlice i d).rx = s.rx := rfl
@[simp] theorem State.setSlice_ex (s : State) (i : Lane) (d : Slice) : (s.setSlice i d).ex = s.ex := rfl
@[simp] theorem State.setSlice_legs (s : State) (i : Lane) (d : Slice) : (s.setSlice i d).legs = s.legs := rfl
@[simp] theorem State.setSlice_report (s : State) (i : Lane) (d : Slice) : (s.setSlice i d).report = s.report := rfl
@[simp] theorem State.setSlice_pendingHeader (s : State) (i : Lane) (d : Slice) : (s.setSlice i d).pendingHeader = s.pendingHeader := rfl
@[simp] theorem State.setSlice_pendingLegs (s : State) (i : Lane) (d : Slice) : (s.setSlice i d).pendingLegs = s.pendingLegs := rfl
@[simp] theorem State.setSlice_agent (s : State) (i : Lane) (d : Slice) : (s.setSlice i d).agent = s.agent := rfl
@[simp] theorem State.setSlice_bridge (s : State) (i : Lane) (d : Slice) : (s.setSlice i d).bridge = s.bridge := rfl
@[simp] theorem State.setSlice_freeCount (s : State) (i : Lane) (d : Slice) : (s.setSlice i d).freeCount = s.freeCount := rfl
@[simp] theorem State.setSlice_pending (s : State) (i : Lane) (d : Slice) : (s.setSlice i d).pending = s.pending := rfl

/-! ### reach -/

@[simp] theorem State.reach_resetHeld (s : State) (a : Nat) : (s.reach a).resetHeld = s.resetHeld := rfl
@[simp] theorem State.reach_head (s : State) (a : Nat) : (s.reach a).head = s.head := rfl
@[simp] theorem State.reach_resetCause (s : State) (a : Nat) : (s.reach a).resetCause = s.resetCause := rfl
@[simp] theorem State.reach_loadCount (s : State) (a : Nat) : (s.reach a).loadCount = s.loadCount := rfl
@[simp] theorem State.reach_slices (s : State) (a : Nat) : (s.reach a).slices = s.slices := rfl
@[simp] theorem State.reach_tx (s : State) (a : Nat) : (s.reach a).tx = s.tx := rfl
@[simp] theorem State.reach_rx (s : State) (a : Nat) : (s.reach a).rx = s.rx := rfl
@[simp] theorem State.reach_ex (s : State) (a : Nat) : (s.reach a).ex = s.ex := rfl
@[simp] theorem State.reach_legs (s : State) (a : Nat) : (s.reach a).legs = s.legs := rfl
@[simp] theorem State.reach_report (s : State) (a : Nat) : (s.reach a).report = s.report := rfl
@[simp] theorem State.reach_pendingHeader (s : State) (a : Nat) : (s.reach a).pendingHeader = s.pendingHeader := rfl
@[simp] theorem State.reach_pendingLegs (s : State) (a : Nat) : (s.reach a).pendingLegs = s.pendingLegs := rfl
@[simp] theorem State.reach_agent (s : State) (a : Nat) : (s.reach a).agent = s.agent := rfl
@[simp] theorem State.reach_bridge (s : State) (a : Nat) : (s.reach a).bridge = s.bridge := rfl
@[simp] theorem State.reach_freeCount (s : State) (a : Nat) : (s.reach a).freeCount = s.freeCount := rfl
@[simp] theorem State.reach_pending (s : State) (a : Nat) : (s.reach a).pending = s.pending := rfl

/-! ### deriveAttention -/

@[simp] theorem State.deriveAttention_resetHeld (s : State) : (s.deriveAttention).resetHeld = s.resetHeld := rfl
@[simp] theorem State.deriveAttention_now (s : State) : (s.deriveAttention).now = s.now := rfl
@[simp] theorem State.deriveAttention_head (s : State) : (s.deriveAttention).head = s.head := rfl
@[simp] theorem State.deriveAttention_resetCause (s : State) : (s.deriveAttention).resetCause = s.resetCause := rfl
@[simp] theorem State.deriveAttention_loadCount (s : State) : (s.deriveAttention).loadCount = s.loadCount := rfl
@[simp] theorem State.deriveAttention_slices (s : State) : (s.deriveAttention).slices = s.slices := rfl
@[simp] theorem State.deriveAttention_tx (s : State) : (s.deriveAttention).tx = s.tx := rfl
@[simp] theorem State.deriveAttention_rx (s : State) : (s.deriveAttention).rx = s.rx := rfl
@[simp] theorem State.deriveAttention_ex (s : State) : (s.deriveAttention).ex = s.ex := rfl
@[simp] theorem State.deriveAttention_legs (s : State) : (s.deriveAttention).legs = s.legs := rfl
@[simp] theorem State.deriveAttention_pendingHeader (s : State) : (s.deriveAttention).pendingHeader = s.pendingHeader := rfl
@[simp] theorem State.deriveAttention_pendingLegs (s : State) : (s.deriveAttention).pendingLegs = s.pendingLegs := rfl
@[simp] theorem State.deriveAttention_agent (s : State) : (s.deriveAttention).agent = s.agent := rfl
@[simp] theorem State.deriveAttention_bridge (s : State) : (s.deriveAttention).bridge = s.bridge := rfl
@[simp] theorem State.deriveAttention_freeCount (s : State) : (s.deriveAttention).freeCount = s.freeCount := rfl
@[simp] theorem State.deriveAttention_pending (s : State) : (s.deriveAttention).pending = s.pending := rfl

/-! ### queueEvent -/

@[simp] theorem State.queueEvent_resetHeld (s : State) (leg : Option LegId) (kind : EventKind) : (s.queueEvent leg kind).resetHeld = s.resetHeld := rfl
@[simp] theorem State.queueEvent_now (s : State) (leg : Option LegId) (kind : EventKind) : (s.queueEvent leg kind).now = s.now := rfl
@[simp] theorem State.queueEvent_head (s : State) (leg : Option LegId) (kind : EventKind) : (s.queueEvent leg kind).head = s.head := rfl
@[simp] theorem State.queueEvent_resetCause (s : State) (leg : Option LegId) (kind : EventKind) : (s.queueEvent leg kind).resetCause = s.resetCause := rfl
@[simp] theorem State.queueEvent_loadCount (s : State) (leg : Option LegId) (kind : EventKind) : (s.queueEvent leg kind).loadCount = s.loadCount := rfl
@[simp] theorem State.queueEvent_slices (s : State) (leg : Option LegId) (kind : EventKind) : (s.queueEvent leg kind).slices = s.slices := rfl
@[simp] theorem State.queueEvent_tx (s : State) (leg : Option LegId) (kind : EventKind) : (s.queueEvent leg kind).tx = s.tx := rfl
@[simp] theorem State.queueEvent_rx (s : State) (leg : Option LegId) (kind : EventKind) : (s.queueEvent leg kind).rx = s.rx := rfl
@[simp] theorem State.queueEvent_ex (s : State) (leg : Option LegId) (kind : EventKind) : (s.queueEvent leg kind).ex = s.ex := rfl
@[simp] theorem State.queueEvent_legs (s : State) (leg : Option LegId) (kind : EventKind) : (s.queueEvent leg kind).legs = s.legs := rfl
@[simp] theorem State.queueEvent_pendingHeader (s : State) (leg : Option LegId) (kind : EventKind) : (s.queueEvent leg kind).pendingHeader = s.pendingHeader := rfl
@[simp] theorem State.queueEvent_pendingLegs (s : State) (leg : Option LegId) (kind : EventKind) : (s.queueEvent leg kind).pendingLegs = s.pendingLegs := rfl
@[simp] theorem State.queueEvent_agent (s : State) (leg : Option LegId) (kind : EventKind) : (s.queueEvent leg kind).agent = s.agent := rfl
@[simp] theorem State.queueEvent_bridge (s : State) (leg : Option LegId) (kind : EventKind) : (s.queueEvent leg kind).bridge = s.bridge := rfl
@[simp] theorem State.queueEvent_freeCount (s : State) (leg : Option LegId) (kind : EventKind) : (s.queueEvent leg kind).freeCount = s.freeCount := rfl
@[simp] theorem State.queueEvent_pending (s : State) (leg : Option LegId) (kind : EventKind) : (s.queueEvent leg kind).pending = s.pending := rfl

/-! ### answer -/

@[simp] theorem State.answer_resetHeld (s : State) (a : SwitchAnswer) : (s.answer a).resetHeld = s.resetHeld := rfl
@[simp] theorem State.answer_now (s : State) (a : SwitchAnswer) : (s.answer a).now = s.now := rfl
@[simp] theorem State.answer_head (s : State) (a : SwitchAnswer) : (s.answer a).head = s.head := rfl
@[simp] theorem State.answer_resetCause (s : State) (a : SwitchAnswer) : (s.answer a).resetCause = s.resetCause := rfl
@[simp] theorem State.answer_loadCount (s : State) (a : SwitchAnswer) : (s.answer a).loadCount = s.loadCount := rfl
@[simp] theorem State.answer_slices (s : State) (a : SwitchAnswer) : (s.answer a).slices = s.slices := rfl
@[simp] theorem State.answer_tx (s : State) (a : SwitchAnswer) : (s.answer a).tx = s.tx := rfl
@[simp] theorem State.answer_rx (s : State) (a : SwitchAnswer) : (s.answer a).rx = s.rx := rfl
@[simp] theorem State.answer_ex (s : State) (a : SwitchAnswer) : (s.answer a).ex = s.ex := rfl
@[simp] theorem State.answer_legs (s : State) (a : SwitchAnswer) : (s.answer a).legs = s.legs := rfl
@[simp] theorem State.answer_report (s : State) (a : SwitchAnswer) : (s.answer a).report = s.report := rfl
@[simp] theorem State.answer_pendingHeader (s : State) (a : SwitchAnswer) : (s.answer a).pendingHeader = s.pendingHeader := rfl
@[simp] theorem State.answer_pendingLegs (s : State) (a : SwitchAnswer) : (s.answer a).pendingLegs = s.pendingLegs := rfl
@[simp] theorem State.answer_agent (s : State) (a : SwitchAnswer) : (s.answer a).agent = s.agent := rfl
@[simp] theorem State.answer_freeCount (s : State) (a : SwitchAnswer) : (s.answer a).freeCount = s.freeCount := rfl
@[simp] theorem State.answer_pending (s : State) (a : SwitchAnswer) : (s.answer a).pending = s.pending := rfl

/-! ### drive -/

@[simp] theorem State.drive_resetHeld (s : State) (acts : List MemAct) : (s.drive acts).resetHeld = s.resetHeld := rfl
@[simp] theorem State.drive_now (s : State) (acts : List MemAct) : (s.drive acts).now = s.now := rfl
@[simp] theorem State.drive_head (s : State) (acts : List MemAct) : (s.drive acts).head = s.head := rfl
@[simp] theorem State.drive_resetCause (s : State) (acts : List MemAct) : (s.drive acts).resetCause = s.resetCause := rfl
@[simp] theorem State.drive_loadCount (s : State) (acts : List MemAct) : (s.drive acts).loadCount = s.loadCount := rfl
@[simp] theorem State.drive_slices (s : State) (acts : List MemAct) : (s.drive acts).slices = s.slices := rfl
@[simp] theorem State.drive_tx (s : State) (acts : List MemAct) : (s.drive acts).tx = s.tx := rfl
@[simp] theorem State.drive_rx (s : State) (acts : List MemAct) : (s.drive acts).rx = s.rx := rfl
@[simp] theorem State.drive_ex (s : State) (acts : List MemAct) : (s.drive acts).ex = s.ex := rfl
@[simp] theorem State.drive_legs (s : State) (acts : List MemAct) : (s.drive acts).legs = s.legs := rfl
@[simp] theorem State.drive_report (s : State) (acts : List MemAct) : (s.drive acts).report = s.report := rfl
@[simp] theorem State.drive_pendingHeader (s : State) (acts : List MemAct) : (s.drive acts).pendingHeader = s.pendingHeader := rfl
@[simp] theorem State.drive_pendingLegs (s : State) (acts : List MemAct) : (s.drive acts).pendingLegs = s.pendingLegs := rfl
@[simp] theorem State.drive_agent (s : State) (acts : List MemAct) : (s.drive acts).agent = s.agent := rfl
@[simp] theorem State.drive_freeCount (s : State) (acts : List MemAct) : (s.drive acts).freeCount = s.freeCount := rfl
@[simp] theorem State.drive_pending (s : State) (acts : List MemAct) : (s.drive acts).pending = s.pending := rfl

/-! ### setPhase -/

@[simp] theorem State.setPhase_resetHeld (s : State) (phase : TxnPhase) : (s.setPhase phase).resetHeld = s.resetHeld := rfl
@[simp] theorem State.setPhase_now (s : State) (phase : TxnPhase) : (s.setPhase phase).now = s.now := rfl
@[simp] theorem State.setPhase_head (s : State) (phase : TxnPhase) : (s.setPhase phase).head = s.head := rfl
@[simp] theorem State.setPhase_resetCause (s : State) (phase : TxnPhase) : (s.setPhase phase).resetCause = s.resetCause := rfl
@[simp] theorem State.setPhase_loadCount (s : State) (phase : TxnPhase) : (s.setPhase phase).loadCount = s.loadCount := rfl
@[simp] theorem State.setPhase_slices (s : State) (phase : TxnPhase) : (s.setPhase phase).slices = s.slices := rfl
@[simp] theorem State.setPhase_tx (s : State) (phase : TxnPhase) : (s.setPhase phase).tx = s.tx := rfl
@[simp] theorem State.setPhase_rx (s : State) (phase : TxnPhase) : (s.setPhase phase).rx = s.rx := rfl
@[simp] theorem State.setPhase_ex (s : State) (phase : TxnPhase) : (s.setPhase phase).ex = s.ex := rfl
@[simp] theorem State.setPhase_legs (s : State) (phase : TxnPhase) : (s.setPhase phase).legs = s.legs := rfl
@[simp] theorem State.setPhase_report (s : State) (phase : TxnPhase) : (s.setPhase phase).report = s.report := rfl
@[simp] theorem State.setPhase_pendingHeader (s : State) (phase : TxnPhase) : (s.setPhase phase).pendingHeader = s.pendingHeader := rfl
@[simp] theorem State.setPhase_pendingLegs (s : State) (phase : TxnPhase) : (s.setPhase phase).pendingLegs = s.pendingLegs := rfl
@[simp] theorem State.setPhase_agent (s : State) (phase : TxnPhase) : (s.setPhase phase).agent = s.agent := rfl
@[simp] theorem State.setPhase_freeCount (s : State) (phase : TxnPhase) : (s.setPhase phase).freeCount = s.freeCount := rfl
@[simp] theorem State.setPhase_pending (s : State) (phase : TxnPhase) : (s.setPhase phase).pending = s.pending := rfl

/-! ### mirrorUnknown -/

@[simp] theorem State.mirrorUnknown_resetHeld (s : State) : (s.mirrorUnknown).resetHeld = s.resetHeld := rfl
@[simp] theorem State.mirrorUnknown_now (s : State) : (s.mirrorUnknown).now = s.now := rfl
@[simp] theorem State.mirrorUnknown_head (s : State) : (s.mirrorUnknown).head = s.head := rfl
@[simp] theorem State.mirrorUnknown_resetCause (s : State) : (s.mirrorUnknown).resetCause = s.resetCause := rfl
@[simp] theorem State.mirrorUnknown_loadCount (s : State) : (s.mirrorUnknown).loadCount = s.loadCount := rfl
@[simp] theorem State.mirrorUnknown_slices (s : State) : (s.mirrorUnknown).slices = s.slices := rfl
@[simp] theorem State.mirrorUnknown_tx (s : State) : (s.mirrorUnknown).tx = s.tx := rfl
@[simp] theorem State.mirrorUnknown_rx (s : State) : (s.mirrorUnknown).rx = s.rx := rfl
@[simp] theorem State.mirrorUnknown_ex (s : State) : (s.mirrorUnknown).ex = s.ex := rfl
@[simp] theorem State.mirrorUnknown_legs (s : State) : (s.mirrorUnknown).legs = s.legs := rfl
@[simp] theorem State.mirrorUnknown_report (s : State) : (s.mirrorUnknown).report = s.report := rfl
@[simp] theorem State.mirrorUnknown_pendingHeader (s : State) : (s.mirrorUnknown).pendingHeader = s.pendingHeader := rfl
@[simp] theorem State.mirrorUnknown_pendingLegs (s : State) : (s.mirrorUnknown).pendingLegs = s.pendingLegs := rfl
@[simp] theorem State.mirrorUnknown_agent (s : State) : (s.mirrorUnknown).agent = s.agent := rfl
@[simp] theorem State.mirrorUnknown_freeCount (s : State) : (s.mirrorUnknown).freeCount = s.freeCount := rfl
@[simp] theorem State.mirrorUnknown_pending (s : State) : (s.mirrorUnknown).pending = s.pending := rfl

/-! ### moveMirror -/

@[simp] theorem State.moveMirror_resetHeld (s : State) (target : BitVec 14) : (s.moveMirror target).resetHeld = s.resetHeld := rfl
@[simp] theorem State.moveMirror_now (s : State) (target : BitVec 14) : (s.moveMirror target).now = s.now := rfl
@[simp] theorem State.moveMirror_head (s : State) (target : BitVec 14) : (s.moveMirror target).head = s.head := rfl
@[simp] theorem State.moveMirror_resetCause (s : State) (target : BitVec 14) : (s.moveMirror target).resetCause = s.resetCause := rfl
@[simp] theorem State.moveMirror_loadCount (s : State) (target : BitVec 14) : (s.moveMirror target).loadCount = s.loadCount := rfl
@[simp] theorem State.moveMirror_slices (s : State) (target : BitVec 14) : (s.moveMirror target).slices = s.slices := rfl
@[simp] theorem State.moveMirror_tx (s : State) (target : BitVec 14) : (s.moveMirror target).tx = s.tx := rfl
@[simp] theorem State.moveMirror_rx (s : State) (target : BitVec 14) : (s.moveMirror target).rx = s.rx := rfl
@[simp] theorem State.moveMirror_ex (s : State) (target : BitVec 14) : (s.moveMirror target).ex = s.ex := rfl
@[simp] theorem State.moveMirror_legs (s : State) (target : BitVec 14) : (s.moveMirror target).legs = s.legs := rfl
@[simp] theorem State.moveMirror_report (s : State) (target : BitVec 14) : (s.moveMirror target).report = s.report := rfl
@[simp] theorem State.moveMirror_pendingHeader (s : State) (target : BitVec 14) : (s.moveMirror target).pendingHeader = s.pendingHeader := rfl
@[simp] theorem State.moveMirror_pendingLegs (s : State) (target : BitVec 14) : (s.moveMirror target).pendingLegs = s.pendingLegs := rfl
@[simp] theorem State.moveMirror_agent (s : State) (target : BitVec 14) : (s.moveMirror target).agent = s.agent := rfl
@[simp] theorem State.moveMirror_freeCount (s : State) (target : BitVec 14) : (s.moveMirror target).freeCount = s.freeCount := rfl
@[simp] theorem State.moveMirror_pending (s : State) (target : BitVec 14) : (s.moveMirror target).pending = s.pending := rfl

/-! ### releasePort -/

@[simp] theorem State.releasePort_resetHeld (s : State) (acts : List MemAct) : (s.releasePort acts).resetHeld = s.resetHeld := rfl
@[simp] theorem State.releasePort_now (s : State) (acts : List MemAct) : (s.releasePort acts).now = s.now := rfl
@[simp] theorem State.releasePort_head (s : State) (acts : List MemAct) : (s.releasePort acts).head = s.head := rfl
@[simp] theorem State.releasePort_resetCause (s : State) (acts : List MemAct) : (s.releasePort acts).resetCause = s.resetCause := rfl
@[simp] theorem State.releasePort_loadCount (s : State) (acts : List MemAct) : (s.releasePort acts).loadCount = s.loadCount := rfl
@[simp] theorem State.releasePort_slices (s : State) (acts : List MemAct) : (s.releasePort acts).slices = s.slices := rfl
@[simp] theorem State.releasePort_tx (s : State) (acts : List MemAct) : (s.releasePort acts).tx = s.tx := rfl
@[simp] theorem State.releasePort_rx (s : State) (acts : List MemAct) : (s.releasePort acts).rx = s.rx := rfl
@[simp] theorem State.releasePort_ex (s : State) (acts : List MemAct) : (s.releasePort acts).ex = s.ex := rfl
@[simp] theorem State.releasePort_legs (s : State) (acts : List MemAct) : (s.releasePort acts).legs = s.legs := rfl
@[simp] theorem State.releasePort_report (s : State) (acts : List MemAct) : (s.releasePort acts).report = s.report := rfl
@[simp] theorem State.releasePort_pendingHeader (s : State) (acts : List MemAct) : (s.releasePort acts).pendingHeader = s.pendingHeader := rfl
@[simp] theorem State.releasePort_pendingLegs (s : State) (acts : List MemAct) : (s.releasePort acts).pendingLegs = s.pendingLegs := rfl
@[simp] theorem State.releasePort_agent (s : State) (acts : List MemAct) : (s.releasePort acts).agent = s.agent := rfl
@[simp] theorem State.releasePort_freeCount (s : State) (acts : List MemAct) : (s.releasePort acts).freeCount = s.freeCount := rfl
@[simp] theorem State.releasePort_pending (s : State) (acts : List MemAct) : (s.releasePort acts).pending = s.pending := rfl

/-! ### endTxn -/

@[simp] theorem State.endTxn_resetHeld (s : State) (acts : List MemAct) (a : SwitchAnswer) : (s.endTxn acts a).resetHeld = s.resetHeld := rfl
@[simp] theorem State.endTxn_now (s : State) (acts : List MemAct) (a : SwitchAnswer) : (s.endTxn acts a).now = s.now := rfl
@[simp] theorem State.endTxn_head (s : State) (acts : List MemAct) (a : SwitchAnswer) : (s.endTxn acts a).head = s.head := rfl
@[simp] theorem State.endTxn_resetCause (s : State) (acts : List MemAct) (a : SwitchAnswer) : (s.endTxn acts a).resetCause = s.resetCause := rfl
@[simp] theorem State.endTxn_loadCount (s : State) (acts : List MemAct) (a : SwitchAnswer) : (s.endTxn acts a).loadCount = s.loadCount := rfl
@[simp] theorem State.endTxn_slices (s : State) (acts : List MemAct) (a : SwitchAnswer) : (s.endTxn acts a).slices = s.slices := rfl
@[simp] theorem State.endTxn_tx (s : State) (acts : List MemAct) (a : SwitchAnswer) : (s.endTxn acts a).tx = s.tx := rfl
@[simp] theorem State.endTxn_rx (s : State) (acts : List MemAct) (a : SwitchAnswer) : (s.endTxn acts a).rx = s.rx := rfl
@[simp] theorem State.endTxn_ex (s : State) (acts : List MemAct) (a : SwitchAnswer) : (s.endTxn acts a).ex = s.ex := rfl
@[simp] theorem State.endTxn_legs (s : State) (acts : List MemAct) (a : SwitchAnswer) : (s.endTxn acts a).legs = s.legs := rfl
@[simp] theorem State.endTxn_report (s : State) (acts : List MemAct) (a : SwitchAnswer) : (s.endTxn acts a).report = s.report := rfl
@[simp] theorem State.endTxn_pendingHeader (s : State) (acts : List MemAct) (a : SwitchAnswer) : (s.endTxn acts a).pendingHeader = s.pendingHeader := rfl
@[simp] theorem State.endTxn_pendingLegs (s : State) (acts : List MemAct) (a : SwitchAnswer) : (s.endTxn acts a).pendingLegs = s.pendingLegs := rfl
@[simp] theorem State.endTxn_agent (s : State) (acts : List MemAct) (a : SwitchAnswer) : (s.endTxn acts a).agent = s.agent := rfl
@[simp] theorem State.endTxn_freeCount (s : State) (acts : List MemAct) (a : SwitchAnswer) : (s.endTxn acts a).freeCount = s.freeCount := rfl
@[simp] theorem State.endTxn_pending (s : State) (acts : List MemAct) (a : SwitchAnswer) : (s.endTxn acts a).pending = s.pending := rfl

/-! ### beginTxn -/

@[simp] theorem State.beginTxn_resetHeld (s : State) (port : Port) (phase : TxnPhase) : (s.beginTxn port phase).resetHeld = s.resetHeld := rfl
@[simp] theorem State.beginTxn_now (s : State) (port : Port) (phase : TxnPhase) : (s.beginTxn port phase).now = s.now := rfl
@[simp] theorem State.beginTxn_head (s : State) (port : Port) (phase : TxnPhase) : (s.beginTxn port phase).head = s.head := rfl
@[simp] theorem State.beginTxn_resetCause (s : State) (port : Port) (phase : TxnPhase) : (s.beginTxn port phase).resetCause = s.resetCause := rfl
@[simp] theorem State.beginTxn_loadCount (s : State) (port : Port) (phase : TxnPhase) : (s.beginTxn port phase).loadCount = s.loadCount := rfl
@[simp] theorem State.beginTxn_slices (s : State) (port : Port) (phase : TxnPhase) : (s.beginTxn port phase).slices = s.slices := rfl
@[simp] theorem State.beginTxn_tx (s : State) (port : Port) (phase : TxnPhase) : (s.beginTxn port phase).tx = s.tx := rfl
@[simp] theorem State.beginTxn_rx (s : State) (port : Port) (phase : TxnPhase) : (s.beginTxn port phase).rx = s.rx := rfl
@[simp] theorem State.beginTxn_ex (s : State) (port : Port) (phase : TxnPhase) : (s.beginTxn port phase).ex = s.ex := rfl
@[simp] theorem State.beginTxn_legs (s : State) (port : Port) (phase : TxnPhase) : (s.beginTxn port phase).legs = s.legs := rfl
@[simp] theorem State.beginTxn_report (s : State) (port : Port) (phase : TxnPhase) : (s.beginTxn port phase).report = s.report := rfl
@[simp] theorem State.beginTxn_pendingHeader (s : State) (port : Port) (phase : TxnPhase) : (s.beginTxn port phase).pendingHeader = s.pendingHeader := rfl
@[simp] theorem State.beginTxn_pendingLegs (s : State) (port : Port) (phase : TxnPhase) : (s.beginTxn port phase).pendingLegs = s.pendingLegs := rfl
@[simp] theorem State.beginTxn_agent (s : State) (port : Port) (phase : TxnPhase) : (s.beginTxn port phase).agent = s.agent := rfl
@[simp] theorem State.beginTxn_freeCount (s : State) (port : Port) (phase : TxnPhase) : (s.beginTxn port phase).freeCount = s.freeCount := rfl
@[simp] theorem State.beginTxn_pending (s : State) (port : Port) (phase : TxnPhase) : (s.beginTxn port phase).pending = s.pending := rfl

/-! ### pastWrite -/

@[simp] theorem State.pastWrite_resetHeld (s : State) : (s.pastWrite).resetHeld = s.resetHeld := rfl
@[simp] theorem State.pastWrite_now (s : State) : (s.pastWrite).now = s.now := rfl
@[simp] theorem State.pastWrite_head (s : State) : (s.pastWrite).head = s.head := rfl
@[simp] theorem State.pastWrite_resetCause (s : State) : (s.pastWrite).resetCause = s.resetCause := rfl
@[simp] theorem State.pastWrite_loadCount (s : State) : (s.pastWrite).loadCount = s.loadCount := rfl
@[simp] theorem State.pastWrite_slices (s : State) : (s.pastWrite).slices = s.slices := rfl
@[simp] theorem State.pastWrite_tx (s : State) : (s.pastWrite).tx = s.tx := rfl
@[simp] theorem State.pastWrite_rx (s : State) : (s.pastWrite).rx = s.rx := rfl
@[simp] theorem State.pastWrite_ex (s : State) : (s.pastWrite).ex = s.ex := rfl
@[simp] theorem State.pastWrite_legs (s : State) : (s.pastWrite).legs = s.legs := rfl
@[simp] theorem State.pastWrite_report (s : State) : (s.pastWrite).report = s.report := rfl
@[simp] theorem State.pastWrite_pendingHeader (s : State) : (s.pastWrite).pendingHeader = s.pendingHeader := rfl
@[simp] theorem State.pastWrite_pendingLegs (s : State) : (s.pastWrite).pendingLegs = s.pendingLegs := rfl
@[simp] theorem State.pastWrite_agent (s : State) : (s.pastWrite).agent = s.agent := rfl
@[simp] theorem State.pastWrite_freeCount (s : State) : (s.pastWrite).freeCount = s.freeCount := rfl
@[simp] theorem State.pastWrite_pending (s : State) : (s.pastWrite).pending = s.pending := rfl

/-! ### popped -/

@[simp] theorem State.popped_resetHeld (s : State) : (s.popped).resetHeld = s.resetHeld := rfl
@[simp] theorem State.popped_now (s : State) : (s.popped).now = s.now := rfl
@[simp] theorem State.popped_head (s : State) : (s.popped).head = s.head := rfl
@[simp] theorem State.popped_resetCause (s : State) : (s.popped).resetCause = s.resetCause := rfl
@[simp] theorem State.popped_loadCount (s : State) : (s.popped).loadCount = s.loadCount := rfl
@[simp] theorem State.popped_slices (s : State) : (s.popped).slices = s.slices := rfl
@[simp] theorem State.popped_tx (s : State) : (s.popped).tx = s.tx := rfl
@[simp] theorem State.popped_rx (s : State) : (s.popped).rx = s.rx := rfl
@[simp] theorem State.popped_ex (s : State) : (s.popped).ex = s.ex := rfl
@[simp] theorem State.popped_legs (s : State) : (s.popped).legs = s.legs := rfl
@[simp] theorem State.popped_report (s : State) : (s.popped).report = s.report := rfl
@[simp] theorem State.popped_pendingHeader (s : State) : (s.popped).pendingHeader = s.pendingHeader := rfl
@[simp] theorem State.popped_pendingLegs (s : State) : (s.popped).pendingLegs = s.pendingLegs := rfl
@[simp] theorem State.popped_agent (s : State) : (s.popped).agent = s.agent := rfl
@[simp] theorem State.popped_bridge (s : State) : (s.popped).bridge = s.bridge := rfl
@[simp] theorem State.popped_freeCount (s : State) : (s.popped).freeCount = s.freeCount := rfl

end Sys2Proof.Machine
end

