-- ==== Sys2Proof/Laws/Lookup.lean ====
section
/-! SUPPORT. What a named read finds after a named update: the value just written, or what stood there. -/

namespace Sys2Proof.Machine

/-! ### Pairs -/

@[simp] theorem Sides.get_set_same {α : Type} (p : Sides α) (x : Side) (v : α) : (p.set x v).get x = v := by cases x <;> rfl

theorem Sides.get_set_ne {α : Type} (p : Sides α) {x y : Side} (v : α) (h : y ≠ x) : (p.set x v).get y = p.get y := by
  cases x <;> cases y <;> first | rfl | exact absurd rfl h

@[simp] theorem Sides.set_get {α : Type} (p : Sides α) (x : Side) : p.set x (p.get x) = p := by cases x <;> rfl

@[simp] theorem ByClass.get_set_same {α : Type} (p : ByClass α) (r : RateClass) (v : α) : (p.set r v).get r = v := by
  cases r <;> rfl

theorem ByClass.get_set_ne {α : Type} (p : ByClass α) {r q : RateClass} (v : α) (h : q ≠ r) :
    (p.set r v).get q = p.get q := by
  cases r <;> cases q <;> first | rfl | exact absurd rfl h

theorem side_opposite_ne (x : Side) : x.opposite ≠ x := by cases x <;> decide

@[simp] theorem side_opposite_opposite (x : Side) : x.opposite.opposite = x := by cases x <;> rfl

/-! ### Exchanges -/

@[simp] theorem State.exch_setExch_same (s : State) (i : Lane) (x : Side) (e : Exchange) : (s.setExch i x e).exch i x = e := by
  simp [State.exch, State.setExch]

theorem State.exch_setExch_ne (s : State) {i j : Lane} {x y : Side} (e : Exchange) (h : (j, y) ≠ (i, x)) :
    (s.setExch i x e).exch j y = s.exch j y := by
  by_cases hj : j = i
  · subst hj
    have hy : y ≠ x := fun k => h (by rw [k])
    simp [State.exch, State.setExch, Sides.get_set_ne _ _ hy]
  · have : i.val ≠ j.val := fun k => hj (Fin.ext k.symm)
    simp [State.exch, State.setExch, this]

@[simp] theorem State.exch_modExch_same (s : State) (i : Lane) (x : Side) (f : Exchange → Exchange) :
    (s.modExch i x f).exch i x = f (s.exch i x) := by simp [State.modExch]

theorem State.exch_modExch_ne (s : State) {i j : Lane} {x y : Side} (f : Exchange → Exchange) (h : (j, y) ≠ (i, x)) :
    (s.modExch i x f).exch j y = s.exch j y := State.exch_setExch_ne s _ h

/-- Writing back what stands there changes nothing. -/
@[simp] theorem State.setExch_exch (s : State) (i : Lane) (x : Side) : s.setExch i x (s.exch i x) = s := by
  simp [State.setExch, State.exch]

/-! ### Paths by slice -/

theorem State.tx_setTxAt_same (s : State) (j : Lane) (x : Side) (p : TxPath) : ((s.setTxAt j x p).tx[j]).get x = p := by
  simp [State.setTxAt]

theorem State.tx_setTxAt_ne (s : State) {j k : Lane} {x y : Side} (p : TxPath) (h : (k, y) ≠ (j, x)) :
    ((s.setTxAt j x p).tx[k]).get y = (s.tx[k]).get y := by
  by_cases hj : k = j
  · subst hj
    have hy : y ≠ x := fun m => h (by rw [m])
    simp [State.setTxAt, Sides.get_set_ne _ _ hy]
  · have : j.val ≠ k.val := fun m => hj (Fin.ext m.symm)
    simp [State.setTxAt, this]

theorem State.rx_setRxAt_same (s : State) (j : Lane) (x : Side) (p : RxPath) : ((s.setRxAt j x p).rx[j]).get x = p := by
  simp [State.setRxAt]

theorem State.rx_setRxAt_ne (s : State) {j k : Lane} {x y : Side} (p : RxPath) (h : (k, y) ≠ (j, x)) :
    ((s.setRxAt j x p).rx[k]).get y = (s.rx[k]).get y := by
  by_cases hj : k = j
  · subst hj
    have hy : y ≠ x := fun m => h (by rw [m])
    simp [State.setRxAt, Sides.get_set_ne _ _ hy]
  · have : j.val ≠ k.val := fun m => hj (Fin.ext m.symm)
    simp [State.setRxAt, this]

/-! ### Paths by lane: where each lane has its own pairing, two lanes never share a path -/

/-- A lane's own path after a change to it. -/
@[simp] theorem State.txPath_modTx_same (s : State) (i : Lane) (x : Side) (f : TxPath → TxPath) :
    (s.modTx i x f).txPath i x = f (s.txPath i x) := State.tx_setTxAt_same s _ x _

@[simp] theorem State.rxPath_modRx_same (s : State) (i : Lane) (x : Side) (f : RxPath → RxPath) :
    (s.modRx i x f).rxPath i x = f (s.rxPath i x) := State.rx_setRxAt_same s _ x _

/-- Under a one-to-one pairing two lanes use different slices on a side (R1, R8). -/
theorem State.phys_ne (s : State) (hp : ∀ j k : Lane, (s.slice j).pair = (s.slice k).pair → j = k) {i j : Lane} {x y : Side}
    (h : (j, y) ≠ (i, x)) : (s.phys j y, y) ≠ (s.phys i x, x) := by
  intro k
  obtain ⟨k1, k2⟩ := Prod.mk.inj k
  subst k2
  apply h
  cases y with
  | s => exact Prod.ext k1 rfl
  | c => exact Prod.ext (hp _ _ k1) rfl

theorem State.txPath_modTx_ne (s : State) (hp : ∀ j k : Lane, (s.slice j).pair = (s.slice k).pair → j = k) {i j : Lane}
    {x y : Side} (f : TxPath → TxPath) (h : (j, y) ≠ (i, x)) : (s.modTx i x f).txPath j y = s.txPath j y :=
  State.tx_setTxAt_ne s _ (s.phys_ne hp h)

theorem State.rxPath_modRx_ne (s : State) (hp : ∀ j k : Lane, (s.slice j).pair = (s.slice k).pair → j = k) {i j : Lane}
    {x y : Side} (f : RxPath → RxPath) (h : (j, y) ≠ (i, x)) : (s.modRx i x f).rxPath j y = s.rxPath j y :=
  State.rx_setRxAt_ne s _ (s.phys_ne hp h)

/-! ### Legs and slices -/

@[simp] theorem State.leg_setLeg_same (s : State) (n : LegId) (l : Leg) : (s.setLeg n l).leg n = l := by
  simp [State.leg, State.setLeg]

theorem State.leg_setLeg_ne (s : State) {m n : LegId} (l : Leg) (h : m ≠ n) : (s.setLeg n l).leg m = s.leg m := by
  have : n.val ≠ m.val := fun k => h (Fin.ext k.symm)
  simp [State.leg, State.setLeg, this]

@[simp] theorem State.leg_modLeg_same (s : State) (n : LegId) (f : Leg → Leg) : (s.modLeg n f).leg n = f (s.leg n) := by
  simp [State.modLeg]

theorem State.leg_modLeg_ne (s : State) {m n : LegId} (f : Leg → Leg) (h : m ≠ n) : (s.modLeg n f).leg m = s.leg m :=
  State.leg_setLeg_ne s _ h

/-- Writing back what stands there changes nothing. -/
@[simp] theorem State.setLeg_leg (s : State) (n : LegId) : s.setLeg n (s.leg n) = s := by simp [State.setLeg, State.leg]

@[simp] theorem State.slice_setSlice_same (s : State) (i : Lane) (d : Slice) : (s.setSlice i d).slice i = d := by
  simp [State.slice, State.setSlice]

theorem State.slice_setSlice_ne (s : State) {i j : Lane} (d : Slice) (h : j ≠ i) : (s.setSlice i d).slice j = s.slice j := by
  have : i.val ≠ j.val := fun k => h (Fin.ext k.symm)
  simp [State.slice, State.setSlice, this]

/-! ### Reads that depend on a few fields alone -/

theorem State.exch_congr {s t : State} (h : t.ex = s.ex) (i : Lane) (x : Side) : t.exch i x = s.exch i x := by
  simp only [State.exch, h]

theorem State.leg_congr {s t : State} (h : t.legs = s.legs) (n : LegId) : t.leg n = s.leg n := by simp only [State.leg, h]

theorem State.slice_congr {s t : State} (h : t.slices = s.slices) (i : Lane) : t.slice i = s.slice i := by
  simp only [State.slice, h]

theorem State.owner_congr {s t : State} (h : t.slices = s.slices) (i : Lane) : t.owner i = s.owner i := by
  simp only [State.owner, State.slice, h]

theorem State.phys_congr {s t : State} (h : t.slices = s.slices) (i : Lane) (x : Side) : t.phys i x = s.phys i x := by
  cases x <;> simp only [State.phys, State.slice, h]

theorem State.legLanes_congr {s t : State} (h : t.slices = s.slices) (n : LegId) : t.legLanes n = s.legLanes n := by
  simp only [State.legLanes, State.owner, State.slice, h]

theorem State.txPath_congr {s t : State} (h : t.tx = s.tx) (k : t.slices = s.slices) (i : Lane) (x : Side) :
    t.txPath i x = s.txPath i x := by simp only [State.txPath, h, State.phys_congr k]

theorem State.rxPath_congr {s t : State} (h : t.rx = s.rx) (k : t.slices = s.slices) (i : Lane) (x : Side) :
    t.rxPath i x = s.rxPath i x := by simp only [State.rxPath, h, State.phys_congr k]

/-! ### Reads that an update does not reach -/

@[simp] theorem State.leg_of_setExch (s : State) (i : Lane) (x : Side) (e : Exchange) (m : LegId) : (s.setExch i x e).leg m = s.leg m := rfl
@[simp] theorem State.slice_of_setExch (s : State) (i : Lane) (x : Side) (e : Exchange) (j : Lane) : (s.setExch i x e).slice j = s.slice j := rfl
@[simp] theorem State.owner_of_setExch (s : State) (i : Lane) (x : Side) (e : Exchange) (j : Lane) : (s.setExch i x e).owner j = s.owner j := rfl
@[simp] theorem State.txPath_of_setExch (s : State) (i : Lane) (x : Side) (e : Exchange) (j : Lane) (y : Side) : (s.setExch i x e).txPath j y = s.txPath j y := rfl
@[simp] theorem State.rxPath_of_setExch (s : State) (i : Lane) (x : Side) (e : Exchange) (j : Lane) (y : Side) : (s.setExch i x e).rxPath j y = s.rxPath j y := rfl
@[simp] theorem State.legLanes_of_setExch (s : State) (i : Lane) (x : Side) (e : Exchange) (m : LegId) : (s.setExch i x e).legLanes m = s.legLanes m := rfl

@[simp] theorem State.leg_of_modExch (s : State) (i : Lane) (x : Side) (f : Exchange → Exchange) (m : LegId) : (s.modExch i x f).leg m = s.leg m := rfl
@[simp] theorem State.slice_of_modExch (s : State) (i : Lane) (x : Side) (f : Exchange → Exchange) (j : Lane) : (s.modExch i x f).slice j = s.slice j := rfl
@[simp] theorem State.owner_of_modExch (s : State) (i : Lane) (x : Side) (f : Exchange → Exchange) (j : Lane) : (s.modExch i x f).owner j = s.owner j := rfl
@[simp] theorem State.txPath_of_modExch (s : State) (i : Lane) (x : Side) (f : Exchange → Exchange) (j : Lane) (y : Side) : (s.modExch i x f).txPath j y = s.txPath j y := rfl
@[simp] theorem State.rxPath_of_modExch (s : State) (i : Lane) (x : Side) (f : Exchange → Exchange) (j : Lane) (y : Side) : (s.modExch i x f).rxPath j y = s.rxPath j y := rfl
@[simp] theorem State.legLanes_of_modExch (s : State) (i : Lane) (x : Side) (f : Exchange → Exchange) (m : LegId) : (s.modExch i x f).legLanes m = s.legLanes m := rfl

@[simp] theorem State.exch_of_modTx (s : State) (i : Lane) (x : Side) (f : TxPath → TxPath) (j : Lane) (y : Side) : (s.modTx i x f).exch j y = s.exch j y := rfl
@[simp] theorem State.laneState_of_modTx (s : State) (i : Lane) (x : Side) (f : TxPath → TxPath) (j : Lane) (y : Side) : (s.modTx i x f).laneState j y = s.laneState j y := rfl
@[simp] theorem State.leg_of_modTx (s : State) (i : Lane) (x : Side) (f : TxPath → TxPath) (m : LegId) : (s.modTx i x f).leg m = s.leg m := rfl
@[simp] theorem State.slice_of_modTx (s : State) (i : Lane) (x : Side) (f : TxPath → TxPath) (j : Lane) : (s.modTx i x f).slice j = s.slice j := rfl
@[simp] theorem State.owner_of_modTx (s : State) (i : Lane) (x : Side) (f : TxPath → TxPath) (j : Lane) : (s.modTx i x f).owner j = s.owner j := rfl
@[simp] theorem State.rxPath_of_modTx (s : State) (i : Lane) (x : Side) (f : TxPath → TxPath) (j : Lane) (y : Side) : (s.modTx i x f).rxPath j y = s.rxPath j y := rfl
@[simp] theorem State.legLanes_of_modTx (s : State) (i : Lane) (x : Side) (f : TxPath → TxPath) (m : LegId) : (s.modTx i x f).legLanes m = s.legLanes m := rfl

@[simp] theorem State.exch_of_modRx (s : State) (i : Lane) (x : Side) (f : RxPath → RxPath) (j : Lane) (y : Side) : (s.modRx i x f).exch j y = s.exch j y := rfl
@[simp] theorem State.laneState_of_modRx (s : State) (i : Lane) (x : Side) (f : RxPath → RxPath) (j : Lane) (y : Side) : (s.modRx i x f).laneState j y = s.laneState j y := rfl
@[simp] theorem State.leg_of_modRx (s : State) (i : Lane) (x : Side) (f : RxPath → RxPath) (m : LegId) : (s.modRx i x f).leg m = s.leg m := rfl
@[simp] theorem State.slice_of_modRx (s : State) (i : Lane) (x : Side) (f : RxPath → RxPath) (j : Lane) : (s.modRx i x f).slice j = s.slice j := rfl
@[simp] theorem State.owner_of_modRx (s : State) (i : Lane) (x : Side) (f : RxPath → RxPath) (j : Lane) : (s.modRx i x f).owner j = s.owner j := rfl
@[simp] theorem State.txPath_of_modRx (s : State) (i : Lane) (x : Side) (f : RxPath → RxPath) (j : Lane) (y : Side) : (s.modRx i x f).txPath j y = s.txPath j y := rfl
@[simp] theorem State.legLanes_of_modRx (s : State) (i : Lane) (x : Side) (f : RxPath → RxPath) (m : LegId) : (s.modRx i x f).legLanes m = s.legLanes m := rfl

@[simp] theorem State.exch_of_modLeg (s : State) (n : LegId) (f : Leg → Leg) (j : Lane) (y : Side) : (s.modLeg n f).exch j y = s.exch j y := rfl
@[simp] theorem State.laneState_of_modLeg (s : State) (n : LegId) (f : Leg → Leg) (j : Lane) (y : Side) : (s.modLeg n f).laneState j y = s.laneState j y := rfl
@[simp] theorem State.slice_of_modLeg (s : State) (n : LegId) (f : Leg → Leg) (j : Lane) : (s.modLeg n f).slice j = s.slice j := rfl
@[simp] theorem State.owner_of_modLeg (s : State) (n : LegId) (f : Leg → Leg) (j : Lane) : (s.modLeg n f).owner j = s.owner j := rfl
@[simp] theorem State.txPath_of_modLeg (s : State) (n : LegId) (f : Leg → Leg) (j : Lane) (y : Side) : (s.modLeg n f).txPath j y = s.txPath j y := rfl
@[simp] theorem State.rxPath_of_modLeg (s : State) (n : LegId) (f : Leg → Leg) (j : Lane) (y : Side) : (s.modLeg n f).rxPath j y = s.rxPath j y := rfl
@[simp] theorem State.legLanes_of_modLeg (s : State) (n : LegId) (f : Leg → Leg) (m : LegId) : (s.modLeg n f).legLanes m = s.legLanes m := rfl

@[simp] theorem State.exch_of_setSlice (s : State) (i : Lane) (d : Slice) (j : Lane) (y : Side) : (s.setSlice i d).exch j y = s.exch j y := rfl
@[simp] theorem State.laneState_of_setSlice (s : State) (i : Lane) (d : Slice) (j : Lane) (y : Side) : (s.setSlice i d).laneState j y = s.laneState j y := rfl
@[simp] theorem State.leg_of_setSlice (s : State) (i : Lane) (d : Slice) (m : LegId) : (s.setSlice i d).leg m = s.leg m := rfl

@[simp] theorem State.exch_of_reach (s : State) (a : Nat) (j : Lane) (y : Side) : (s.reach a).exch j y = s.exch j y := rfl
@[simp] theorem State.laneState_of_reach (s : State) (a : Nat) (j : Lane) (y : Side) : (s.reach a).laneState j y = s.laneState j y := rfl
@[simp] theorem State.leg_of_reach (s : State) (a : Nat) (m : LegId) : (s.reach a).leg m = s.leg m := rfl
@[simp] theorem State.slice_of_reach (s : State) (a : Nat) (j : Lane) : (s.reach a).slice j = s.slice j := rfl
@[simp] theorem State.owner_of_reach (s : State) (a : Nat) (j : Lane) : (s.reach a).owner j = s.owner j := rfl
@[simp] theorem State.txPath_of_reach (s : State) (a : Nat) (j : Lane) (y : Side) : (s.reach a).txPath j y = s.txPath j y := rfl
@[simp] theorem State.rxPath_of_reach (s : State) (a : Nat) (j : Lane) (y : Side) : (s.reach a).rxPath j y = s.rxPath j y := rfl
@[simp] theorem State.legLanes_of_reach (s : State) (a : Nat) (m : LegId) : (s.reach a).legLanes m = s.legLanes m := rfl

@[simp] theorem State.exch_of_queueEvent (s : State) (leg : Option LegId) (kind : EventKind) (j : Lane) (y : Side) : (s.queueEvent leg kind).exch j y = s.exch j y := rfl
@[simp] theorem State.laneState_of_queueEvent (s : State) (leg : Option LegId) (kind : EventKind) (j : Lane) (y : Side) : (s.queueEvent leg kind).laneState j y = s.laneState j y := rfl
@[simp] theorem State.leg_of_queueEvent (s : State) (leg : Option LegId) (kind : EventKind) (m : LegId) : (s.queueEvent leg kind).leg m = s.leg m := rfl
@[simp] theorem State.slice_of_queueEvent (s : State) (leg : Option LegId) (kind : EventKind) (j : Lane) : (s.queueEvent leg kind).slice j = s.slice j := rfl
@[simp] theorem State.owner_of_queueEvent (s : State) (leg : Option LegId) (kind : EventKind) (j : Lane) : (s.queueEvent leg kind).owner j = s.owner j := rfl
@[simp] theorem State.txPath_of_queueEvent (s : State) (leg : Option LegId) (kind : EventKind) (j : Lane) (y : Side) : (s.queueEvent leg kind).txPath j y = s.txPath j y := rfl
@[simp] theorem State.rxPath_of_queueEvent (s : State) (leg : Option LegId) (kind : EventKind) (j : Lane) (y : Side) : (s.queueEvent leg kind).rxPath j y = s.rxPath j y := rfl
@[simp] theorem State.legLanes_of_queueEvent (s : State) (leg : Option LegId) (kind : EventKind) (m : LegId) : (s.queueEvent leg kind).legLanes m = s.legLanes m := rfl

@[simp] theorem State.exch_of_deriveAttention (s : State) (j : Lane) (y : Side) : (s.deriveAttention).exch j y = s.exch j y := rfl
@[simp] theorem State.laneState_of_deriveAttention (s : State) (j : Lane) (y : Side) : (s.deriveAttention).laneState j y = s.laneState j y := rfl
@[simp] theorem State.leg_of_deriveAttention (s : State) (m : LegId) : (s.deriveAttention).leg m = s.leg m := rfl
@[simp] theorem State.slice_of_deriveAttention (s : State) (j : Lane) : (s.deriveAttention).slice j = s.slice j := rfl
@[simp] theorem State.owner_of_deriveAttention (s : State) (j : Lane) : (s.deriveAttention).owner j = s.owner j := rfl
@[simp] theorem State.txPath_of_deriveAttention (s : State) (j : Lane) (y : Side) : (s.deriveAttention).txPath j y = s.txPath j y := rfl
@[simp] theorem State.rxPath_of_deriveAttention (s : State) (j : Lane) (y : Side) : (s.deriveAttention).rxPath j y = s.rxPath j y := rfl
@[simp] theorem State.legLanes_of_deriveAttention (s : State) (m : LegId) : (s.deriveAttention).legLanes m = s.legLanes m := rfl

/-- Every lane is in the list of lanes. -/
theorem mem_allLanes (i : Lane) : i ∈ allLanes := by revert i; decide

/-- Every leg is in the list of legs. -/
theorem mem_allLegs (n : LegId) : n ∈ allLegs := by revert n; decide

/-- A leg's lanes are the lanes it owns. -/
@[simp] theorem State.mem_legLanes (s : State) (n : LegId) (i : Lane) : i ∈ s.legLanes n ↔ s.owner i = some n := by
  simp [State.legLanes, mem_allLanes]

end Sys2Proof.Machine
end

