-- ==== Sys2Proof/Laws/Frames.lean ====
section
/-! SUPPORT. What each shared operation can touch at all, said once: the report unit and the leg records, the lanes and their
paths, the supervisor's part of the state, the bridge. -/

namespace Sys2Proof.Machine

/-! ### Four kinds of change -/

/-- Only the report unit and the leg records differ. -/
def State.ReportMoves (s t : State) : Prop := t = { s with report := t.report, legs := t.legs }

/-- Only the lanes' exchanges and paths and the leg records differ. -/
def State.LanesMove (s t : State) : Prop := t = { s with tx := t.tx, rx := t.rx, ex := t.ex, legs := t.legs }

/-- Only what the supervisor works on differs: slices, lanes and paths, leg records, report unit, failure records, and the
counter of free choices. -/
def State.SupervisorMoves (s t : State) : Prop :=
  t = { s with slices := t.slices, tx := t.tx, rx := t.rx, ex := t.ex, legs := t.legs, report := t.report
               agent := t.agent, freeCount := t.freeCount }

/-- Only the bridge differs. -/
def State.BridgeMoves (s t : State) : Prop := t = { s with bridge := t.bridge }

theorem State.ReportMoves.refl (s : State) : s.ReportMoves s := rfl

theorem State.ReportMoves.trans {s t u : State} (h : s.ReportMoves t) (k : t.ReportMoves u) : s.ReportMoves u := by
  unfold State.ReportMoves at *
  rw [k, h]

theorem State.LanesMove.refl (s : State) : s.LanesMove s := rfl

theorem State.LanesMove.trans {s t u : State} (h : s.LanesMove t) (k : t.LanesMove u) : s.LanesMove u := by
  unfold State.LanesMove at *
  rw [k, h]

theorem State.SupervisorMoves.refl (s : State) : s.SupervisorMoves s := rfl

theorem State.SupervisorMoves.trans {s t u : State} (h : s.SupervisorMoves t) (k : t.SupervisorMoves u) :
    s.SupervisorMoves u := by
  unfold State.SupervisorMoves at *
  rw [k, h]

theorem State.ReportMoves.supervisor {s t : State} (h : s.ReportMoves t) : s.SupervisorMoves t := by
  unfold State.ReportMoves at h
  unfold State.SupervisorMoves
  rw [h]

theorem State.LanesMove.supervisor {s t : State} (h : s.LanesMove t) : s.SupervisorMoves t := by
  unfold State.LanesMove at h
  unfold State.SupervisorMoves
  rw [h]

theorem State.LanesMove.slices {s t : State} (h : s.LanesMove t) : t.slices = s.slices := by
  unfold State.LanesMove at h
  rw [h]

theorem State.ReportMoves.slices {s t : State} (h : s.ReportMoves t) : t.slices = s.slices := by
  unfold State.ReportMoves at h
  rw [h]

/-! ### Loops over lanes -/

/-- What every turn of a loop over lanes keeps, the loop keeps. -/
theorem State.onLanes_induct {P : State → Prop} (f : Lane → State → State) (hf : ∀ i t, P t → P (f i t)) (lanes : List Lane)
    {s : State} (hs : P s) : P (s.onLanes lanes f) := by
  unfold State.onLanes
  induction lanes generalizing s with
  | nil => exact hs
  | cons i rest ih => exact ih (hf i s hs)

/-- What every turn of a loop over exchanges keeps, the loop keeps. -/
theorem State.onExchanges_induct {P : State → Prop} (f : Lane → Side → State → State) (hf : ∀ i x t, P t → P (f i x t))
    (lanes : List Lane) {s : State} (hs : P s) : P (s.onExchanges lanes f) :=
  State.onLanes_induct _ (fun i t h => hf i .c _ (hf i .s t h)) lanes hs

theorem State.onExchanges_lanes (s : State) (lanes : List Lane) (f : Lane → Side → State → State)
    (hf : ∀ (i : Lane) (x : Side) (t : State), t.LanesMove (f i x t)) : s.LanesMove (s.onExchanges lanes f) :=
  State.onExchanges_induct f (fun i x t h => h.trans (hf i x t)) lanes (.refl s)

/-! ### The report unit -/

theorem State.queueEvent_moves (s : State) (leg : Option LegId) (kind : EventKind) : s.ReportMoves (s.queueEvent leg kind) := rfl

theorem State.queueLegState_moves (s : State) (n : LegId) (before after : LegState) (cause : LegCause) :
    s.ReportMoves (s.queueLegState n before after cause) := rfl

theorem State.setCondition_moves (s : State) (owner : Option LegId) (code : FaultCode) (b : Bool) :
    s.ReportMoves (s.setCondition owner code b) := by cases owner <;> cases code <;> rfl

theorem State.raiseFault_moves (s : State) (owner : Option LegId) (code : FaultCode) (detail : Byte) :
    s.ReportMoves (s.raiseFault owner code detail) := by
  unfold State.raiseFault
  exact (s.setCondition_moves owner code true).trans rfl

theorem State.endCondition_moves (s : State) (owner : Option LegId) (code : FaultCode) :
    s.ReportMoves (s.endCondition owner code) := by
  unfold State.endCondition
  have hs := s.setCondition_moves owner code false
  dsimp only
  split
  · split
    · exact hs
    · split
      · exact hs.trans rfl
      · exact hs.trans rfl
  · exact .refl s

theorem State.marginCheck_moves (s : State) (n : LegId) : s.ReportMoves (s.marginCheck n) := by
  unfold State.marginCheck
  split
  · split
    · exact .refl s
    · exact s.raiseFault_moves _ _ _
  · exact s.endCondition_moves _ _

theorem State.endAttemptConditions_moves (s : State) (n : LegId) : s.ReportMoves (s.endAttemptConditions n) :=
  ((s.endCondition_moves _ _).trans (State.endCondition_moves _ _ _)).trans (State.endCondition_moves _ _ _)

theorem State.reportTake_moves (s : State) (n : LegId) (result : TakeResult) : s.ReportMoves (s.reportTake n result) := by
  cases result
  · exact s.endCondition_moves _ _
  · exact (s.queueEvent_moves _ _).trans (State.raiseFault_moves _ _ _ _)
  · exact (s.queueEvent_moves _ _).trans (State.endCondition_moves _ _ _)

theorem State.reportFailure_moves (s : State) (n : LegId) (before : LegState) (cause : LegCause) (code : FaultCode)
    (failure : LastFailure) : s.ReportMoves (s.reportFailure n before cause code failure) := by
  unfold State.reportFailure
  dsimp only
  refine .trans ?_ (State.marginCheck_moves _ n)
  split
  · exact ((s.queueLegState_moves _ _ _ _).trans (State.raiseFault_moves _ _ _ _)).trans (State.raiseFault_moves _ _ _ _)
  · exact (s.queueLegState_moves _ _ _ _).trans (State.raiseFault_moves _ _ _ _)

/-! ### Lanes -/

theorem State.modLeg_moves (s : State) (n : LegId) (f : Leg → Leg) : s.LanesMove (s.modLeg n f) := rfl

theorem State.clearRelease_moves (s : State) (i : Lane) (x : Side) : s.LanesMove (s.clearRelease i x) := by
  unfold State.clearRelease
  split <;> rfl

theorem State.clearKept_moves (s : State) (i : Lane) (x : Side) : s.LanesMove (s.clearKept i x) := by
  unfold State.clearKept
  split <;> rfl

theorem State.leaveService_moves (s : State) (i : Lane) (x : Side) : s.LanesMove (s.leaveService i x) := by
  unfold State.leaveService
  dsimp only
  split
  · exact State.LanesMove.trans (t := s.modTx i x fun p => { p with line := p.line.stopService }) rfl
      (.trans (t := (s.modTx i x fun p => { p with line := p.line.stopService }).modRx i x fun r => { r with eye := r.eye.leave })
        rfl (State.clearKept_moves _ i x))
  · rfl

theorem State.enterListen_moves (s : State) (i : Lane) (x : Side) : s.LanesMove (s.enterListen i x) := by
  unfold State.enterListen
  exact ((s.leaveService_moves i x).trans (State.clearRelease_moves _ i x)).trans rfl

theorem State.enterQuiet_moves (s : State) (i : Lane) (x : Side) : s.LanesMove (s.enterQuiet i x) := by
  unfold State.enterQuiet
  exact ((s.leaveService_moves i x).trans (State.clearRelease_moves _ i x)).trans rfl

theorem State.enterTune_moves (s : State) (i : Lane) (x : Side) : s.LanesMove (s.enterTune i x) := rfl

theorem State.enterReady_moves (s : State) (i : Lane) (x : Side) : s.LanesMove (s.enterReady i x) := rfl

theorem State.enterCount_moves (s : State) (i : Lane) (x : Side) : s.LanesMove (s.enterCount i x) := rfl

theorem State.enterData_moves (s : State) (i : Lane) (x : Side) : s.LanesMove (s.enterData i x) := rfl

theorem State.returnToTune_moves (s : State) (i : Lane) (x : Side) (cause : ReturnCause) :
    s.LanesMove (s.returnToTune i x cause) := by
  unfold State.returnToTune
  dsimp only
  split
  · exact ((s.leaveService_moves i x).trans (State.clearRelease_moves _ i x)).trans rfl
  · exact ((s.leaveService_moves i x).trans (State.clearRelease_moves _ i x)).trans rfl

theorem State.dataIfBoth_moves (s : State) (i : Lane) (x : Side) : s.LanesMove (s.dataIfBoth i x) := by
  unfold State.dataIfBoth
  split
  · exact s.enterData_moves i x
  · exact .refl s

theorem State.deriveOrder_moves (s : State) (n : LegId) (i : Lane) (x : Side) : s.LanesMove (s.deriveOrder n i x) := by
  unfold State.deriveOrder
  dsimp only
  split <;> rfl

theorem State.deriveOrders_moves (s : State) (n : LegId) : s.LanesMove (s.deriveOrders n) :=
  s.onExchanges_lanes _ _ fun i x t => t.deriveOrder_moves n i x

theorem State.startLeg_moves (s : State) (n : LegId) : s.LanesMove (s.startLeg n) :=
  s.onExchanges_lanes _ _ fun i x t => t.enterListen_moves i x

theorem State.quietLeg_moves (s : State) (n : LegId) : s.LanesMove (s.quietLeg n) :=
  s.onExchanges_lanes _ _ fun i x t => t.enterQuiet_moves i x

theorem State.legLeavesService_moves (s : State) (n : LegId) : s.LanesMove (s.legLeavesService n) :=
  s.onExchanges_lanes _ _ fun i x t => t.leaveService_moves i x

theorem State.startSide_moves (s : State) (n : LegId) (x : Side) : s.LanesMove (s.startSide n x) :=
  State.onLanes_induct _ (fun i t h => h.trans (t.enterListen_moves i x)) _ (.refl s)

theorem State.zeroRestarts_moves (s : State) (n : LegId) : s.LanesMove (s.zeroRestarts n) :=
  s.onExchanges_lanes _ _ fun _ _ _ => rfl

theorem State.releaseTest_moves (s : State) (n : LegId) : s.LanesMove (s.releaseTest n) := by
  unfold State.releaseTest
  dsimp only
  split <;> rfl

/-! ### The supervisor -/

theorem State.enterTraining_moves (s : State) (n : LegId) (cause : LegCause) : s.SupervisorMoves (s.enterTraining n cause) := by
  unfold State.enterTraining
  have h := (s.modLeg_moves n fun l => { l with state := .training, budget := some (s.now + 10000 * l.profile.budget) }).trans
    (State.zeroRestarts_moves _ n)
  exact h.supervisor.trans (State.queueLegState_moves _ n _ _ cause).supervisor

theorem State.trainingTest_moves (s : State) (n : LegId) : s.SupervisorMoves (s.trainingTest n) := by
  unfold State.trainingTest
  split
  · exact s.enterTraining_moves n _
  · exact .refl s

theorem State.enterUp_moves (s : State) (n : LegId) : s.SupervisorMoves (s.enterUp n) := by
  unfold State.enterUp
  exact ((s.modLeg_moves n _).supervisor.trans (State.endAttemptConditions_moves _ n).supervisor).trans
    (State.queueLegState_moves _ n _ _ _).supervisor

theorem State.upTest_moves (s : State) (n : LegId) : s.SupervisorMoves (s.upTest n) := by
  unfold State.upTest
  split
  · exact s.enterUp_moves n
  · exact .refl s

/-- A report of a lane's move reaches the supervisor's part of the state alone (R82). -/
theorem State.laneReport_moves (s : State) (n : LegId) : s.SupervisorMoves (s.laneReport n) :=
  ((((s.trainingTest_moves n).trans (State.releaseTest_moves _ n).supervisor).trans (State.upTest_moves _ n)).trans
    (State.deriveOrders_moves _ n).supervisor).trans (State.marginCheck_moves _ n).supervisor

theorem State.requestRecord_moves (s : State) (n : LegId) (cause : FaultCode) (before : LegState) :
    s.SupervisorMoves (s.requestRecord n cause before) := by
  unfold State.requestRecord
  split <;> rfl

theorem State.inEitherOrder_moves (s : State) (f g : State → State) (hf : ∀ t : State, t.SupervisorMoves (f t))
    (hg : ∀ t : State, t.SupervisorMoves (g t)) : s.SupervisorMoves (s.inEitherOrder f g) := by
  unfold State.inEitherOrder
  have h : s.SupervisorMoves { s with freeCount := s.freeCount + 1 } := rfl
  dsimp only
  split
  · exact (h.trans (hg _)).trans (hf _)
  · exact (h.trans (hf _)).trans (hg _)

theorem State.askAndReport_moves (s : State) (n : LegId) (cause : FaultCode) (before : LegState) (report : State → State)
    (hr : ∀ t : State, t.SupervisorMoves (report t)) : s.SupervisorMoves (s.askAndReport n cause before report) := by
  unfold State.askAndReport
  split
  · exact (s.requestRecord_moves n cause before).trans (hr _)
  · exact s.inEitherOrder_moves _ _ hr fun t => t.requestRecord_moves n cause before

theorem State.failAttempt_moves (s : State) (n : LegId) (cause : LegCause) (code : FaultCode) (failure : LastFailure) :
    s.SupervisorMoves (s.failAttempt n cause code failure) := by
  unfold State.failAttempt
  dsimp only
  have ht : s.SupervisorMoves (((s.quietLeg n).modLeg n fun l => l.afterFailure failure s.now).deriveOrders n) :=
    (((s.quietLeg_moves n).trans (State.modLeg_moves _ n _)).trans (State.deriveOrders_moves _ n)).supervisor
  have hr : ∀ t : State, t.SupervisorMoves (t.reportFailure n (s.leg n).state cause code failure) :=
    fun t => (t.reportFailure_moves n _ _ _ _).supervisor
  split
  · exact ht.trans (State.askAndReport_moves _ n _ _ _ hr)
  · split
    · exact ht.trans (State.askAndReport_moves _ n _ _ _ hr)
    · exact ht.trans (hr _)

theorem State.laneFailure_moves (s : State) (n : LegId) (i : Lane) (x : Side) (reason : LaneFailReason) :
    s.SupervisorMoves (s.laneFailure n i x reason) := by
  unfold State.laneFailure
  split
  · exact s.failAttempt_moves n _ _ _
  · exact (s.enterListen_moves i x).supervisor

theorem State.reportIfMoved_moves {s t : State} (n : LegId) (i : Lane) (x : Side) (h : s.SupervisorMoves t) :
    s.SupervisorMoves (s.reportIfMoved t n i x) := by
  unfold State.reportIfMoved
  split
  · exact h
  · exact h.trans (t.laneReport_moves n)

/-! ### The bridge -/

theorem State.BridgeMoves.refl (s : State) : s.BridgeMoves s := rfl

theorem State.BridgeMoves.trans {s t u : State} (h : s.BridgeMoves t) (k : t.BridgeMoves u) : s.BridgeMoves u := by
  unfold State.BridgeMoves at *
  rw [k, h]

theorem State.endAbnormally_moves (s : State) (acts : List MemAct) : s.BridgeMoves (s.endAbnormally acts) := by
  unfold State.endAbnormally
  dsimp only
  split <;> rfl

theorem State.switchStarts_moves (s : State) : s.BridgeMoves s.switchStarts := by
  unfold State.switchStarts
  split
  · rfl
  · split <;> rfl

theorem State.givePort_moves (s : State) : s.BridgeMoves s.givePort := by
  unfold State.givePort
  split
  · rfl
  · split <;> rfl

theorem State.beginWrite_moves (s : State) (memAck : Bool) : s.BridgeMoves (s.beginWrite memAck) := by
  unfold State.beginWrite
  split
  · rfl
  · rfl
  · split <;> rfl

theorem State.setPointers_moves (s : State) (a : BusAddr) : s.BridgeMoves (s.setPointers a) := by
  unfold State.setPointers
  dsimp only
  split
  · split <;> rfl
  · rfl

theorem State.wordArrives_moves (s : State) (high low : WordByte) : s.BridgeMoves (s.wordArrives high low) := by
  unfold State.wordArrives
  split
  · split
    · rfl
    · split
      · exact s.endAbnormally_moves _
      · split
        · exact s.endAbnormally_moves _
        · exact s.setPointers_moves _
  · rfl

theorem State.beginRead_moves (s : State) (answer : MemAnswer) : s.BridgeMoves (s.beginRead answer) := by
  unfold State.beginRead
  split
  · rfl
  · rfl
  · rfl
  · rfl
  · split
    · split <;> rfl
    · split <;> rfl

theorem State.forwardedByte_moves (s : State) (v : Byte) (switchAck : Bool) :
    s.BridgeMoves (s.forwardedByte v switchAck) := by
  unfold State.forwardedByte
  split <;> rfl

/-- A written byte moves the bridge alone where its taking does: discarded, taken in its phase, or out of place. -/
theorem State.writtenByte_moves (s : State) (phase : TxnPhase) (take : State → State) (h : s.BridgeMoves (take s)) :
    s.BridgeMoves (s.writtenByte phase take) := by
  unfold State.writtenByte
  split
  · rfl
  · split
    · exact h
    · rfl

theorem State.liveByte_moves (s : State) (v : Byte) : s.BridgeMoves (s.liveByte v) := s.writtenByte_moves _ _ rfl

theorem State.voidByte_moves (s : State) : s.BridgeMoves s.voidByte := s.writtenByte_moves _ _ rfl

theorem State.otherAddress_moves (s : State) : s.BridgeMoves s.otherAddress := by
  unfold State.otherAddress
  split <;> rfl

end Sys2Proof.Machine
end

