-- ==== Sys2Proof/Laws/Specs.lean ====
section
/-! SUPPORT. What the shared operations do, each said once: records queued, conditions raised and ended, entries to LISTEN
and QUIET, orders derived, frames begun. -/

namespace Sys2Proof.Machine

/-! ### Records and the attention line (R156, R159) -/

/-- The line that an operation has derived is the line due (R159). -/
theorem State.deriveAttention_ok (s : State) : s.deriveAttention.AttentionOk := rfl

theorem State.queueEvent_attentionOk (s : State) (leg : Option LegId) (kind : EventKind) :
    (s.queueEvent leg kind).AttentionOk := rfl

/-- The record queued stands at the tail with the sequence and the clock of that instant (R156). -/
theorem State.queueEvent_getLast? (s : State) (leg : Option LegId) (kind : EventKind) :
    (s.queueEvent leg kind).report.events.getLast? =
      some { seq := s.report.nextSeq, leg, time := s.report.headClock, kind } := by
  simp [State.queueEvent, State.deriveAttention]

/-- A queue of at most 32 records stays one (R156). -/
theorem State.queueEvent_length (s : State) (leg : Option LegId) (kind : EventKind) (h : s.report.events.length ≤ 32) :
    (s.queueEvent leg kind).report.events.length ≤ 32 := by
  unfold State.queueEvent State.deriveAttention Config.eventCapacity
  by_cases hf : 32 ≤ s.report.events.length
  · simp [hf]; omega
  · simp [hf]; omega

/-- Consecutive sequences go on over a record that carries the next one (R156). -/
theorem sequencesRunTo_snoc (events : List EventRecord) (next : Byte) (r : EventRecord) (h : sequencesRunTo events next)
    (hr : r.seq = next) : sequencesRunTo (events ++ [r]) (next + 1) := by
  induction events with
  | nil => simp [sequencesRunTo, hr]
  | cons a rest ih =>
    cases rest with
    | nil => exact ⟨h.trans hr.symm, by simp [sequencesRunTo, hr]⟩
    | cons b more => exact ⟨h.1, ih h.2⟩

/-- Sequences stay consecutive without the oldest record (R156). -/
theorem sequencesRunTo_tail (events : List EventRecord) (next : Byte) (h : sequencesRunTo events next) :
    sequencesRunTo events.tail next := by
  match events with
  | [] => trivial
  | [_] => trivial
  | _ :: _ :: _ => exact h.2

/-- One more record keeps the queue's law (R156). -/
theorem State.queueEvent_eventsOk (s : State) (leg : Option LegId) (kind : EventKind) (h : s.EventsOk) :
    (s.queueEvent leg kind).EventsOk := by
  refine ⟨s.queueEvent_length leg kind h.1, ?_⟩
  simp only [State.queueEvent, State.deriveAttention]
  split
  · exact sequencesRunTo_snoc _ _ _ (sequencesRunTo_tail _ _ h.2) rfl
  · exact sequencesRunTo_snoc _ _ _ h.2 rfl

/-- The queue's law is about the queue alone. -/
theorem State.eventsOk_congr {s t : State} (h : t.report.events = s.report.events) (k : t.report.nextSeq = s.report.nextSeq)
    (hs : s.EventsOk) : t.EventsOk := by
  unfold State.EventsOk at *
  rw [h, k]
  exact hs

theorem State.setCondition_events (s : State) (owner : Option LegId) (code : FaultCode) (b : Bool) :
    (s.setCondition owner code b).report.events = s.report.events
      ∧ (s.setCondition owner code b).report.nextSeq = s.report.nextSeq := by
  cases owner <;> cases code <;> exact ⟨rfl, rfl⟩

theorem State.raiseFault_eventsOk (s : State) (owner : Option LegId) (code : FaultCode) (detail : Byte) (h : s.EventsOk) :
    (s.raiseFault owner code detail).EventsOk := by
  unfold State.raiseFault
  exact State.queueEvent_eventsOk _ _ _
    (State.eventsOk_congr (s.setCondition_events owner code true).1 (s.setCondition_events owner code true).2 h)

theorem State.endCondition_eventsOk (s : State) (owner : Option LegId) (code : FaultCode) (h : s.EventsOk) :
    (s.endCondition owner code).EventsOk := by
  have hc := s.setCondition_events owner code false
  unfold State.endCondition
  dsimp only
  split
  · split
    · exact State.eventsOk_congr hc.1 hc.2 h
    · split
      · exact State.queueEvent_eventsOk _ _ _ (State.queueEvent_eventsOk _ _ _ (State.eventsOk_congr hc.1 hc.2 h))
      · exact State.queueEvent_eventsOk _ _ _ (State.eventsOk_congr hc.1 hc.2 h)
  · exact h

/-! ### Conditions (R152 to R154) -/

@[simp] theorem LegConds.get_set_same (c : LegConds) (code : FaultCode) (b : Bool) (h : code ≠ .planBad)
    (k : code ≠ .memoryFault) : (c.set code b).get code = b := by
  cases code <;> first | rfl | exact absurd rfl h | exact absurd rfl k

theorem LegConds.get_set_ne (c : LegConds) {code other : FaultCode} (b : Bool) (h : other ≠ code) :
    (c.set code b).get other = c.get other := by
  cases code <;> cases other <;> first | rfl | exact absurd rfl h

/-- A condition depends on the leg records and the head's two flags alone. -/
theorem State.condition_congr {s t : State} (h : t.legs = s.legs) (k : t.report.planBad = s.report.planBad)
    (l : t.report.memoryFault = s.report.memoryFault) (owner : Option LegId) (code : FaultCode) :
    t.condition owner code = s.condition owner code := by
  cases owner with
  | none => cases code <;> simp only [State.condition, k, l]
  | some n => simp only [State.condition, State.leg, h]

/-- After a raise the condition of a leg's code holds (R153). -/
theorem State.raiseFault_condition (s : State) (n : LegId) (code : FaultCode) (detail : Byte) (h : code ≠ .planBad)
    (k : code ≠ .memoryFault) : (s.raiseFault (some n) code detail).condition (some n) code = true := by
  show ((s.setCondition (some n) code true).leg n).conds.get code = true
  simp [State.setCondition, h, k]

/-- A raise leaves every other condition of the leg (R112). -/
theorem State.raiseFault_condition_ne (s : State) (n : LegId) {code other : FaultCode} (detail : Byte) (h : other ≠ code) :
    (s.raiseFault (some n) code detail).condition (some n) other = s.condition (some n) other := by
  show ((s.setCondition (some n) code true).leg n).conds.get other = _
  simp [State.setCondition, State.condition, LegConds.get_set_ne _ _ h]

/-- A raise on one leg leaves the record of every other leg. -/
theorem State.raiseFault_leg_ne (s : State) {m n : LegId} (code : FaultCode) (detail : Byte) (h : m ≠ n) :
    (s.raiseFault (some n) code detail).leg m = s.leg m := by
  show (s.setCondition (some n) code true).leg m = s.leg m
  exact s.leg_modLeg_ne _ h

/-- The end of a leg's condition leaves it not holding (R154). -/
theorem State.endCondition_condition (s : State) (n : LegId) (code : FaultCode) (h : code ≠ .planBad)
    (k : code ≠ .memoryFault) : (s.endCondition (some n) code).condition (some n) code = false := by
  have hs : ((s.setCondition (some n) code false).leg n).conds.get code = false := by simp [State.setCondition, h, k]
  unfold State.endCondition
  dsimp only
  split
  · split
    · exact hs
    · split
      · exact hs
      · exact hs
  · next hc => exact Bool.not_eq_true _ ▸ hc

/-- The end of a condition on one leg leaves the record of every other leg. -/
theorem State.endCondition_leg_ne (s : State) {m n : LegId} (code : FaultCode) (h : m ≠ n) :
    (s.endCondition (some n) code).leg m = s.leg m := by
  have hs : (s.setCondition (some n) code false).leg m = s.leg m := s.leg_modLeg_ne _ h
  unfold State.endCondition
  dsimp only
  split
  · split
    · exact hs
    · split
      · exact hs
      · exact hs
  · rfl

/-! ### The fault list (R153, R154) -/

/-- A raise never takes the list past sixteen entries (R153). -/
theorem raiseIn_length (faults : List FaultEntry) (owner : Option LegId) (code : FaultCode) (detail : Byte) (time : BitVec 32)
    (h : faults.length ≤ 16) : (raiseIn faults owner code detail time).length ≤ 16 := by
  unfold raiseIn
  split
  · simpa using h
  · split
    · next hlt => simp [Config.faultCapacity] at hlt; simp; omega
    · exact h

/-- The end of a condition never makes the list longer (R154). -/
theorem endIn_length (faults : List FaultEntry) (owner : Option LegId) (code : FaultCode) :
    (endIn faults owner code).length ≤ faults.length := by
  unfold endIn
  rw [List.length_map]
  exact List.length_filter_le _ _

/-! ### Entries to LISTEN and QUIET (R12, R36, R40, R60) -/

theorem State.leaveService_ex (s : State) (i : Lane) (x : Side) : (s.leaveService i x).ex = s.ex := by
  unfold State.leaveService State.leaveData
  dsimp only
  split
  · simp only [State.clearKept]
    split <;> rfl
  · rfl

theorem State.clearRelease_ex (s : State) (i : Lane) (x : Side) : (s.clearRelease i x).ex = s.ex := by
  unfold State.clearRelease
  split <;> rfl

/-- A lane that enters LISTEN has its exchange afresh (R36, R41, R60); the counters stay. -/
theorem State.enterListen_exch (s : State) (i : Lane) (x : Side) :
    ∃ warm, (s.enterListen i x).exch i x = (s.exch i x).listenAfresh warm := by
  unfold State.enterListen
  dsimp only
  have h : ((s.leaveService i x).clearRelease i x).exch i x = s.exch i x :=
    State.exch_congr ((State.clearRelease_ex _ i x).trans (s.leaveService_ex i x)) i x
  rw [← h]
  exact ⟨_, State.exch_modExch_same _ i x _⟩

theorem State.enterListen_fresh (s : State) (i : Lane) (x : Side) : ((s.enterListen i x).exch i x).Fresh := by
  obtain ⟨warm, h⟩ := s.enterListen_exch i x
  rw [h]
  exact ⟨rfl, rfl, rfl, rfl, rfl, rfl, rfl, rfl, rfl⟩

/-- Every other exchange stays at an entry to LISTEN. -/
theorem State.enterListen_exch_ne (s : State) {i j : Lane} {x y : Side} (h : (j, y) ≠ (i, x)) :
    (s.enterListen i x).exch j y = s.exch j y := by
  unfold State.enterListen
  dsimp only
  refine (State.exch_modExch_ne _ _ h).trans ?_
  exact State.exch_congr ((State.clearRelease_ex _ i x).trans (s.leaveService_ex i x)) j y

/-- A lane that is quieted keeps the values shown and nothing else (R12, R94). -/
theorem State.enterQuiet_exch (s : State) (i : Lane) (x : Side) :
    (s.enterQuiet i x).exch i x = (s.exch i x).quieted := by
  unfold State.enterQuiet
  dsimp only
  refine (State.exch_modExch_same _ i x _).trans ?_
  congr 1
  exact State.exch_congr ((State.clearRelease_ex _ i x).trans (s.leaveService_ex i x)) i x

/-- Every other exchange stays at a quiet order. -/
theorem State.enterQuiet_exch_ne (s : State) {i j : Lane} {x y : Side} (h : (j, y) ≠ (i, x)) :
    (s.enterQuiet i x).exch j y = s.exch j y := by
  unfold State.enterQuiet
  dsimp only
  refine (State.exch_modExch_ne _ _ h).trans ?_
  exact State.exch_congr ((State.clearRelease_ex _ i x).trans (s.leaveService_ex i x)) j y

/-- A return to TUNE changes lane state, counts, watch and recorded cause of its exchange, and keeps both contexts (R80, R90,
R91). -/
theorem State.returnToTune_exch (s : State) (i : Lane) (x : Side) (cause : ReturnCause) :
    ∃ watch, (s.returnToTune i x cause).exch i x =
      { s.exch i x with lane := .tune, ownCount := 15, zeroSeen := false, countEnded := false, returnCause := some cause
                        watch } := by
  have h : ((s.leaveService i x).clearRelease i x).exch i x = s.exch i x :=
    State.exch_congr ((State.clearRelease_ex _ i x).trans (s.leaveService_ex i x)) i x
  unfold State.returnToTune
  dsimp only
  rw [← h]
  split
  · exact ⟨_, State.exch_modExch_same _ i x _⟩
  · refine ⟨?_, ?eq⟩
    case eq =>
      unfold State.startWatch
      rw [State.exch_modExch_same, State.exch_modExch_same]

/-! ### Side status (R81) -/

/-- A leg that does not exist has no side status, and every other has one (R81). -/
theorem State.sideStatus_eq_none (s : State) (n : LegId) (x : Side) :
    s.sideStatus n x = none ↔ (s.leg n).width = 0 := by
  unfold State.sideStatus
  dsimp only
  split
  · next h => simp [h]
  · next h => (repeat' split) <;> simp [h]

/-- An existing leg that owns no slice, as from a reload's start, is QUIET on both sides (R94). -/
theorem State.sideStatus_of_no_lanes (s : State) (n : LegId) (x : Side) (h : (s.leg n).width ≠ 0) (k : s.legLanes n = []) :
    s.sideStatus n x = some .quiet := by
  simp [State.sideStatus, h, k]

/-! ### Service orders (R16) -/

/-- A derived order changes the order of one exchange and no other field of it. -/
theorem State.deriveOrder_exch (s : State) (n : LegId) (i : Lane) (x : Side) :
    (s.deriveOrder n i x).exch i x = { s.exch i x with order := s.orderFor n i x } := by
  unfold State.deriveOrder
  dsimp only
  split
  · exact (State.exch_of_modTx _ i x _ i x).trans (State.exch_modExch_same s i x _)
  · exact State.exch_modExch_same s i x _

theorem State.deriveOrder_exch_ne (s : State) (n : LegId) {i j : Lane} {x y : Side} (h : (j, y) ≠ (i, x)) :
    (s.deriveOrder n i x).exch j y = s.exch j y := by
  unfold State.deriveOrder
  dsimp only
  split
  · exact (State.exch_of_modTx _ i x _ j y).trans (State.exch_modExch_ne s _ h)
  · exact State.exch_modExch_ne s _ h

/-- No lane state moves when orders are derived. -/
theorem State.deriveOrder_laneState (s : State) (n : LegId) (i j : Lane) (x y : Side) :
    (s.deriveOrder n i x).laneState j y = s.laneState j y := by
  by_cases h : (j, y) = (i, x)
  · obtain ⟨rfl, rfl⟩ := Prod.mk.inj h
    simp only [State.laneState, State.deriveOrder_exch]
  · simp only [State.laneState, s.deriveOrder_exch_ne n h]

theorem State.deriveOrders_laneState (s : State) (n : LegId) (j : Lane) (y : Side) :
    (s.deriveOrders n).laneState j y = s.laneState j y := by
  unfold State.deriveOrders
  exact State.onExchanges_induct (P := fun t => t.laneState j y = s.laneState j y) _
    (fun i x t h => (t.deriveOrder_laneState n i j x y).trans h) _ rfl

/-! ### The responder and the words (R22, R45, R46) -/

/-- A non-empty feasible interval holds the clamped value (R46). -/
theorem newTap_between (c f : Nat) (t : Coef) (tap : Tap) (delta : Int) (h : lowBound f t tap ≤ highBound c f t tap) :
    lowBound f t tap ≤ newTap c f t tap delta ∧ newTap c f t tap delta ≤ highBound c f t tap := by
  unfold newTap
  dsimp only
  split
  · omega
  · split <;> omega

/-- The three fill words (R32, section 2.10). -/
theorem fillWord_standby : fillWord .standby = 0x80000017 := by decide

theorem fillWord_gap : fillWord .gap = 0x80000026 := by decide

theorem fillWord_fault : fillWord .fault = 0x80000035 := by decide

/-! ### Written bytes (R138, R145) -/

/-- The combined pointer after a written byte, by address: memory space wraps within its page of 64, each other space at its
last address (R138). -/
theorem nextWrite_toNat (a : BusAddr) : (nextWrite a).toNat =
    if a.toNat < 0x4000 then a.toNat / 64 * 64 + (a.toNat + 1) % 64
    else if a.toNat = 0x43FF then 0x4000 else if a.toNat = 0xFFFF then 0x4400 else a.toNat + 1 := by
  have hlt := a.isLt
  have hb : a = 0x43FF ↔ a.toNat = 0x43FF := BitVec.toNat_inj.symm
  have he : a = 0xFFFF ↔ a.toNat = 0xFFFF := BitVec.toNat_inj.symm
  unfold nextWrite nextRead spaceOf pageNext
  by_cases h : a.toNat < 0x4000
  · simp [h]; omega
  · by_cases k : a.toNat < 0x4400
    · by_cases e : a.toNat = 0x43FF
      · obtain rfl := hb.2 e
        rfl
      · simp only [h, k, hb, e, if_true, if_false]
        rw [if_neg (by omega), BitVec.toNat_add]; simp; omega
    · by_cases e : a.toNat = 0xFFFF
      · obtain rfl := he.2 e
        rfl
      · simp only [h, k, he, e, if_false]
        rw [if_neg (by omega), BitVec.toNat_add]; simp; omega

/-- After a reload a data byte is discarded whichever row brings it (R145). -/
theorem State.writtenByte_runOn (s : State) (phase : TxnPhase) (take : State → State) (h : s.bridge.txn.runOn = true)
    (k : s.bridge.txn.phase.writes = true) : s.writtenByte phase take = s.discardByte := by
  simp [State.writtenByte, h, k]

/-- Without one it is taken in the data phase of its row alone. -/
theorem State.writtenByte_of_not_runOn (s : State) (phase : TxnPhase) (take : State → State)
    (h : s.bridge.txn.runOn = false) :
    s.writtenByte phase take = if s.bridge.txn.phase = phase then take s else s.outOfPlace := by
  simp [State.writtenByte, h]

end Sys2Proof.Machine
end

