-- ==== Sys2Proof/Laws/Reports.lean ====
section
/-! SUPPORT. How the acts of one event add up in the report unit: each operation of Ops.lean is one act more (R153, R154, R156),
and what leaves report and conditions alone is none. -/

namespace Sys2Proof.Machine

/-! ### The desk -/

@[simp] theorem State.desk_faults (s : State) : s.desk.faults = s.report.faults := rfl

@[simp] theorem State.desk_listFull (s : State) : s.desk.listFull = s.report.listFull := rfl

@[simp] theorem State.desk_holds (s : State) : s.desk.holds = s.condition := rfl

@[simp] theorem State.desk_queued (s : State) : s.desk.queued = [] := rfl

/-- The codes that a leg and the head can have (R152). -/
def OwnsCode (owner : Option LegId) (code : FaultCode) : Prop :=
  owner = none ↔ code = .planBad ∨ code = .memoryFault

/-- A condition that is set is the only one that changes. -/
theorem State.condition_setCondition (s : State) {owner : Option LegId} {code : FaultCode} (b : Bool) (h : OwnsCode owner code)
    (o : Option LegId) (c : FaultCode) :
    (s.setCondition owner code b).condition o c = if o = owner ∧ c = code then b else s.condition o c := by
  cases owner with
  | none =>
    have hc := h.1 rfl
    cases o with
    | none =>
      rcases hc with rfl | rfl <;> cases c <;> simp [State.setCondition, State.condition]
    | some n => rcases hc with rfl | rfl <;> simp [State.setCondition, State.condition, State.leg]
  | some m =>
    have hp : code ≠ .planBad := fun e => by simpa [OwnsCode] using h.2 (.inl e)
    have hm : code ≠ .memoryFault := fun e => by simpa [OwnsCode] using h.2 (.inr e)
    cases o with
    | none => cases c <;> simp [State.setCondition, State.condition, State.modLeg]
    | some n =>
      by_cases hn : n = m
      · subst hn
        by_cases hc : c = code
        · subst hc; simp [State.setCondition, State.condition, hp, hm]
        · simp [State.setCondition, State.condition, hc, LegConds.get_set_ne _ _ hc]
      · simp [State.setCondition, State.condition, hn, s.leg_modLeg_ne _ hn]

/-! ### Records (R156) -/

theorem State.Joined.nil (s : State) (h : s.report.events.length ≤ 32) : s.Joined s [] := by
  refine ⟨?_, by simp, by simp; omega, by simp⟩
  simp [Nat.sub_eq_zero_of_le h]

/-- One more record at the tail, with the next sequence and the head clock (R156). -/
theorem State.Joined.queueEvent {s t : State} {news : List EventRecord} (h : s.Joined t news)
    (hs : s.report.events.length ≤ 32) (hc : t.report.headClock = s.report.headClock) (leg : Option LegId) (kind : EventKind) :
    s.Joined (t.queueEvent leg kind)
      (news ++ [{ seq := s.report.nextSeq + BitVec.ofNat 8 news.length, leg, time := s.report.headClock, kind }]) := by
  obtain ⟨he, hn, ho, hr⟩ := h
  have hlen : t.report.events.length = min 32 (s.report.events.length + news.length) := by
    rw [he, List.length_drop, List.length_append]; omega
  have hfull : decide (Config.eventCapacity ≤ t.report.events.length)
      = decide (32 ≤ s.report.events.length + news.length) := by
    simp only [Config.eventCapacity, hlen]; congr 1; simp
  refine ⟨?_, ?_, ?_, ?_⟩
  · show (if decide (Config.eventCapacity ≤ t.report.events.length) then t.report.events.tail else t.report.events) ++ _ = _
    rw [hfull, hn, hc, he, ← List.append_assoc]
    by_cases hk : 32 ≤ s.report.events.length + news.length
    · simp only [hk, decide_true, if_true, List.tail_drop, List.length_append, List.length_singleton]
      rw [List.drop_append_of_le_length (l₁ := s.report.events ++ news) (by rw [List.length_append]; omega)]
      congr 2
      omega
    · have h1 : s.report.events.length + news.length - 32 = 0 := by omega
      have h2 : s.report.events.length + (news.length + 1) - 32 = 0 := by omega
      simp [hk, h1, h2]
  · show t.report.nextSeq + 1 = _
    rw [hn, List.length_append, List.length_singleton]
    apply BitVec.eq_of_toNat_eq
    simp [BitVec.toNat_add]
    omega
  · show (t.report.overrun || decide (Config.eventCapacity ≤ t.report.events.length)) = _
    rw [hfull, ho, Bool.or_assoc]
    congr 1
    simp only [List.length_append, List.length_singleton, ← Bool.decide_or]
    congr 1
    exact propext ⟨fun h => by omega, fun h => by omega⟩
  · intro k r hk
    by_cases hlt : k < news.length
    · rw [List.getElem?_append_left hlt] at hk
      exact hr k r hk
    · rw [List.getElem?_append_right (by omega)] at hk
      by_cases h0 : k - news.length = 0
      · have : k = news.length := by omega
        subst this
        simp at hk
        subst hk
        exact ⟨rfl, rfl⟩
      · have : k - news.length ≥ 1 := by omega
        simp [List.getElem?_eq_none (l := [_]) (by simpa using this)] at hk

/-! ### From desk to desk -/

/-- What leaves clock and queue alone brings the report unit to the desk that list, flag and conditions then make. -/
theorem State.ReportsTo.move {s t u : State} {d d' : Desk} {skipped : List LegId} (h : s.ReportsTo t d skipped)
    (hf : u.report.faults = d'.faults) (hl : u.report.listFull = d'.listFull)
    (hh : ∀ (o : Option LegId) (c : FaultCode), u.condition o c = d'.holds o c) (hq : d'.queued = d.queued)
    (he : u.report.events = t.report.events) (hn : u.report.nextSeq = t.report.nextSeq)
    (ho : u.report.overrun = t.report.overrun) (hc : u.report.headClock = t.report.headClock) : s.ReportsTo u d' skipped := by
  obtain ⟨_, _, c, _, f⟩ := h
  refine ⟨hf, hl, hc.trans c, hh, fun hs => ?_⟩
  obtain ⟨news, j, k⟩ := f hs
  exact ⟨news, ⟨he.trans j.1, hn.trans j.2.1, ho.trans j.2.2.1, j.2.2.2⟩, hq ▸ k⟩

/-- A record that the event queues is one record more on the desk. -/
theorem State.ReportsTo.queueEvent {s t : State} {d : Desk} {skipped : List LegId} (h : s.ReportsTo t d skipped)
    (leg : Option LegId) (kind : EventKind) (hk : kind ≠ .recordSkipped) :
    s.ReportsTo (t.queueEvent leg kind) { d with queued := d.queued ++ [(leg, kind)] } skipped := by
  obtain ⟨a, b, c, e, f⟩ := h
  refine ⟨a, b, c, e, fun hs => ?_⟩
  obtain ⟨news, j, k, l⟩ := f hs
  refine ⟨_, j.queueEvent hs c leg kind, ?_, ?_⟩
  · rw [List.filter_append, List.map_append, k]
    simp [hk]
  · rw [List.filter_append, List.map_append, l]
    simp [hk]

/-- RECORD_SKIPPED joins at its own place (R156, R166). -/
theorem State.ReportsTo.recordSkipped {s t : State} {d : Desk} {skipped : List LegId} (h : s.ReportsTo t d skipped)
    (n : LegId) : s.ReportsTo (t.queueEvent (some n) .recordSkipped) d (skipped ++ [n]) := by
  obtain ⟨a, b, c, e, f⟩ := h
  refine ⟨a, b, c, e, fun hs => ?_⟩
  obtain ⟨news, j, k, l⟩ := f hs
  refine ⟨_, j.queueEvent hs c (some n) .recordSkipped, ?_, ?_⟩
  · rw [List.filter_append, List.map_append, k]
    simp
  · rw [List.filter_append, List.map_append, l]
    simp

/-! ### One act more -/

/-- What an event that has done nothing has done. -/
theorem State.Reports.refl (s : State) : s.Reports s [] :=
  ⟨rfl, rfl, rfl, fun _ _ => rfl, fun h => ⟨[], State.Joined.nil s h, rfl, rfl⟩⟩

/-- What changes neither the report unit nor a condition adds no act. -/
theorem State.ReportsBeside.congr {s t u : State} {acts : List ReportAct} {skipped : List LegId}
    (h : s.ReportsBeside t acts skipped) (hf : u.report.faults = t.report.faults) (hl : u.report.listFull = t.report.listFull)
    (he : u.report.events = t.report.events) (hn : u.report.nextSeq = t.report.nextSeq)
    (ho : u.report.overrun = t.report.overrun) (hc : u.report.headClock = t.report.headClock)
    (hh : ∀ (o : Option LegId) (c : FaultCode), u.condition o c = t.condition o c) : s.ReportsBeside u acts skipped :=
  State.ReportsTo.move h (hf.trans h.1) (hl.trans h.2.1) (fun o c => (hh o c).trans (h.2.2.2.1 o c)) rfl he hn ho hc

/-- A record that the event queues is one act more. -/
theorem State.ReportsBeside.queueEvent {s t : State} {acts : List ReportAct} {skipped : List LegId}
    (h : s.ReportsBeside t acts skipped) (leg : Option LegId) (kind : EventKind) (hk : kind ≠ .recordSkipped) :
    s.ReportsBeside (t.queueEvent leg kind) (acts ++ [.queues leg kind]) skipped := by
  unfold State.ReportsBeside
  rw [List.foldl_append]
  exact State.ReportsTo.queueEvent h leg kind hk

/-- A skipped record request is no act of the event's own (R156, R166). -/
theorem State.ReportsBeside.recordSkipped {s t : State} {acts : List ReportAct} {skipped : List LegId}
    (h : s.ReportsBeside t acts skipped) (n : LegId) :
    s.ReportsBeside (t.queueEvent (some n) .recordSkipped) acts (skipped ++ [n]) :=
  State.ReportsTo.recordSkipped h n

theorem FaultEntry.isOf_iff (e : FaultEntry) (owner : Option LegId) (code : FaultCode) :
    e.isOf owner code = true ↔ e.owner = owner ∧ e.code = code := by
  simp [FaultEntry.isOf]

/-- A condition that is set moves neither the list nor the queue nor the clock. -/
theorem State.setCondition_report (s : State) (owner : Option LegId) (code : FaultCode) (b : Bool) :
    (s.setCondition owner code b).report.faults = s.report.faults
      ∧ (s.setCondition owner code b).report.listFull = s.report.listFull
      ∧ (s.setCondition owner code b).report.events = s.report.events
      ∧ (s.setCondition owner code b).report.nextSeq = s.report.nextSeq
      ∧ (s.setCondition owner code b).report.overrun = s.report.overrun
      ∧ (s.setCondition owner code b).report.headClock = s.report.headClock := by
  cases owner <;> cases code <;> exact ⟨rfl, rfl, rfl, rfl, rfl, rfl⟩

/-- The desk after a raise is what `raiseIn` and `notListed` make of it (R153). -/
theorem Desk.raised_eq (d : Desk) (owner : Option LegId) (code : FaultCode) (detail : Byte) (clock : BitVec 32) :
    d.raised owner code detail clock =
      { d.hold owner code true with
        faults := raiseIn d.faults owner code detail clock, listFull := d.listFull || notListed d.faults owner code
        queued := d.queued ++ [(owner, .faultRaised code (notListed d.faults owner code) detail)] } := by
  have hany : d.faults.any (·.isOf owner code) = decide (∃ e ∈ d.faults, e.owner = owner ∧ e.code = code) := by
    rw [Bool.eq_iff_iff]
    simp [FaultEntry.isOf_iff]
  unfold Desk.raised raiseIn notListed
  rw [hany]
  by_cases hl : ∃ e ∈ d.faults, e.owner = owner ∧ e.code = code
  · simp [hl, FaultEntry.isOf_iff, FaultEntry.reraised, Desk.hold]
  · by_cases hf : d.faults.length < 16
    · simp [hl, hf, Config.faultCapacity, FaultEntry.fresh, Desk.hold, Nat.not_le.2 hf]
    · simp [hl, hf, Config.faultCapacity, Desk.hold, Nat.le_of_not_lt hf]

/-- A raise is one act more (R153). -/
theorem State.ReportsBeside.raiseFault {s t : State} {acts : List ReportAct} {skipped : List LegId}
    (h : s.ReportsBeside t acts skipped) {owner : Option LegId} {code : FaultCode} (detail : Byte) (ho : OwnsCode owner code) :
    s.ReportsBeside (t.raiseFault owner code detail) (acts ++ [.raises owner code detail]) skipped := by
  unfold State.ReportsBeside at *
  rw [List.foldl_append]
  generalize acts.foldl (Desk.after s.report.headClock) s.desk = d at *
  obtain ⟨hf, hl, he, hn, hv, hc⟩ := t.setCondition_report owner code true
  rw [h.1] at hf
  rw [h.2.1] at hl
  rw [h.2.2.1] at hc
  show s.ReportsTo (t.raiseFault owner code detail) (d.raised owner code detail s.report.headClock) skipped
  rw [Desk.raised_eq]
  unfold State.raiseFault
  dsimp only
  rw [hf, hl, hc]
  refine State.ReportsTo.queueEvent (d := { d.hold owner code true with
    faults := raiseIn d.faults owner code detail s.report.headClock
    listFull := d.listFull || notListed d.faults owner code }) ?_ owner _ (by simp)
  refine State.ReportsTo.move h rfl rfl (fun o c => ?_) rfl he hn hv h.2.2.1.symm
  show (t.setCondition owner code true).condition o c = _
  rw [t.condition_setCondition true ho, h.2.2.2.1]
  rfl

/-- The desk after the end of a condition that holds is what `endIn` makes of it (R154). -/
theorem Desk.ended_eq (d : Desk) {owner : Option LegId} {code : FaultCode} (h : d.holds owner code = true) :
    d.ended owner code =
      match d.faults.find? (·.isOf owner code) with
      | none => d.hold owner code false
      | some e =>
        { d.hold owner code false with
          faults := endIn d.faults owner code, listFull := d.listFull && !e.acked
          queued := d.queued ++ [(owner, .faultCleared code e.detail)]
            ++ if e.acked then [(owner, .faultLeft code e.detail)] else [] } := by
  have hp : (fun e : FaultEntry => decide (e.owner = owner ∧ e.code = code)) = (·.isOf owner code) := by
    funext e
    rw [Bool.eq_iff_iff, FaultEntry.isOf_iff]
    simp
  have hg : (fun f : FaultEntry => decide ¬(f.owner = owner ∧ f.code = code ∧ f.acked = true)) =
      fun f => !(f.isOf owner code && f.acked) := by
    funext f
    rw [Bool.eq_iff_iff]
    simp [FaultEntry.isOf, or_assoc]
  unfold Desk.ended endIn
  rw [if_pos h, hp, hg]
  cases d.faults.find? (·.isOf owner code) with
  | none => rfl
  | some e => simp only [FaultEntry.isOf_iff]

/-- The end of a condition is one act more (R154). -/
theorem State.ReportsBeside.endCondition {s t : State} {acts : List ReportAct} {skipped : List LegId}
    (h : s.ReportsBeside t acts skipped) {owner : Option LegId} {code : FaultCode} (ho : OwnsCode owner code) :
    s.ReportsBeside (t.endCondition owner code) (acts ++ [.ends owner code]) skipped := by
  unfold State.ReportsBeside at *
  rw [List.foldl_append]
  generalize acts.foldl (Desk.after s.report.headClock) s.desk = d at *
  show s.ReportsTo (t.endCondition owner code) (d.ended owner code) skipped
  obtain ⟨hf, hl, he, hn, hv, hc⟩ := t.setCondition_report owner code false
  rw [h.1] at hf
  rw [h.2.1] at hl
  have hcond : ∀ (o : Option LegId) (c : FaultCode),
      (t.setCondition owner code false).condition o c = (d.hold owner code false).holds o c := fun o c => by
    rw [t.condition_setCondition false ho, h.2.2.2.1]
    rfl
  unfold State.endCondition
  by_cases hh : t.condition owner code = true
  · have hd : d.holds owner code = true := (h.2.2.2.1 owner code).symm.trans hh
    rw [if_pos hh, Desk.ended_eq d hd]
    dsimp only
    rw [hf, hl]
    cases d.faults.find? (·.isOf owner code) with
    | none => exact State.ReportsTo.move h hf hl hcond rfl he hn hv hc
    | some e =>
      dsimp only
      have hm : s.ReportsTo { t.setCondition owner code false with
            report := { (t.setCondition owner code false).report with
              faults := endIn d.faults owner code, listFull := d.listFull && !e.acked } }
          { d.hold owner code false with faults := endIn d.faults owner code, listFull := d.listFull && !e.acked } skipped :=
        State.ReportsTo.move h rfl rfl hcond rfl he hn hv hc
      have hq := hm.queueEvent owner (.faultCleared code e.detail) (by simp)
      by_cases ha : e.acked = true
      · rw [if_pos ha, if_pos ha]
        exact hq.queueEvent owner (.faultLeft code e.detail) (by simp)
      · rw [if_neg ha, if_neg ha, List.append_nil]
        exact hq
  · have hd : ¬d.holds owner code = true := fun k => hh ((h.2.2.2.1 owner code).trans k)
    rw [if_neg hh]
    unfold Desk.ended
    rw [if_neg hd]
    exact h

/-! ### The supervisor's reports -/

theorem ownsCode_some (n : LegId) {code : FaultCode} (h : code ≠ .planBad) (k : code ≠ .memoryFault) :
    OwnsCode (some n) code := by
  simp [OwnsCode, h, k]

/-- The margin check is the margin condition's act, where no earlier act touched it (R135). -/
theorem State.ReportsBeside.marginCheck {s t : State} {acts : List ReportAct} {skipped : List LegId}
    (h : s.ReportsBeside t acts skipped) (n : LegId)
    (hm : t.condition (some n) .marginLow = s.condition (some n) .marginLow) :
    s.ReportsBeside (t.marginCheck n) (acts ++ s.marginActs t n) skipped := by
  have ho : OwnsCode (some n) .marginLow := ownsCode_some n (by simp) (by simp)
  unfold State.marginCheck State.marginActs
  rw [← hm]
  cases t.anyAlarm n with
  | false => exact h.endCondition ho
  | true =>
    cases t.condition (some n) .marginLow with
    | true => simpa using h
    | false => exact h.raiseFault 0 ho

/-- The ends of the attempt's conditions (R104, R109). -/
theorem State.ReportsBeside.endAttemptConditions {s t : State} {acts : List ReportAct} {skipped : List LegId}
    (h : s.ReportsBeside t acts skipped) (n : LegId) :
    s.ReportsBeside (t.endAttemptConditions n) (acts ++ attemptEnds n) skipped := by
  have hs := ((h.endCondition (ownsCode_some n (code := .trainTimeout) (by simp) (by simp))).endCondition
    (ownsCode_some n (code := .sideFail) (by simp) (by simp))).endCondition
    (ownsCode_some n (code := .legCut) (by simp) (by simp))
  simpa [attemptEnds, State.endAttemptConditions, List.append_assoc] using hs

end Sys2Proof.Machine
end

