-- ==== Sys2Proof/Laws/Stored.lean ====
section
/-! SUPPORT. What the readings of a stored page give: its bytes by place, and each tap of a start set that the ceiling repair and
the floor repair leave (R54 to R56). -/

namespace Sys2Proof.Machine

/-- A byte of a page by its place. -/
theorem pageByte_eq (p : Page) (k : Nat) (h : k < 64) : pageByte p k = p[k].toNat := by
  unfold pageByte
  congr 1
  simp [List.getD, h]

/-! ### Ceiling repair (R55) -/

theorem ceilingRepair_post (c : Nat) (t : Coef) :
    ((ceilingRepair c t).post : Int) = max 0 (min (t.post : Int) (c - t.main - t.pre)) := by
  unfold ceilingRepair
  simp only
  split
  · omega
  · split
    · simp only; omega
    · split <;> (simp only; omega)

theorem ceilingRepair_pre (c : Nat) (t : Coef) :
    ((ceilingRepair c t).pre : Int) = max 0 (min (t.pre : Int) (c - t.main - (ceilingRepair c t).post)) := by
  rw [ceilingRepair_post]
  unfold ceilingRepair
  simp only
  split
  · omega
  · split
    · simp only at *; omega
    · split <;> (simp only at *; omega)

theorem ceilingRepair_main (c : Nat) (t : Coef) : ((ceilingRepair c t).main : Int) =
    min (t.main : Int) (c - (ceilingRepair c t).pre - (ceilingRepair c t).post) := by
  rw [ceilingRepair_pre, ceilingRepair_post]
  unfold ceilingRepair
  simp only
  split
  · omega
  · split
    · simp only at *; omega
    · split <;> (simp only at *; omega)

/-! ### Floor repair (R56) -/

theorem floorRepair_post (f : Nat) (t : Coef) :
    ((floorRepair f t).post : Int) = max 0 (min (t.post : Int) (t.main - t.pre - f)) := by
  unfold floorRepair
  simp only
  split
  · omega
  · split
    · simp only; omega
    · split <;> (simp only; omega)

theorem floorRepair_pre (f : Nat) (t : Coef) :
    ((floorRepair f t).pre : Int) = max 0 (min (t.pre : Int) (t.main - (floorRepair f t).post - f)) := by
  rw [floorRepair_post]
  unfold floorRepair
  simp only
  split
  · omega
  · split
    · simp only at *; omega
    · split <;> (simp only at *; omega)

theorem floorRepair_main (f : Nat) (t : Coef) : ((floorRepair f t).main : Int) = max (t.main : Int) f := by
  unfold floorRepair
  simp only
  split
  · omega
  · split
    · simp only at *; omega
    · split <;> (simp only at *; omega)

/-! ### The repaired set (R54) -/

/-- The three taps of a repaired set are those of R54 to R56. -/
theorem repairSet_taps (c f : Nat) (t : Coef) :
    (((repairSet c f t).pre : Int), ((repairSet c f t).main : Int), ((repairSet c f t).post : Int)) =
      startTaps c f t.pre t.main t.post := by
  unfold repairSet startTaps
  simp only [floorRepair_pre, floorRepair_main, floorRepair_post, ceilingRepair_pre, ceilingRepair_main, ceilingRepair_post,
    clampTaps, clampRange]
  push_cast
  rfl

end Sys2Proof.Machine
end

