-- ==== Sys2Proof/Laws/Window.lean ====
section
/-! SUPPORT. What a byte of the live window can do, said once: the supervisor's commands and the stored values reach the
supervisor's part of the state alone, a reload takes the transaction that carries it along (R145), and so does a write
buffer as a whole (R143). -/

namespace Sys2Proof.Machine

/-! ### Loops over legs -/

/-- What every turn of a loop over legs moves for the supervisor alone, the loop does. -/
theorem State.onLegs_supervisor (f : State → LegId → State) (hf : ∀ (t : State) (n : LegId), t.SupervisorMoves (f t n))
    (legs : List LegId) (s : State) : s.SupervisorMoves (legs.foldl f s) := by
  induction legs generalizing s with
  | nil => exact .refl s
  | cons n rest ih => exact (hf s n).trans (ih (f s n))

/-! ### Boundaries and leg commands (R99, R101, R108 to R111) -/

theorem State.onLanes_supervisor (s : State) (lanes : List Lane) (f : Lane → State → State)
    (hf : ∀ (i : Lane) (t : State), t.SupervisorMoves (f i t)) : s.SupervisorMoves (s.onLanes lanes f) :=
  State.onLanes_induct f (fun i t h => h.trans (hf i t)) lanes (.refl s)

theorem State.applyMap_moves (s : State) (n : LegId) : s.SupervisorMoves (s.applyMap n) :=
  s.onLanes_supervisor _ _ fun _ _ => rfl

theorem State.installProfile_moves (s : State) (n : LegId) : s.SupervisorMoves (s.installProfile n) :=
  (s.applyMap_moves n).trans
    (State.onExchanges_lanes _ _ (fun i x u => (u.giveStarts n i x).forgetLearned i x) fun _ _ _ => rfl).supervisor

theorem State.take_moves (s : State) (n : LegId) : s.SupervisorMoves (s.take n) := by
  unfold State.take
  split
  · unfold State.makeActive
    exact ((s.modLeg_moves n _).supervisor.trans (State.installProfile_moves _ n)).trans (State.modLeg_moves _ n _).supervisor
  · exact (s.applyMap_moves n).trans (State.modLeg_moves _ n _).supervisor
  · exact (s.applyMap_moves n).trans (State.modLeg_moves _ n _).supervisor

theorem State.boundary_moves (s : State) (n : LegId) (cause : LegCause) : s.SupervisorMoves (s.boundary n cause) := by
  have h := (s.legLeavesService_moves n).trans (State.modLeg_moves _ n fun l => { l.standDown with state := .waiting })
  have k := ((h.supervisor.trans (State.take_moves _ n)).trans (State.startLeg_moves _ n).supervisor).trans
    (State.deriveOrders_moves _ n).supervisor
  exact ((k.trans (State.queueLegState_moves _ n _ _ cause).supervisor).trans (State.reportTake_moves _ n _).supervisor).trans
    (State.marginCheck_moves _ n).supervisor

theorem State.retrainLeg_moves (s : State) (n : LegId) : s.SupervisorMoves (s.retrainLeg n) := by
  unfold State.retrainLeg
  split
  · exact .refl s
  · have h : s.SupervisorMoves ((s.countRetrain n).modLeg n fun l => { l with retry := 0 }) := rfl
    dsimp only
    split
    · exact (h.trans (State.endCondition_moves _ _ _).supervisor).trans (State.boundary_moves _ n _)
    · exact h.trans (State.boundary_moves _ n _)

theorem State.parkLeg_moves (s : State) (n : LegId) (cause : LegCause) : s.SupervisorMoves (s.parkLeg n cause) := by
  unfold State.parkLeg
  split
  · exact .refl s
  · have h := (((s.quietLeg_moves n).trans
        (State.modLeg_moves _ n fun l => { l.standDown with state := .parked, retry := 0 })).trans
        (State.deriveOrders_moves _ n)).supervisor.trans (State.endAttemptConditions_moves _ n).supervisor
    dsimp only
    split
    · exact ((h.trans (State.endCondition_moves _ _ _).supervisor).trans
        (State.queueLegState_moves _ n _ _ cause).supervisor).trans (State.marginCheck_moves _ n).supervisor
    · exact (h.trans (State.queueLegState_moves _ n _ _ cause).supervisor).trans (State.marginCheck_moves _ n).supervisor

theorem State.unparkLeg_moves (s : State) (n : LegId) : s.SupervisorMoves (s.unparkLeg n) := by
  unfold State.unparkLeg
  split
  · exact s.boundary_moves n _
  · exact .refl s

theorem State.deriveAttention_moves (s : State) : s.ReportMoves s.deriveAttention := rfl

theorem State.clearLeg_moves (s : State) (n : LegId) (lanes : List Lane) : s.SupervisorMoves (s.clearLeg n lanes) :=
  ((s.modLeg_moves n _).trans
    (State.onExchanges_lanes _ _ (fun i x t => t.clearExchange i x) fun _ _ _ => rfl)).supervisor.trans
    (State.deriveAttention_moves _).supervisor

theorem State.clearAll_moves (s : State) : s.SupervisorMoves s.clearAll :=
  ((State.onLegs_supervisor _ (fun t n => (t.modLeg_moves n _).supervisor) allLegs s).trans
    (State.onExchanges_lanes _ _ (fun i x t => t.clearExchange i x) fun _ _ _ => rfl).supervisor).trans
    (State.deriveAttention_moves _).supervisor

theorem State.parkAll_moves (s : State) : s.SupervisorMoves s.parkAll := by
  refine State.onLegs_supervisor _ (fun t n => ?_) allLegs s
  split
  · exact t.parkLeg_moves n _
  · exact .refl t

/-! ### Bytes of the live window (R143, R148, R151) -/

theorem State.whenOpen_moves (s : State) (f : State → State) (h : s.SupervisorMoves (f s)) :
    s.SupervisorMoves (s.whenOpen f) := by
  unfold State.whenOpen
  split
  · exact h
  · exact .refl s

theorem State.legCommand_moves (s : State) (n : LegId) (f : State → State) (h : s.SupervisorMoves (f s)) :
    s.SupervisorMoves (s.legCommand n f) := by
  refine s.whenOpen_moves _ ?_
  split
  · exact h
  · exact .refl s

theorem State.legCommandByte_moves (s : State) (n : LegId) (v : Byte) : s.SupervisorMoves (s.legCommandByte n v) := by
  unfold State.legCommandByte
  split
  · exact s.legCommand_moves n _ (s.retrainLeg_moves n)
  · split
    · exact s.legCommand_moves n _ (s.parkLeg_moves n _)
    · split
      · exact s.legCommand_moves n _ (s.unparkLeg_moves n)
      · split
        · exact s.legCommand_moves n _ (s.clearLeg_moves n _)
        · exact .refl s

theorem State.headCommandByte_moves (s : State) (v : Byte) (h : v ≠ 1) : s.SupervisorMoves (s.headCommandByte v) := by
  unfold State.headCommandByte
  rw [if_neg h]
  split
  · exact s.whenOpen_moves _ rfl
  · split
    · exact s.whenOpen_moves _ rfl
    · split
      · exact s.whenOpen_moves _ s.clearAll_moves
      · exact .refl s

theorem State.acknowledgeShown_moves (s : State) : s.ReportMoves s.acknowledgeShown := by
  unfold State.acknowledgeShown
  split
  · exact .refl s
  · dsimp only
    split <;> rfl

theorem State.storeViewMode_moves (s : State) (v : Byte) : s.ReportMoves (s.storeViewMode v) := by
  unfold State.storeViewMode
  split
  · rfl
  · split <;> rfl

theorem State.storeEventMode_moves (s : State) (v : Byte) : s.ReportMoves (s.storeEventMode v) := by
  unfold State.storeEventMode
  split <;> rfl

theorem State.storeRollover_moves (s : State) (v : Byte) : s.ReportMoves (s.storeRollover v) := by
  unfold State.storeRollover
  split
  · rfl
  · split <;> rfl

/-- A byte of the live window acts for the supervisor and the report unit alone, or it is the reload taken (R151). -/
theorem State.applyByte_cases (s : State) (a : BusAddr) (v : Byte) :
    s.SupervisorMoves (s.applyByte a v)
      ∨ (s.windowOpen = true ∧ writeKind a = .headCommand ∧ v = 1 ∧ s.applyByte a v = s.reloadHead) := by
  unfold State.applyByte
  split
  · next h =>
    by_cases hv : v = 1
    · by_cases hw : s.windowOpen = true
      · exact .inr ⟨hw, h, hv, by simp [State.headCommandByte, hv]⟩
      · exact .inl (by simp [State.headCommandByte, hv, State.reloadHead, hw]; exact .refl s)
    · exact .inl (s.headCommandByte_moves v hv)
  · exact .inl (s.whenOpen_moves _ (s.storeViewMode_moves v).supervisor)
  · exact .inl (s.whenOpen_moves _ rfl)
  · exact .inl (s.whenOpen_moves _ rfl)
  · exact .inl (s.whenOpen_moves _ (s.storeEventMode_moves v).supervisor)
  · exact .inl (s.whenOpen_moves _ (s.storeRollover_moves v).supervisor)
  · exact .inl (s.legCommandByte_moves _ v)
  · exact .inl (s.whenOpen_moves _ rfl)
  · exact .inl (s.whenOpen_moves _ rfl)
  · exact .inl (s.whenOpen_moves _ s.acknowledgeShown_moves.supervisor)
  · exact .inl (.refl s)

/-- What the supervisor's moves leave: the head, the bridge, the reset input. -/
theorem State.SupervisorMoves.keeps {s t : State} (h : s.SupervisorMoves t) :
    t.head = s.head ∧ t.bridge = s.bridge ∧ t.resetHeld = s.resetHeld := by
  unfold State.SupervisorMoves at h
  rw [h]
  exact ⟨rfl, rfl, rfl⟩

/-- A reload taken leaves the head LOADING and the bridge as it was, but that the transaction in progress past its address byte
goes on as one that carried a reload, with no buffer and no snapshot, a read as one the BX8 serves (R145). -/
theorem State.reloadHead_keeps (s : State) (h : s.windowOpen = true) :
    s.reloadHead.head = .loading ∧ s.reloadHead.resetHeld = s.resetHeld
      ∧ s.reloadHead.bridge = { s.bridge with
          txn := { phase := s.bridge.txn.phase.afterReload, runOn := s.bridge.txn.phase.runsOn, buffer := [], snapshot := none } } := by
  have hp : s.SupervisorMoves ((s.parkAll.onExchanges allLanes fun i x u => u.idleLane i x).lapsePlan) :=
    (s.parkAll_moves.trans (State.onExchanges_lanes _ allLanes (fun i x u => u.idleLane i x) fun i x t =>
      ((t.enterQuiet_moves i x).trans rfl)).supervisor).trans (State.onLanes_supervisor _ allLanes
        (fun j t => t.setSlice j ((t.slice j).lapse j)) fun _ _ => rfl)
  obtain ⟨-, hb, hr⟩ := hp.keeps
  unfold State.reloadHead
  rw [if_pos h]
  generalize (s.parkAll.onExchanges allLanes fun i x u => u.idleLane i x).lapsePlan = t at hb hr
  exact ⟨rfl, hr, by simp only [State.deriveAttention, hb]⟩

/-- With the window closed no byte has an effect (R145, R148). -/
theorem State.applyByte_closed (s : State) (a : BusAddr) (v : Byte) (h : s.windowOpen = false) : s.applyByte a v = s := by
  have hw : ∀ f : State → State, s.whenOpen f = s := fun f => by simp [State.whenOpen, h]
  unfold State.applyByte
  split <;> simp [State.headCommandByte, State.legCommandByte, State.legCommand, State.reloadHead, hw, h]

theorem State.applyBytes_closed (s : State) (bytes : List (BusAddr × Byte)) (h : s.windowOpen = false) :
    s.applyBytes bytes = s := by
  unfold State.applyBytes
  induction bytes with
  | nil => rfl
  | cons b rest ih => rw [List.foldl_cons, s.applyByte_closed _ _ h, ih]

/-- A write buffer applied while the window takes commands leaves the head and the bridge as they were, or carries a reload: then
the head is LOADING and the transaction runs on as R145 states. -/
theorem State.applyBytes_cases (s : State) (bytes : List (BusAddr × Byte)) (h : s.windowOpen = true) :
    ((s.applyBytes bytes).head = s.head ∧ (s.applyBytes bytes).bridge = s.bridge)
      ∨ ((s.applyBytes bytes).head = .loading
          ∧ (s.applyBytes bytes).bridge = { s.bridge with
              txn := { phase := s.bridge.txn.phase.afterReload, runOn := s.bridge.txn.phase.runsOn, buffer := []
                       snapshot := none } }) := by
  induction bytes generalizing s with
  | nil => exact .inl ⟨rfl, rfl⟩
  | cons b rest ih =>
    show _ ∨ _
    have e : s.applyBytes (b :: rest) = (s.applyByte b.1 b.2).applyBytes rest := rfl
    rw [e]
    rcases s.applyByte_cases b.1 b.2 with hm | ⟨-, -, -, hr⟩
    · obtain ⟨hh, hb, hs⟩ := hm.keeps
      have hw : (s.applyByte b.1 b.2).windowOpen = true := by simpa [State.windowOpen, hh, hs] using h
      simpa [hh, hb] using ih _ hw
    · obtain ⟨hh, hs, hb⟩ := s.reloadHead_keeps h
      have hw : s.reloadHead.windowOpen = false := by simp [State.windowOpen, hh]
      rw [hr, State.applyBytes_closed _ _ hw]
      exact .inr ⟨hh, hb⟩

end Sys2Proof.Machine
end

