-- ==== Sys2Proof/WellFormed.lean ====
section
/-! DEFINITION. The checks a command's operands meet by the meaning of its row: the word of a frame row is of the row's kind,
and an other write is one that has no effect. Every operand's range is its type's. -/

namespace Sys2Proof.Instr

/-- The command fits its row. A frame row whose word is of another kind still runs, by its word (log 25). -/
def wellFormed : Instr → Bool
  | .tuneFrameArrives _ _ w => Machine.isTuneWord w
  | .fillFrameArrives _ _ w => Machine.isFillWord w
  | .invalidFrame _ _ w => (Machine.readWord w).isNone
  | .liveWindowOtherWrite a v => decide (Machine.spaceOf a = .live) && Machine.writeHasNoEffect a v
  | .powerOn => true
  | .resetLineAssert => true
  | .resetLineRelease => true
  | .signalLost _ _ _ => true
  | .signalRestored _ _ _ => true
  | .measurementRecord _ _ _ _ _ => true
  | .frameIntervalStart _ _ => true
  | .countZeroFrameEnd _ _ => true
  | .frameSilenceExpiry _ _ => true
  | .answerTimerExpiry _ _ => true
  | .trainingBudgetExpiry _ => true
  | .backoffExpiry _ => true
  | .bridgeExpiry _ => true
  | .cutExpiry _ => true
  | .headClockTick => true
  | .retrain _ => true
  | .park _ => true
  | .unpark _ => true
  | .clear _ => true
  | .reload => true
  | .clearEventQueue => true
  | .clearOverrun => true
  | .clearAllLegCounters => true
  | .advance => true
  | .queueClearOverrun => true
  | .acknowledge => true
  | .setViewMode _ => true
  | .setViewLeg _ => true
  | .setFaultAttentionMask _ => true
  | .setEventAttentionMode _ => true
  | .setRolloverAttentionEnable _ => true
  | .switchStart => true
  | .bridgeTakesPort => true
  | .writeAddressPhase _ => true
  | .addressNotForMemory => true
  | .wordAddress _ _ => true
  | .memoryWriteByte _ _ => true
  | .liveWindowWriteByte _ => true
  | .voidWriteByte _ => true
  | .currentAddressRead _ => true
  | .forwardedReadByte _ _ => true
  | .servedReadByte _ => true
  | .repeatedStart _ _ => true
  | .transactionStop => true
  | .abnormalEnd => true
  | .busRecovery => true
  | .agentTakesPort => true
  | .headerChunk _ => true
  | .legRecordChunk _ => true
  | .ringSlotRead _ => true
  | .chunkRetry => true
  | .loadChunkTimeout => true
  | .reloadLoadStart => true
  | .recordWritten => true
  | .failureRecordRetry => true
  | .failureRecordTimeout => true
  | .chunkNotAcknowledged _ => true

end Sys2Proof.Instr
end

