-- ==== Sys2Proof/Tests/Slice0.lean ====
section
/-! SUPPORT. Tests: the smoke of the operand checks, the manual's worked examples, and for every statement with hypotheses a
concrete state and operands that meet them, clause by clause. -/

namespace Sys2Proof.Tests

open Sys2Proof Sys2Proof.Machine

set_option maxRecDepth 8000
set_option Elab.async false

/-! ### The states of the tests -/

theorem forall_side {p : Side → Prop} : (∀ x, p x) ↔ p .s ∧ p .c :=
  ⟨fun h => ⟨h .s, h .c⟩, fun h x => by cases x; exact h.1; exact h.2⟩

theorem forall_class {p : RateClass → Prop} : (∀ r, p r) ↔ p .one ∧ p .two :=
  ⟨fun h => ⟨h .one, h .two⟩, fun h r => by cases r; exact h.1; exact h.2⟩

/-- A running head whose leg 0 owns lane 0, with signals present there; both exchanges of the lane by `e`, the leg by `g`. -/
def oneLeg (e : Exchange → Exchange) (g : Leg → Leg) : State :=
  { State.reset with
    head := .running, agent := { Agent.initial with load := none }
    slices := State.reset.slices.set 0 { owner := some 0, pair := 0, inverted := false, rate := .one }
    rx := State.reset.rx.set 0 ⟨{ RxPath.initial with signal := true }, { RxPath.initial with signal := true }⟩
    ex := State.reset.ex.set 0 ⟨e .initial, e .initial⟩
    legs := State.reset.legs.set 0 { g Leg.initial with width := 1, first := 0 } }

/-- An exchange in TUNE with its watch running. -/
def tuning (e : Exchange) : Exchange := { e with lane := .tune, watch := some 640 }

/-- An exchange in READY. -/
def readyLane (e : Exchange) : Exchange :=
  { e with lane := .ready, watch := some 640, req := { e.req with mode := .content }, partnerVerdict := .content }

/-- An exchange in COUNT that sends its count-0 frame. -/
def counting (e : Exchange) : Exchange :=
  { e with lane := .count, ownCount := 0, zeroSeen := true, req := { e.req with mode := .content } }

/-- An exchange in DATA. -/
def inData (e : Exchange) : Exchange :=
  { e with lane := .data, ownCount := 0, zeroSeen := true, countEnded := true, req := { e.req with mode := .content }
           order := .data }

def training (l : Leg) : Leg := { l with state := .training, budget := some 500000 }

def upState (l : Leg) : Leg := { l with state := .up, released := ⟨true, true⟩ }

def heldLeg (l : Leg) : Leg := { l with state := .held, episode := some 0, bridge := some 2000, released := ⟨true, true⟩ }

def lostLeg (l : Leg) : Leg :=
  { l with state := .lost, episode := some 0, cut := some 500000, kept := ⟨true, false⟩, released := ⟨true, false⟩ }

/-- The leg of `oneLeg` carrying data. -/
def upLeg : State := oneLeg inData upState

/-- A state with the receive path of lane 0 side C gone silent. -/
def silentC (s : State) : State := s.modRx 0 .c fun r => { r with signal := false }

/-- A request of the tests. -/
def aRequest : Request := { tap := .post, delta := 3, seq := 2 }

/-- An exchange in TUNE with a request in flight whose first frame has been sent. -/
def asking (e : Exchange) : Exchange :=
  { tuning e with req := { e.req with current := some aRequest, phase := .outstanding, lastSeq := 2, nextSeq := 3
                                      answerTimer := some 1280 } }

/-- `upLeg` with its bridge in a transaction. -/
def inTxn (phase : TxnPhase) (combined : BusAddr) : State :=
  { upLeg with bridge := { Bridge.initial with port := .bridge, combined, txn := { Txn.initial with phase } } }

/-- A transaction with its memory side open and the mirror at the combined pointer's place. -/
def opened (phase : TxnPhase) (combined : BusAddr) : State :=
  { inTxn phase combined with
    bridge := { (inTxn phase combined).bridge with memOpen := true, mirror := some (memoryPointer combined) } }

/-- A head that loads, its agent's chunk of this step on the port. -/
def loading (stage : LoadStage) (port : Port) : State :=
  { State.reset with
    bridge := { Bridge.initial with port }
    agent := { Agent.initial with load := some { stage, retryWait := true, window := some 20000, best := none } } }

/-- A failure record of the tests. -/
def aRecord : FailureRecord :=
  { leg := 0, time := 7, cause := .legCut, before := .lost, rate := .one, taps := List.replicate 24 1
    eyes := List.replicate 8 2, glitch := 3, lost := 4, skipped := 5, retryWait := true, window := some 20000 }

/-- `upLeg` with a failure record on the port. -/
def writing : State :=
  { upLeg with bridge := { Bridge.initial with port := .agent .record }
               agent := { upLeg.agent with records := [aRecord] } }

/-- A page of zeros but for its first bytes, its last byte making the sum 0 modulo 256. -/
def page (bytes : List Nat) : Page :=
  Vector.ofFn fun i : Fin 64 =>
    BitVec.ofNat 8 (if i.val = 63 then 256 - (bytes.sum % 256) else bytes.getD i.val 0)

theorem oneLeg_planOk (e : Exchange → Exchange) (g : Leg → Leg) : (oneLeg e g).PlanOk := by
  unfold State.PlanOk Leg.groupOk State.inGroup
  exact ⟨of_decide_eq_true rfl, of_decide_eq_true rfl, of_decide_eq_true rfl, of_decide_eq_true rfl, of_decide_eq_true rfl⟩

/-! ### The operand checks refuse an ill-formed command -/

theorem test_wellFormed_tune :
    (Instr.tuneFrameArrives 0 .s 0x80000017).wellFormed = false ∧ (Instr.tuneFrameArrives 0 .s 0x400003CD).wellFormed = true := by
  decide +kernel

theorem test_wellFormed_fill :
    (Instr.fillFrameArrives 0 .s 0x400003CD).wellFormed = false ∧ (Instr.fillFrameArrives 0 .s 0x80000026).wellFormed = true := by
  decide +kernel

theorem test_wellFormed_invalid :
    (Instr.invalidFrame 0 .s 0x80000035).wellFormed = false ∧ (Instr.invalidFrame 0 .s 0x80000036).wellFormed = true := by
  decide +kernel

theorem test_wellFormed_otherWrite :
    (Instr.liveWindowOtherWrite 0x4010 1).wellFormed = false ∧ (Instr.liveWindowOtherWrite 0x4013 0).wellFormed = false
      ∧ (Instr.liveWindowOtherWrite 0x0040 0).wellFormed = false ∧ (Instr.liveWindowOtherWrite 0x4010 5).wellFormed = true
      ∧ (Instr.liveWindowOtherWrite 0x4000 0).wellFormed = true := by decide +kernel

/-! ### Worked examples of the manual -/

/-- Section 2.10. -/
theorem test_word_of_section_2_10 :
    tuneWord { tap := .post, delta := 3, seq := 2, echo := 5, applied := -2, outcome := .trimmed, limit := .floor
               verdict := .seeking, count := 15 } = 0x5B575BC8
      ∧ tuneWord ((Exchange.initial.listenAfresh false).compose true) = 0x400003CD := by decide +kernel

/-- Section 2.10: a delta code 100 that passes the check, and an unchecked bit. -/
theorem test_invalid_words : readWord 0x5C575BC7 = none ∧ checkHolds 0x5C575BC7 = true ∧ readWord 0x5B575BC9 = none := by
  decide +kernel

/-- Section 3.6.1. -/
theorem test_repair_examples :
    repairSet 63 12 ⟨4, 40, 10⟩ = ⟨4, 40, 10⟩ ∧ repairSet 63 12 ⟨18, 58, 20⟩ = ⟨5, 58, 0⟩
      ∧ repairSet 63 20 ⟨12, 26, 9⟩ = ⟨6, 26, 0⟩ ∧ repairSet 50 28 ⟨3, 22, 2⟩ = ⟨0, 28, 0⟩
      ∧ repairSet 45 12 ⟨2, 60, 5⟩ = ⟨0, 45, 0⟩ ∧ repairSet 63 12 ⟨6, 10, 30⟩ = ⟨6, 20, 2⟩ := by decide +kernel

/-- Section 3.5 and 3.5.1: a set, a request, the set after it and its answer, under ceiling 63 and floor 12. -/
def answersAs (t : Coef) (tap : Tap) (delta : Int) (after : Coef) (applied : Int) (outcome : AnswerOutcome)
    (limit : AnswerLimit) : Bool :=
  moveTap 63 12 t tap delta == after && answerFor 63 12 t tap delta 0 == { echo := 0, applied, outcome, limit }

theorem test_responder_case :
    answersAs ⟨4, 40, 10⟩ .post 3 ⟨4, 40, 13⟩ 3 .applied .none ∧ answersAs ⟨4, 40, 13⟩ .main 3 ⟨4, 43, 13⟩ 3 .applied .none
      ∧ answersAs ⟨4, 43, 16⟩ .pre 2 ⟨4, 43, 16⟩ 0 .held .ceiling
      ∧ answersAs ⟨4, 43, 16⟩ .main (-3) ⟨4, 40, 16⟩ (-3) .applied .none
      ∧ answersAs ⟨4, 37, 19⟩ .main (-3) ⟨4, 35, 19⟩ (-2) .trimmed .floor
      ∧ answersAs ⟨4, 35, 19⟩ .pre (-3) ⟨1, 35, 19⟩ (-3) .applied .none
      ∧ answersAs ⟨1, 35, 16⟩ .pre (-3) ⟨0, 35, 16⟩ (-1) .trimmed .tap := by decide +kernel

/-- R64's table. -/
theorem test_policy_deltas :
    policyDelta 7 6 = 1 ∧ policyDelta 11 6 = 1 ∧ policyDelta 12 6 = 2 ∧ policyDelta 18 6 = 3 ∧ policyDelta (-64) 6 = -3
      ∧ policyDelta 2 1 = 2 ∧ policyDelta 61 31 = 1 ∧ policyDelta (-62) 31 = -2 ∧ policyDelta (-44) 22 = -2 := by decide +kernel

/-- Section 8.8, records 1 to 20 and 21 to 35. -/
theorem test_eye_case :
    let m := ([60, 60] ++ List.replicate 18 20).foldl (fun (m : EyeMonitor) e => m.take 30 e) { EyeMonitor.initial with phase := .priming }
    let k := (List.replicate 15 40).foldl (fun (m : EyeMonitor) e => m.take 30 e) m
    m = { phase := .running, acc := 192, current := 24, minimum := 24, maximum := 60, valid := true, alarm := true, run := 0 }
      ∧ k = { phase := .running, acc := 306, current := 38, minimum := 24, maximum := 60, valid := true, alarm := false
              run := 0 } := by decide +kernel

/-- Section 3.6.1, by the table's words for a start set. -/
theorem test_start_taps :
    startTaps 63 12 4 40 10 = (4, 40, 10) ∧ startTaps 63 12 18 58 20 = (5, 58, 0) ∧ startTaps 63 20 12 26 9 = (6, 26, 0)
      ∧ startTaps 50 28 3 22 2 = (0, 28, 0) ∧ startTaps 45 12 2 60 5 = (0, 45, 0) ∧ startTaps 63 12 6 10 30 = (6, 20, 2) := by
  decide +kernel

/-- Section 1.2.1. -/
theorem test_plans :
    ([[4, 2, 1, 1, 0, 0, 0, 0], [1, 1, 2, 1, 1, 2, 0, 0], [0, 0, 2, 0, 1, 0, 0, 0], [2, 1, 1, 4, 0, 0, 0, 0],
        [0, 0, 0, 0, 0, 0, 0, 0]].all fun w => planValid (page (0xB8 :: w))) = true
      ∧ ([[1, 2, 0, 0, 0, 0, 0, 0], [2, 4, 0, 0, 0, 0, 0, 0], [2, 1, 2, 0, 0, 0, 0, 0], [4, 4, 1, 0, 0, 0, 0, 0],
          [3, 0, 0, 0, 0, 0, 0, 0]].any fun w => planValid (page (0xB8 :: w))) = false
      ∧ dealtFirst (page [0xB8, 1, 1, 2, 1, 1, 2, 0, 0]) 5 = 6 := by decide +kernel

/-- Section 1.3.1: a reversed leg of four lanes from lane 4. -/
theorem test_reversed_leg :
    ([4, 5, 6, 7].map fun i : Lane => pairedLane { Leg.initial with
      width := 4, first := 4, profile := { Profile.initial with reverse := true } } i) = [7, 6, 5, 4] := by decide +kernel

/-- R165: the serials of the eight slots 9, 10, 11, 3, 4, torn, 7, 8 lead to slot 3 with serial 12; a blank ring to slot 0. -/
theorem test_ring_scan :
    let slots : List (Fin 8 × Page) := [(0, page [9]), (1, page [10]), (2, page [11]), (3, page [3]), (4, page [4]),
      (5, Vector.replicate 64 0xFF), (6, page [7]), (7, page [8])]
    scanResult (slots.foldl (fun b s => weighSlot b s.1 s.2) none) = (3, 12)
      ∧ scanResult (weighSlot (weighSlot none 0 (Vector.replicate 64 0xFF)) 1 (Vector.replicate 64 0)) = (0, 1) := by
  decide +kernel

/-- R138: the read wraps, and the write wrap inside a page of 64. -/
theorem test_pointer_wraps :
    nextRead 0x3FFF = 0x0000 ∧ nextRead 0x43FF = 0x4000 ∧ nextRead 0xFFFF = 0x4400 ∧ nextWrite 0x00BF = 0x0080
      ∧ nextWrite 0x43FF = 0x4000 ∧ nextWrite 0x4400 = 0x4401 := by decide +kernel

/-- R106: a base of 100 ms, doubled up to sixteen times. -/
theorem test_backoff :
    backoffMicros 10 1 = 100000 ∧ backoffMicros 10 3 = 400000 ∧ backoffMicros 10 5 = 1600000
      ∧ backoffMicros 10 15 = 1600000 := by decide +kernel

/-- R161, R167: the record written sums to 0, carries its serial first, and has 64 bytes. -/
theorem test_failure_record :
    (aRecord.bytes 0x1234).length = 64 ∧ ((aRecord.bytes 0x1234).map BitVec.toNat).sum % 256 = 0
      ∧ (aRecord.bytes 0x1234).take 11 = [0x34, 0x12, 7, 0, 0, 0, 0, 4, 5, 1, 1] := by decide +kernel

/-- Section 10.2: the head status row right after power-on shows LOADING by POWER. -/
theorem test_head_row : (State.reset.rowBytes 0x400).take 5 = [0x8B, 0x01, 4, 1, 0] ∧ (State.reset.rowBytes 0x400).length = 16 := by
  decide +kernel

/-- R98, R97: a leg row right after power-on: PARKED, class 1, pending-differs. -/
theorem test_leg_row : (State.reset.rowBytes 0x402).take 6 = [0, 1, 0, 0, 0, 1] := by decide +kernel

/-- Section 4.10, record 9: POST exhausted upward with its residual beyond the band, and the eye decides. -/
theorem test_record_9 :
    let r := { Requester.initial with marks := { Requester.initial.marks with postPlus := true }, accepted := 4 }
    policy .initial r 51 (-2) 8 = .content false ∧ policy .initial r 45 (-2) 8 = .request .main 1
      ∧ policy .initial { r with marks := { r.marks with mainPlus := true } } 22 1 3 = .eyeShort := by decide +kernel

/-- R81, R94: no leg that does not exist has a side status; a leg parked by a reload, its slices lapsed, is QUIET. -/
theorem test_side_status :
    (State.reset.sideStatus 0 .s = none ∧ upLeg.sideStatus 1 .s = none) ∧ upLeg.sideStatus 0 .s = some .data
      ∧ upLeg.reloadHead.sideStatus 0 .c = some .quiet := by decide +kernel

/-- Section 9.8: at 1.50 ms the resync finds the memory busy, at 6.00 ms it is acknowledged and the bytes follow; R140: a resync
refused at its read address byte has sent that byte. -/
theorem test_resync_of_section_9_8 :
    let s := { inTxn .address 0x0040 with bridge := { (inTxn .address 0x0040).bridge with mirror := some 0x04C0 } }
    let acts := [MemAct.start, .send 0xA8, .send 0x00, .send 0x40, .start, .send 0xA9]
    (s.beginRead .busy).bridge.toMemory = [.start, .send 0xA8, .stop] ∧ (s.beginRead .busy).bridge.mirror = some 0x04C0
      ∧ (s.beginRead .acknowledged).bridge.toMemory = acts ∧ (s.beginRead .acknowledged).bridge.mirror = some 0x0040
      ∧ (s.beginRead .readAddressRefused).bridge.toMemory = acts ++ [.stop]
      ∧ (s.beginRead .highRefused).bridge.toMemory = [.start, .send 0xA8, .send 0x00, .stop] := by decide +kernel

/-- R144: a busy memory ends a chunk at its address byte with a STOP. -/
theorem test_busy_chunk :
    (writing.chunkRefused .record .addressByte).bridge.toMemory = [.send 0xA8, .stop]
      ∧ (writing.chunkRefused .record (.laterByte 1)).bridge.toMemory = [.send 0xA8, .send 4, .send 0, .stop] := by decide +kernel

/-! ### Each statement with hypotheses has a state and operands that meet them -/

theorem witness_StepRunsFrontCommand :
    { State.reset with pending := [.headClockTick] }.pending = .headClockTick :: [] ∧ State.reset.pending = [] := ⟨rfl, rfl⟩

theorem witness_ResetLine : State.reset.heldInReset.resetHeld = true ∧ (inTxn .address 0).bridge.txn.phase ≠ .none := by decide +kernel

theorem witness_LawsHoldAtReset : State.reset = State.reset := rfl

theorem witness_ControlWordRoundTrip :
    TuneFields.sendable ⟨.post, -3, 7, 0, 3, .held, .floor, .content, 15⟩ = true
      ∧ TuneFields.sendable ⟨.none, 3, 0, 7, -3, .none, .none, .seeking, 7⟩ = true
      ∧ readWord 0x400003CD ≠ none ∧ readWord 0x80000035 ≠ none := by decide +kernel

/-- A header of widths 1, 1, 2, 4 and the first lanes of its legs. -/
theorem witness_StoredPagesAreRead :
    ∀ n : LegId, [0, 1, 2, 4, 8, 8, 8, 8].getD n.val 0 =
      ((((page [0xB8, 1, 1, 2, 4]).toList.drop 1).take n.val).map BitVec.toNat).sum := by decide +kernel

/-- `upLeg` with a tick waiting. -/
def ticking : State := { upLeg with pending := [.headClockTick] }

theorem ticking_step : step ticking = .next ticking.popped.tick := rfl

theorem witness_EventQueueKept : ticking.EventsOk ∧ step ticking = .next ticking.popped.tick :=
  ⟨⟨by decide +kernel, trivial⟩, ticking_step⟩

theorem witness_FaultListKept : ticking.FaultsOk ∧ step ticking = .next ticking.popped.tick := by
  refine ⟨?_, ticking_step⟩
  unfold State.FaultsOk
  decide +kernel

theorem witness_AttentionKept : ticking.AttentionOk ∧ step ticking = .next ticking.popped.tick := by
  refine ⟨?_, ticking_step⟩
  unfold State.AttentionOk
  decide +kernel

theorem ticking_legsOk : ticking.LegsOk := by
  unfold State.LegsOk Leg.Ok
  decide +kernel

theorem ticking_lanesOk : ticking.LanesOk := by
  unfold State.LanesOk
  simp only [forall_side]
  decide +kernel

theorem ticking_profilesOk : ticking.ProfilesOk := by
  unfold State.ProfilesOk Profile.Ok
  simp only [forall_side, forall_class]
  decide +kernel

theorem ticking_setsOk : ticking.SetsOk := by
  unfold State.SetsOk State.inGroup
  simp only [forall_side, forall_class]
  decide +kernel

theorem witness_SupervisionKept :
    ticking.LegsOk ∧ ticking.PlanOk ∧ ticking.LanesOk ∧ step ticking = .next ticking.popped.tick :=
  ⟨ticking_legsOk, oneLeg_planOk inData upState, ticking_lanesOk, ticking_step⟩

theorem witness_CoefficientLawKept :
    ticking.LegsOk ∧ ticking.PlanOk ∧ ticking.LanesOk ∧ ticking.ProfilesOk ∧ ticking.SetsOk
      ∧ step ticking = .next ticking.popped.tick :=
  ⟨ticking_legsOk, oneLeg_planOk inData upState, ticking_lanesOk, ticking_profilesOk, ticking_setsOk, ticking_step⟩

theorem witness_ExchangeLawKept :
    ticking.PlanOk ∧ ticking.LanesOk ∧ ticking.ProfilesOk ∧ ticking.SetsOk ∧ ticking.ExchangesOk ∧ ticking.WordsOk
      ∧ step ticking = .next ticking.popped.tick := by
  refine ⟨oneLeg_planOk inData upState, ticking_lanesOk, ticking_profilesOk, ticking_setsOk, ?_, ?_, ticking_step⟩
  · have hr : ∀ (i : Lane) (x : Side), (ticking.exch i x).RequesterOk := by
      unfold Exchange.RequesterOk TapsReceived.Ok Request.Ok
      simp only [forall_side]
      decide +kernel
    have hf : ∀ (i : Lane) (x : Side), (ticking.exch i x).FramesOk := by
      unfold Exchange.FramesOk
      simp only [forall_side]
      decide +kernel
    exact fun i x => ⟨hr i x, hf i x⟩
  · unfold State.WordsOk
    simp only [forall_side]
    decide +kernel

theorem ticking_eyesOk : ticking.EyesOk := by
  unfold State.EyesOk EyeMonitor.Ok
  simp only [forall_side]
  decide +kernel

theorem witness_EyeLawKept : ticking.EyesOk ∧ step ticking = .next ticking.popped.tick := ⟨ticking_eyesOk, ticking_step⟩

theorem witness_AgentLawKept : ticking.LegsOk ∧ ticking.AgentOk ∧ step ticking = .next ticking.popped.tick := by
  refine ⟨ticking_legsOk, ?_, ticking_step⟩
  unfold State.AgentOk
  decide +kernel

theorem witness_BridgeLawKept : ticking.BridgeOk ∧ step ticking = .next ticking.popped.tick := by
  refine ⟨?_, ticking_step⟩
  have hb : ticking.bridge.txn.buffer = [] := rfl
  refine ⟨by decide +kernel, by decide +kernel, by decide +kernel, fun b h => ?_, by decide +kernel, fun r h => ?_,
    by decide +kernel⟩
  · rw [hb] at h; cases h
  · cases h

theorem witness_OneLegAlone :
    upLeg.PlanOk ∧ upLeg.concerned (.park 0) = some 0 ∧ upLeg.concerned (.signalLost 0 .c 5) = some 0
      ∧ exec (.park 0) upLeg = .next (upLeg.legCommand 0 (·.parkLeg 0 .park)) :=
  ⟨oneLeg_planOk _ _, by decide +kernel, by decide +kernel, rfl⟩

theorem witness_ReadsChangeTheBridgeAlone :
    isRead (.currentAddressRead .busy) = true ∧ isRead (.forwardedReadByte 0 true) = true ∧ isRead (.servedReadByte false) = true := by
  decide

theorem witness_SpareLaneDiscards :
    upLeg.owner 7 = none ∧ upLeg.laneState 7 .c = .quiet ∧ upLeg.resetHeld = false := by decide +kernel

/-! #### Signals and records -/

/-- The leg of `oneLeg` in TRAINING with its lane as `e` says. -/
def trainingLeg (e : Exchange → Exchange) : State := oneLeg e training

theorem witness_LaneReturnsToListen :
    (trainingLeg tuning).PlanOk ∧ (trainingLeg tuning).owner 0 = some 0 ∧ (trainingLeg tuning).resetHeld = false
      ∧ (trainingLeg tuning).laneState 0 .s = .tune ∧ (trainingLeg readyLane).laneState 0 .c = .ready
      ∧ (trainingLeg counting).laneState 0 .s = .count
      ∧ ((trainingLeg inData).laneState 0 .s = .data ∧ ((trainingLeg inData).leg 0).state = .training)
      ∧ ((trainingLeg tuning).exch 0 .s).watch = some 640
      ∧ ¬(((trainingLeg fun e => { tuning e with restarts := 2 }).leg 0).state = .training
          ∧ 3 ≤ ((trainingLeg fun e => { tuning e with restarts := 2 }).exch 0 .s).restarts)
      ∧ ((oneLeg asking lostLeg).laneState 0 .s = .tune ∧ ((oneLeg asking lostLeg).exch 0 .s).req.answerTimer = some 1280
          ∧ ((oneLeg asking lostLeg).leg 0).state ≠ .training) :=
  ⟨oneLeg_planOk _ _, by decide +kernel⟩

/-- An exchange in LISTEN. -/
def listening (e : Exchange) : Exchange := { e with lane := .listen }

/-- The losses and restores that change the flag alone: a lane in QUIET of a parked leg, one in LISTEN, one in DATA in LOST. -/
theorem witness_LaneReturnsToListen_flag :
    (oneLeg id id).PlanOk ∧ (trainingLeg listening).PlanOk ∧ (silentC (oneLeg inData lostLeg)).PlanOk
      ∧ ((oneLeg id id).owner 0 = some 0 ∧ (oneLeg id id).resetHeld = false ∧ (oneLeg id id).laneState 0 .s = .quiet
        ∧ ((oneLeg id id).leg 0).state ≠ .held)
      ∧ ((trainingLeg listening).owner 0 = some 0 ∧ (trainingLeg listening).laneState 0 .s = .listen
        ∧ (trainingLeg listening).resetHeld = false ∧ ((trainingLeg listening).leg 0).state ≠ .held)
      ∧ ((silentC (oneLeg inData lostLeg)).owner 0 = some 0 ∧ ((silentC (oneLeg inData lostLeg)).leg 0).state ≠ .held
        ∧ (silentC (oneLeg inData lostLeg)).resetHeld = false) :=
  ⟨oneLeg_planOk _ _, oneLeg_planOk _ _, oneLeg_planOk inData lostLeg, by decide +kernel⟩

theorem witness_LossInLostStartsTheSide :
    (oneLeg inData lostLeg).PlanOk ∧ (oneLeg inData lostLeg).owner 0 = some 0 ∧ (oneLeg inData lostLeg).resetHeld = false
      ∧ ((oneLeg inData lostLeg).leg 0).state = .lost ∧ (oneLeg inData lostLeg).laneState 0 .s = .data
      ∧ (silentC (oneLeg inData heldLeg)).PlanOk ∧ (silentC (oneLeg inData heldLeg)).LanesOk
      ∧ (silentC (oneLeg inData heldLeg)).owner 0 = some 0 ∧ (silentC (oneLeg inData heldLeg)).resetHeld = false
      ∧ ((silentC (oneLeg inData heldLeg)).leg 0).state = .held
      ∧ ∃ j : Lane, (silentC (oneLeg inData heldLeg)).owner j = some 0
          ∧ ∃ y : Side, (j, y) ≠ (0, Side.s) ∧ ((silentC (oneLeg inData heldLeg)).rxPath j y).signal = false := by
  refine ⟨oneLeg_planOk _ _, by decide +kernel, by decide +kernel, by decide +kernel, by decide +kernel,
    oneLeg_planOk inData heldLeg, ?_, by decide +kernel, by decide +kernel, by decide +kernel,
    ⟨0, by decide +kernel, .c, by decide +kernel, by decide +kernel⟩⟩
  unfold State.LanesOk
  simp only [forall_side]
  decide +kernel

theorem witness_LossInUpIsBridged :
    upLeg.PlanOk ∧ upLeg.LanesOk ∧ upLeg.owner 0 = some 0 ∧ upLeg.resetHeld = false ∧ (upLeg.leg 0).state = .up
      ∧ ∀ (j : Lane) (y : Side), upLeg.owner j = some 0 → (upLeg.rxPath j y).signal = true := by
  refine ⟨oneLeg_planOk _ _, ticking_lanesOk, ?_⟩
  simp only [forall_side]
  decide +kernel

theorem witness_LastRestoreEndsGlitch :
    (oneLeg inData heldLeg).PlanOk ∧ (oneLeg inData heldLeg).LanesOk ∧ (oneLeg inData heldLeg).owner 0 = some 0
      ∧ (oneLeg inData heldLeg).resetHeld = false ∧ ((oneLeg inData heldLeg).leg 0).state = .held
      ∧ ((oneLeg inData heldLeg).leg 0).episode = some 0
      ∧ ∀ (j : Lane) (y : Side), (oneLeg inData heldLeg).owner j = some 0 → (j, y) ≠ (0, Side.s) →
          ((oneLeg inData heldLeg).rxPath j y).signal = true := by
  refine ⟨oneLeg_planOk _ _, ?_⟩
  unfold State.LanesOk
  simp only [forall_side]
  decide +kernel

theorem witness_RecordMakesRequest :
    let s := trainingLeg tuning
    s.owner 0 = some 0 ∧ s.laneState 0 .s = .tune ∧ (s.rxPath 0 .s).signal = true ∧ (s.exch 0 .s).req.mode = .seeking
      ∧ (s.exch 0 .s).req.accepted < 96 ∧ ((trainingLeg asking).exch 0 .s).req.phase ≠ .idle
      ∧ (s.exch 0 .s).req.phase = .idle ∧ (s.exch 0 .s).req.stale = false
      ∧ ((trainingLeg fun e => { tuning e with req := { e.req with stale := true } }).exch 0 .s).req.stale = true
      ∧ ((s.leg 0).profile.band < (7#7).toInt.natAbs ∧ (s.exch 0 .s).req.marks.get .post (decide (0 < (7#7).toInt)) = false)
      ∧ ¬(s.leg 0).profile.band < (6#7).toInt.natAbs ∧ (s.leg 0).profile.band < (64#7).toInt.natAbs
      ∧ (s.exch 0 .s).req.marks.get .pre (decide (0 < (64#7).toInt)) = false
      ∧ (47#7).toNat < (s.leg 0).profile.target ∧ (s.exch 0 .s).req.marks.mainPlus = false := by decide +kernel

/-- The lanes that discard a record (R15, R89), and a lane in TUNE whose flag is ABSENT, where the record's values count as 0. -/
theorem witness_RecordMakesRequest_silent :
    ((oneLeg id id).owner 0 = some 0 ∧ (oneLeg id id).laneState 0 .s = .quiet)
      ∧ ((trainingLeg listening).owner 0 = some 0 ∧ (trainingLeg listening).laneState 0 .s = .listen)
      ∧ ((trainingLeg counting).owner 0 = some 0 ∧ (trainingLeg counting).laneState 0 .s = .count)
      ∧ (let s := silentC (trainingLeg tuning)
         s.owner 0 = some 0 ∧ s.laneState 0 .c = .tune ∧ (s.rxPath 0 .c).signal = false
          ∧ 0 < (s.leg 0).profile.target ∧ ¬(s.leg 0).profile.band < (0 : Int).natAbs
          ∧ (s.exch 0 .c).req.marks.mainPlus = false) := by decide +kernel

/-- An exchange whose last answer, the 96th here, has set the stale mark. -/
def staleAtCap (e : Exchange) : Exchange := { tuning e with req := { e.req with accepted := 96, stale := true } }

/-- R62: the record after the 96th accepted answer, and one met by the mark in CONTENT, are discarded with the mark. -/
theorem witness_RecordMakesRequest_stale :
    ∀ e ∈ [staleAtCap .initial, { readyLane .initial with req := { (readyLane .initial).req with stale := true } }],
      ((trainingLeg fun _ => e).owner 0 = some 0 ∧ ((trainingLeg fun _ => e).rxPath 0 .s).signal = true
        ∧ ((trainingLeg fun _ => e).exch 0 .s) = e)
      ∧ (e.lane = .tune ∨ e.lane = .ready) ∧ e.req.phase = .idle ∧ e.req.stale = true := by
  simp only [List.forall_mem_cons]
  exact ⟨by decide +kernel, by decide +kernel, by simp⟩

/-- An exchange that may ask no more. -/
def atCap (e : Exchange) : Exchange := { tuning e with req := { e.req with accepted := 96 } }

/-- An exchange whose tap POST is exhausted upward, in this mode (section 4.10). -/
def exhausted (mode : Verdict) (e : Exchange) : Exchange :=
  { tuning e with req := { e.req with mode, marks := { e.req.marks with postPlus := true } } }

theorem asksNothing_cases :
    (atCap .initial).req.AsksNothing .initial 24 63 (-64) ∧ (atCap .initial).req.AsksNothing .initial 23 0 0
      ∧ (exhausted .seeking .initial).req.AsksNothing .initial 51 (-2) 8 := by
  unfold Requester.AsksNothing
  decide +kernel

/-- The records 12 and above of section 4.11, and one of each tap. -/
theorem asks_cases :
    (readyLane .initial).req.Asks .initial 23 0 0 .main 1 ∧ (readyLane .initial).req.Asks .initial 23 0 7 .post 1
      ∧ (readyLane .initial).req.Asks .initial 23 (-18) 6 .pre (-3)
      ∧ (exhausted .content .initial).req.Asks .initial 23 0 7 .main 1 := by
  unfold Requester.Asks
  refine ⟨⟨by decide, ?_⟩, ⟨by decide, ?_⟩, ⟨by decide, ?_⟩, ⟨by decide, ?_⟩⟩ <;> decide +kernel

theorem witness_RecordEndsTheSearch :
    ((trainingLeg atCap).PlanOk ∧ (oneLeg atCap lostLeg).PlanOk ∧ (trainingLeg (exhausted .seeking)).PlanOk
      ∧ (trainingLeg readyLane).PlanOk ∧ (trainingLeg (exhausted .content)).PlanOk)
      ∧ ((atCap .initial).req.AsksNothing .initial 24 63 (-64) ∧ (atCap .initial).req.AsksNothing .initial 23 0 0
        ∧ (exhausted .seeking .initial).req.AsksNothing .initial 51 (-2) 8)
      ∧ ((readyLane .initial).req.Asks .initial 23 0 0 .main 1 ∧ (readyLane .initial).req.Asks .initial 23 0 7 .post 1
        ∧ (readyLane .initial).req.Asks .initial 23 (-18) 6 .pre (-3)
        ∧ (exhausted .content .initial).req.Asks .initial 23 0 7 .main 1)
      ∧ (∀ e ∈ [atCap, exhausted .seeking, readyLane, exhausted .content], ((trainingLeg e).exch 0 .s) = e .initial
        ∧ ((trainingLeg e).rxPath 0 .s).signal = true ∧ (e .initial).req.phase = .idle ∧ (e .initial).req.stale = false)
      ∧ ((trainingLeg atCap).owner 0 = some 0 ∧ ((trainingLeg atCap).leg 0).profile = .initial
        ∧ ((trainingLeg atCap).leg 0).state = .training ∧ ((oneLeg atCap lostLeg).leg 0).state ≠ .training
        ∧ (atCap .initial).lane = .tune ∧ (atCap .initial).req.mode = .seeking ∧ (readyLane .initial).lane = .ready
        ∧ (readyLane .initial).req.mode = .content ∧ (exhausted .content .initial).lane = .tune
        ∧ Profile.initial.minimum ≤ (24#7).toNat ∧ Profile.initial.target ≤ (51#7).toNat
        ∧ (23#7).toNat < Profile.initial.target ∧ (23#7).toNat < Profile.initial.minimum) :=
  ⟨⟨oneLeg_planOk _ _, oneLeg_planOk _ _, oneLeg_planOk _ _, oneLeg_planOk _ _, oneLeg_planOk _ _⟩, asksNothing_cases,
    asks_cases, by simp [trainingLeg, oneLeg, State.exch, State.rxPath]; decide +kernel, by decide +kernel⟩

/-- `upLeg` with the eye paths of lane 0 in this phase, one record short of an alarm. -/
def watched (phase : EyePhase) : State :=
  upLeg.modRx 0 .s fun r => { r with eye := { r.eye with phase, acc := 160, current := 20, run := 7 } }

theorem witness_EyeRecordUpdates :
    (watched .priming).owner 0 = some 0 ∧ (watched .priming).laneState 0 .s = .data
      ∧ ((watched .priming).rxPath 0 .s).eye.phase ≠ .idle ∧ ((watched .priming).rxPath 0 .s).eye.phase = .priming
      ∧ ((watched .running).rxPath 0 .s).eye.phase = .running := by decide +kernel

/-! #### Frames -/

/-- The fields of a frame that asks for one more step of POST. -/
def askingFields : TuneFields := ⟨.post, 1, 3, 0, 0, .none, .none, .seeking, 15⟩

theorem readWord_asking : readWord (tuneWord askingFields) = some (.tune askingFields) := by decide +kernel

/-- Side S of lane 0 in READY with its set at the floor. -/
def atBound : State :=
  { trainingLeg readyLane with tx := State.reset.tx.set 0 ⟨{ TxPath.initial with inUse := ⟨4, 35, 19⟩ }, .initial⟩ }

/-- Section 3.5, R48: requests that end at a bound: PRE by +1 at the floor, PRE by +3 and MAIN by +1 at the ceiling, POST and
MAIN at their own ends. -/
theorem test_limits :
    answersAs ⟨4, 35, 19⟩ .pre 1 ⟨4, 35, 19⟩ 0 .held .floor ∧ answersAs ⟨14, 44, 5⟩ .pre 3 ⟨14, 44, 5⟩ 0 .held .ceiling
      ∧ answersAs ⟨4, 49, 10⟩ .main 1 ⟨4, 49, 10⟩ 0 .held .ceiling ∧ answersAs ⟨0, 60, 0⟩ .main 1 ⟨0, 60, 0⟩ 0 .held .tap
      ∧ answersAs ⟨0, 20, 0⟩ .main (-1) ⟨0, 20, 0⟩ 0 .held .tap ∧ answersAs ⟨0, 38, 22⟩ .post 3 ⟨0, 38, 23⟩ 1 .trimmed .tap := by
  decide +kernel

theorem witness_RequestIsClampedAndAnswered :
    ((trainingLeg tuning).PlanOk ∧ atBound.PlanOk ∧ atBound.owner 0 = some 0 ∧ atBound.laneState 0 .s = .ready
      ∧ (atBound.txPath 0 .s).inUse.feasible 63 12 = true ∧ (atBound.leg 0).profile.ceiling = 63
      ∧ (atBound.leg 0).profile.floor = 12 ∧ (atBound.exch 0 .s).lastAnswered ≠ some askingFields.seq
      ∧ ((atBound.takeTune 0 0 .s askingFields).exch 0 .s).lastGiven.applied ≠ askingFields.delta
      ∧ ((atBound.takeTune 0 0 .s { askingFields with tap := .pre }).exch 0 .s).lastGiven.applied ≠ askingFields.delta
      ∧ ((atBound.takeTune 0 0 .s { askingFields with tap := .main, delta := -1 }).exch 0 .s).lastGiven.applied ≠ -1) ∧
    (let s := trainingLeg tuning
     s.owner 0 = some 0 ∧ s.laneState 0 .s = .tune ∧ readWord (tuneWord askingFields) = some (.tune askingFields)
      ∧ (s.exch 0 .s).lastAnswered ≠ some askingFields.seq
      ∧ (s.txPath 0 .s).inUse.feasible (s.leg 0).profile.ceiling (s.leg 0).profile.floor = true ∧ askingFields.tap ≠ .none
      ∧ askingFields.tap ≠ .restart ∧ askingFields.tap = .post
      ∧ readWord (tuneWord { askingFields with tap := .pre }) = some (.tune { askingFields with tap := .pre })
      ∧ readWord (tuneWord { askingFields with tap := .main }) = some (.tune { askingFields with tap := .main })
      ∧ readWord (tuneWord { askingFields with tap := .restart }) = some (.tune { askingFields with tap := .restart })) :=
  ⟨⟨oneLeg_planOk _ _, oneLeg_planOk readyLane training, by decide +kernel⟩, by decide +kernel⟩

/-- An exchange in TUNE, and one in READY, that have answered the request of `askingFields`, and a frame without a request. -/
theorem witness_RequestIsClampedAndAnswered_passedOver :
    let answered (e : Exchange) : Exchange := { e with lastAnswered := some 3 }
    (∀ f : Exchange → Exchange, (trainingLeg fun e => answered (f e)).PlanOk)
      ∧ (∀ f ∈ [tuning, readyLane],
        let s := trainingLeg fun e => answered (f e)
        s.owner 0 = some 0 ∧ (s.laneState 0 .s = .tune ∨ s.laneState 0 .s = .ready)
          ∧ (s.exch 0 .s).lastAnswered = some askingFields.seq)
      ∧ (readWord (tuneWord { askingFields with tap := .none }) = some (.tune { askingFields with tap := .none })
        ∧ (({ askingFields with tap := .none } : TuneFields).tap = .none)) := by
  refine ⟨fun f => oneLeg_planOk _ _, ?_, by decide +kernel⟩
  simp only [List.forall_mem_cons]
  exact ⟨by decide +kernel, by decide +kernel, by simp⟩

/-- The fields of a frame that answers `aRequest` and is content. -/
def answeringFields : TuneFields := ⟨.none, 0, 0, 2, 3, .applied, .none, .content, 15⟩

theorem readWord_answering : readWord (tuneWord answeringFields) = some (.tune answeringFields) := by decide +kernel

/-- A request in flight in SEEKING, with a frame that answers it and one that carries a request beside the answer. -/
theorem witness_AnswerIsAcceptedOrIgnored :
    let s := trainingLeg asking
    let both : TuneFields := { answeringFields with tap := .pre, delta := 1, seq := 6, verdict := .seeking }
    s.PlanOk ∧ s.owner 0 = some 0 ∧ s.laneState 0 .s = .tune
      ∧ readWord (tuneWord answeringFields) = some (.tune answeringFields) ∧ answeringFields.tap = .none
      ∧ (s.exch 0 .s).req.current = some aRequest ∧ (s.exch 0 .s).req.mode = .seeking
      ∧ readWord (tuneWord both) = some (.tune both) ∧ both.tap ≠ .none ∧ (s.exch 0 .s).lastAnswered ≠ some both.seq
      ∧ (s.txPath 0 .s).inUse.feasible (s.leg 0).profile.ceiling (s.leg 0).profile.floor = true
      ∧ ((s.takeTune 0 0 .s both).exch 0 .s).req.current = none ∧ ((s.takeTune 0 0 .s both).exch 0 .s).answered = 1 :=
  ⟨oneLeg_planOk _ _, by decide +kernel⟩

/-- A requester with no current request, one whose mode is CONTENT, and one whose lane is READY. -/
theorem witness_AnswerIsAcceptedOrIgnored_ignored :
    ∀ e ∈ [tuning .initial, { tuning .initial with req := { Requester.initial with mode := .content } }, readyLane .initial],
      (trainingLeg fun _ => e).PlanOk ∧ (trainingLeg fun _ => e).owner 0 = some 0
        ∧ (e.lane = .tune ∨ e.lane = .ready) ∧ e.RequesterOk ∧ e.req.current = none
        ∧ ((trainingLeg fun _ => e).exch 0 .s).lane = e.lane := by
  simp only [List.forall_mem_cons]
  refine ⟨⟨oneLeg_planOk _ _, by decide +kernel, by decide +kernel, ?_, by decide +kernel, by decide +kernel⟩,
    ⟨oneLeg_planOk _ _, by decide +kernel, by decide +kernel, ?_, by decide +kernel, by decide +kernel⟩,
    ⟨oneLeg_planOk _ _, by decide +kernel, by decide +kernel, ?_, by decide +kernel, by decide +kernel⟩, by simp⟩
  all_goals
    unfold Exchange.RequesterOk TapsReceived.Ok Request.Ok
    decide +kernel

/-- R25: the request of the frame that takes a lane from LISTEN to TUNE is answered, the first of the exchange start. -/
theorem test_first_request :
    (let t := (oneLeg (fun e => e.listenAfresh false) id).takeTune 0 0 .s askingFields
     (t.txPath 0 .s).inUse = ⟨4, 40, 11⟩ ∧ (t.exch 0 .s).answered = 1 ∧ (t.exch 0 .s).lastAnswered = some 3
      ∧ (t.exch 0 .s).lastGiven = { echo := 3, applied := 1, outcome := .applied, limit := .none }) := by decide +kernel

/-- A WAITING leg whose side S is in LISTEN and whose side C is in TUNE. -/
def lastListener (present : Bool) : State :=
  { oneLeg id (fun l => { l with state := .waiting }) with
    ex := State.reset.ex.set 0 ⟨{ Exchange.initial with lane := .listen }, tuning .initial⟩
    rx := State.reset.rx.set 0 ⟨{ RxPath.initial with signal := present }, { RxPath.initial with signal := true }⟩ }

theorem witness_FirstFrameEntersTune :
    (lastListener true).PlanOk ∧ (lastListener true).owner 0 = some 0 ∧ (lastListener true).laneState 0 .s = .listen
      ∧ ((lastListener true).exch 0 .s).req.mode = .seeking ∧ readWord (tuneWord askingFields) = some (.tune askingFields)
      ∧ (((lastListener true).exch 0 .s).lastAnswered = none ∧ askingFields.tap ≠ .none
        ∧ ((lastListener true).txPath 0 .s).inUse.feasible ((lastListener true).leg 0).profile.ceiling
            ((lastListener true).leg 0).profile.floor = true)
      ∧ ((lastListener false).rxPath 0 .s).signal = false ∧ ((lastListener true).rxPath 0 .s).signal = true
      ∧ ((lastListener true).leg 0).state = .waiting
      ∧ (∀ (j : Lane) (y : Side), (lastListener true).owner j = some 0 → (j, y) ≠ (0, Side.s) →
          (lastListener true).laneState j y ≠ .listen ∧ (lastListener true).laneState j y ≠ .quiet
            ∧ (lastListener true).laneState j y ≠ .count ∧ (lastListener true).laneState j y ≠ .data)
      ∧ ∃ j : Lane, (oneLeg (fun e => { e with lane := .listen }) id).owner j = some 0
          ∧ ∃ y : Side, (j, y) ≠ (0, Side.s) ∧ (oneLeg (fun e => { e with lane := .listen }) id).laneState j y = .listen := by
  refine ⟨oneLeg_planOk id fun l => { l with state := .waiting }, by decide +kernel, by decide +kernel, by decide +kernel,
    readWord_asking, by decide +kernel, by decide +kernel, by decide +kernel, by decide +kernel, ?_,
    ⟨0, by decide +kernel, .c, by decide +kernel, by decide +kernel⟩⟩
  simp only [forall_side]
  decide +kernel

theorem witness_FillAndInvalidFrames :
    (trainingLeg readyLane).PlanOk ∧ (trainingLeg readyLane).owner 0 = some 0
      ∧ readWord 0x80000017 = some (.fill .standby) ∧ readWord 0x80000018 = none
      ∧ (lastListener true).laneState 0 .s = .listen ∧ (trainingLeg tuning).laneState 0 .s = .tune
      ∧ upLeg.laneState 0 .s = .data ∧ (trainingLeg readyLane).laneState 0 .s = .ready
      ∧ ((trainingLeg counting).laneState 0 .s = .count ∧ ((trainingLeg counting).exch 0 .s).countEnded = false)
      ∧ ((trainingLeg readyLane).leg 0).state ≠ .waiting ∧ (oneLeg id id).laneState 0 .s = .quiet :=
  ⟨oneLeg_planOk _ _, by decide +kernel⟩

/-- An owned lane in QUIET, which takes neither a FILL frame nor a TUNE frame. -/
theorem witness_FillAndInvalidFrames_quiet :
    (oneLeg id id).PlanOk ∧ (oneLeg id id).owner 0 = some 0 ∧ (oneLeg id id).laneState 0 .s = .quiet
      ∧ readWord (tuneWord askingFields) = some (.tune askingFields) :=
  ⟨oneLeg_planOk _ _, by decide +kernel⟩

/-- Side S is content in TUNE, side C in this state. -/
def lastReady (other : Exchange → Exchange) : State :=
  { trainingLeg id with ex := State.reset.ex.set 0 ⟨{ readyLane .initial with lane := .tune }, other .initial⟩ }

/-- Side S is the last to be content again, side C carries data, the leg in TRAINING or LOST. -/
def gatedSide (g : Leg → Leg) : State :=
  { oneLeg id g with ex := State.reset.ex.set 0 ⟨{ readyLane .initial with lane := .tune }, inData .initial⟩ }

theorem witness_ReleaseGate_side :
    (gatedSide training).PlanOk ∧ (gatedSide lostLeg).PlanOk ∧ ∀ g ∈ [training, lostLeg],
      (gatedSide g).owner 0 = some 0 ∧ (gatedSide g).laneState 0 .s = .tune ∧ ((gatedSide g).exch 0 .s).req.mode = .content
        ∧ (((gatedSide g).leg 0).state = .training ∨ ((gatedSide g).leg 0).state = .lost)
        ∧ (∀ j : Lane, (gatedSide g).owner j = some 0 → j ≠ 0 → (gatedSide g).laneState j .s = .ready)
        ∧ ∀ j : Lane, (gatedSide g).owner j = some 0 → (gatedSide g).laneState j .c = .data := by
  refine ⟨oneLeg_planOk id training, oneLeg_planOk id lostLeg, ?_⟩
  simp only [List.forall_mem_cons]
  exact ⟨by decide +kernel, by decide +kernel, by simp⟩

/-- Side S is in TUNE, its requester about to be content by its next record, the partner content; side C is in READY. -/
def recordReadies (g : Leg → Leg) : State :=
  { oneLeg id g with
    ex := State.reset.ex.set 0 ⟨{ tuning .initial with partnerVerdict := .content }, readyLane .initial⟩ }

/-- A leg in LOST whose both sides have been started. -/
def lostBoth (l : Leg) : Leg := { lostLeg l with kept := ⟨false, false⟩, released := ⟨false, false⟩ }

/-- R84, R122: by a record in TRAINING, in LOST with neither side kept, and in WAITING, all other lanes in READY. -/
theorem witness_ReleaseGate_record :
    (recordReadies training).PlanOk ∧ (recordReadies lostBoth).PlanOk
      ∧ (recordReadies fun l => { l with state := .waiting }).PlanOk
      ∧ ((recordReadies training).exch 0 .s).req.AsksNothing ((recordReadies training).leg 0).profile 127 0 0
      ∧ (∀ g ∈ [training, lostBoth, fun l => { l with state := .waiting }],
        (recordReadies g).owner 0 = some 0 ∧ (recordReadies g).laneState 0 .s = .tune
          ∧ ((recordReadies g).exch 0 .s).partnerVerdict = .content ∧ ((recordReadies g).exch 0 .s).req.mode = .seeking
          ∧ ((recordReadies g).exch 0 .s).req.phase = .idle ∧ ((recordReadies g).exch 0 .s).req.stale = false
          ∧ ((recordReadies g).rxPath 0 .s).signal = true
          ∧ ((recordReadies g).leg 0).profile.target ≤ (127#7).toNat
          ∧ ((recordReadies g).leg 0).released = ⟨false, false⟩
          ∧ ∀ (j : Lane) (y : Side), (recordReadies g).owner j = some 0 → (j, y) ≠ (0, Side.s) →
              (recordReadies g).laneState j y = .ready) := by
  refine ⟨oneLeg_planOk id training, oneLeg_planOk id lostBoth, oneLeg_planOk id fun l => { l with state := .waiting }, ?_, ?_⟩
  · unfold Requester.AsksNothing
    decide +kernel
  · simp only [List.forall_mem_cons, forall_side]
    exact ⟨by decide +kernel, by decide +kernel, by decide +kernel, by simp⟩

theorem witness_ReleaseGate :
    (lastReady readyLane).PlanOk ∧ (lastReady readyLane).owner 0 = some 0
      ∧ readWord (tuneWord answeringFields) = some (.tune answeringFields) ∧ answeringFields.verdict = .content
      ∧ (lastReady readyLane).laneState 0 .s = .tune ∧ ((lastReady readyLane).exch 0 .s).req.mode = .content
      ∧ ((lastReady readyLane).leg 0).state = .training ∧ ((lastReady readyLane).leg 0).released = ⟨false, false⟩
      ∧ (∀ (j : Lane) (y : Side), (lastReady readyLane).owner j = some 0 → (j, y) ≠ (0, Side.s) →
          (lastReady readyLane).laneState j y = .ready)
      ∧ (∀ (j : Lane) (y : Side), (lastReady tuning).owner j = some 0 → (j, y) ≠ (0, Side.s) →
          (lastReady tuning).laneState j y = .tune)
      ∧ (trainingLeg readyLane).laneState 0 .s = .ready ∧ ((trainingLeg readyLane).leg 0).released.get .s = false
      ∧ ((oneLeg readyLane fun l => { training l with released := ⟨true, true⟩ }).leg 0).released.get .s = true
      ∧ (readWord (tuneWord { askingFields with tap := .none, delta := 0 }) =
          some (.tune { askingFields with tap := .none, delta := 0 })
        ∧ ((trainingLeg readyLane).exch 0 .s).req.current = none) := by
  refine ⟨oneLeg_planOk id training, ?_⟩
  simp only [forall_side]
  decide +kernel

theorem witness_PartnerRevertLeavesUp :
    (upLeg.PlanOk ∧ upLeg.LanesOk ∧ upLeg.owner 0 = some 0 ∧ (upLeg.leg 0).state = .up
      ∧ readWord (tuneWord askingFields) = some (.tune askingFields) ∧ askingFields.verdict = .seeking)
      ∧ ((silentC (oneLeg inData heldLeg)).PlanOk ∧ (silentC (oneLeg inData heldLeg)).LanesOk
        ∧ ((silentC (oneLeg inData heldLeg)).leg 0).state = .held
        ∧ ((silentC (oneLeg inData heldLeg)).rxPath 0 .c).signal = false)
      ∧ ((trainingLeg counting).PlanOk ∧ (trainingLeg counting).LanesOk ∧ ((trainingLeg counting).leg 0).state = .training
        ∧ (trainingLeg counting).laneState 0 .s = .count)
      ∧ ((oneLeg inData lostLeg).PlanOk ∧ (oneLeg inData lostLeg).LanesOk ∧ ((oneLeg inData lostLeg).leg 0).state = .lost
        ∧ (oneLeg inData lostLeg).laneState 0 .s = .data) := by
  refine ⟨⟨oneLeg_planOk _ _, ticking_lanesOk, by decide +kernel⟩, ⟨oneLeg_planOk inData heldLeg, ?_, by decide +kernel⟩,
    ⟨oneLeg_planOk _ _, ?_, by decide +kernel⟩, ⟨oneLeg_planOk _ _, ?_, by decide +kernel⟩⟩ <;>
  · unfold State.LanesOk
    simp only [forall_side]
    decide +kernel

/-- An exchange whose request waits for its first frame. -/
def aboutToAsk : Exchange :=
  { asking .initial with req := { (asking .initial).req with phase := .pending, answerTimer := none } }

/-- The lane states in which an interval starts: LISTEN, TUNE with a request pending, outstanding and without one, READY, COUNT
at both ends of its run, DATA. -/
def frameCases : List Exchange :=
  [{ Exchange.initial with lane := .listen }, aboutToAsk, asking .initial, tuning .initial, readyLane .initial,
    { counting .initial with ownCount := 15 }, { counting .initial with ownCount := 1 },
    { counting .initial with countEnded := true }, inData .initial]

theorem frameCases_requesterOk : ∀ e ∈ frameCases, e.RequesterOk := by
  unfold Exchange.RequesterOk TapsReceived.Ok Request.Ok
  decide +kernel

theorem witness_IntervalStartsFrame :
    (∀ e ∈ frameCases, e.RequesterOk ∧ (oneLeg (fun _ => e) training).exch 0 .s = e)
      ∧ (aboutToAsk.lane = .tune ∧ aboutToAsk.req.current = some aRequest ∧ aboutToAsk.req.phase = .pending)
      ∧ ((asking .initial).lane = .tune ∧ (asking .initial).req.current = some aRequest
        ∧ (asking .initial).req.phase = .outstanding)
      ∧ (tuning .initial).req.current = none ∧ (readyLane .initial).lane = .ready
      ∧ (counting .initial).lane = .count ∧ (15 : BitVec 4) ≠ 0 ∧ (1 : BitVec 4) ≠ 0 ∧ (counting .initial).countEnded = false
      ∧ (inData .initial).lane = .data :=
  ⟨fun e h => ⟨frameCases_requesterOk e h, rfl⟩, by decide +kernel⟩

/-- Lanes by service order, a lane in QUIET, and one whose count-0 frame is open. -/
theorem witness_IntervalStartsFrame_orders :
    (∀ o ∈ [ServiceOrder.quiet, .standby, .gap, .fault, .data], { inData .initial with order := o }.order = o)
      ∧ Exchange.initial.lane = .quiet
      ∧ ((counting .initial).lane = .count ∧ (counting .initial).ownCount = 0 ∧ (counting .initial).countEnded = false) :=
  ⟨fun _ _ => rfl, by decide +kernel⟩

/-- Side S sends its count-0 frame, side C is in DATA. -/
def lastCounter (ended : Bool) : State :=
  { trainingLeg id with ex := State.reset.ex.set 0 ⟨{ counting .initial with countEnded := ended }, inData .initial⟩ }

/-- The fields of a count frame. -/
def countFields (count : BitVec 4) : TuneFields := ⟨.none, 0, 0, 0, 0, .none, .none, .content, count⟩

theorem witness_HandoverCompletes_tune :
    (∀ k ∈ [(0#4), 3#4], readWord (tuneWord (countFields k)) = some (.tune (countFields k))
        ∧ (countFields k).verdict = .content)
      ∧ (countFields 0).count = 0 ∧ (countFields 3).count ≠ 0 ∧ upLeg.PlanOk ∧ upLeg.laneState 0 .s = .data
      ∧ (lastCounter false).laneState 0 .s = .count ∧ ((lastCounter false).exch 0 .s).countEnded = false
      ∧ ((lastCounter true).laneState 0 .s = .count ∧ ((lastCounter true).exch 0 .s).ownCount = 0
        ∧ ((lastCounter true).exch 0 .s).countEnded = true)
      ∧ { (lastCounter true).exch 0 .s with zeroSeen := false }.zeroSeen = false := by
  simp only [List.forall_mem_cons]
  exact ⟨⟨by decide +kernel, by decide +kernel, by simp⟩, by decide +kernel, by decide +kernel, oneLeg_planOk _ _,
    by decide +kernel⟩

theorem witness_HandoverCompletes :
    (lastCounter false).PlanOk ∧ (lastCounter false).owner 0 = some 0 ∧ (lastCounter false).laneState 0 .s = .count
      ∧ ((lastCounter false).exch 0 .s).ownCount = 0 ∧ ((lastCounter false).exch 0 .s).countEnded = false
      ∧ ((lastCounter false).exch 0 .s).zeroSeen = true ∧ ((lastCounter true).exch 0 .s).countEnded = true
      ∧ readWord 0x80000026 = some (.fill .gap) ∧ ((lastCounter false).leg 0).state = .training
      ∧ ∀ (j : Lane) (y : Side), (lastCounter false).owner j = some 0 → (j, y) ≠ (0, Side.s) →
          (lastCounter false).laneState j y = .data := by
  refine ⟨oneLeg_planOk id training, ?_⟩
  simp only [forall_side]
  decide +kernel

/-! #### Timers -/

/-- A leg in TRAINING whose next failed attempt is its last. -/
def lastAttempt (spacing : Nat) : State :=
  { oneLeg asking fun l => { training l with profile := { l.profile with retryLimit := 1 } } with
    agent := { Agent.initial with load := none, spacing } }

/-- R166: the last attempt asks for a failure record of cause RETRY_OUT, an earlier one for none. -/
theorem test_last_attempt :
    ((lastAttempt 0).failAttempt 0 .budget .trainTimeout .budget).agent.records.map (·.cause) = [.retryOut]
      ∧ ((trainingLeg asking).failAttempt 0 .budget .trainTimeout .budget).agent.records = [] := by decide +kernel

theorem witness_AttemptFails :
    ((lastAttempt 0).PlanOk ∧ ((lastAttempt 0).leg 0).state = .training ∧ ((lastAttempt 0).leg 0).budget = some 500000
        ∧ (lastAttempt 0).agent.spacing = 0 ∧ (lastAttempt 1).agent.spacing ≠ 0) ∧
    (trainingLeg asking).PlanOk ∧ ((trainingLeg asking).leg 0).state = .training
      ∧ ((trainingLeg asking).leg 0).budget = some 500000 ∧ (trainingLeg asking).owner 0 = some 0
      ∧ (trainingLeg asking).laneState 0 .s = .tune ∧ ((trainingLeg asking).exch 0 .s).req.answerTimer = some 1280
      ∧ ((trainingLeg fun e => { readyLane e with restarts := 3 }).exch 0 .s).watch = some 640
      ∧ 3 ≤ ((trainingLeg fun e => { readyLane e with restarts := 3 }).exch 0 .s).restarts :=
  ⟨⟨oneLeg_planOk asking fun l => { training l with profile := { l.profile with retryLimit := 1 } }, by decide +kernel⟩,
    oneLeg_planOk _ _, by decide +kernel⟩

/-- The leg of `oneLeg` in DOWN. -/
def downLeg : State := oneLeg id fun l => { l with state := .down, backoff := some 100000, retry := 1 }

theorem witness_BackoffReachesBoundary :
    downLeg.PlanOk ∧ (downLeg.leg 0).state = .down ∧ (downLeg.leg 0).backoff = some 100000 :=
  ⟨oneLeg_planOk _ _, by decide +kernel⟩

theorem witness_BridgeExpiryStartsRecovery :
    (oneLeg inData heldLeg).PlanOk ∧ (oneLeg inData heldLeg).LanesOk ∧ ((oneLeg inData heldLeg).leg 0).state = .held
      ∧ ((oneLeg inData heldLeg).leg 0).bridge = some 2000 := by
  refine ⟨oneLeg_planOk _ _, ?_⟩
  unfold State.LanesOk
  simp only [forall_side]
  decide +kernel

theorem witness_CutExpiryEndsRecovery :
    (oneLeg inData lostLeg).PlanOk ∧ ((oneLeg inData lostLeg).leg 0).state = .lost
      ∧ ((oneLeg inData lostLeg).leg 0).cut = some 500000 ∧ (oneLeg inData lostLeg).agent.spacing = 0
      ∧ { oneLeg inData lostLeg with agent := { Agent.initial with load := none, spacing := 1 } }.agent.spacing ≠ 0 :=
  ⟨oneLeg_planOk _ _, by decide +kernel⟩

theorem witness_HeadClockRises : upLeg.resetHeld = false := by decide +kernel

/-! #### Commands of the live window -/

theorem witness_RetrainAndUnpark :
    upLeg.PlanOk ∧ upLeg.windowOpen = true ∧ upLeg.legExists 0 = true ∧ (upLeg.leg 0).state ≠ .parked
      ∧ (oneLeg id id).PlanOk ∧ (oneLeg id id).windowOpen = true ∧ (oneLeg id id).legExists 0 = true
      ∧ ((oneLeg id id).leg 0).state = .parked ∧ ((oneLeg id id).leg 0).retry = 0 :=
  ⟨oneLeg_planOk _ _, by decide +kernel, by decide +kernel, by decide +kernel, oneLeg_planOk _ _, by decide +kernel⟩

theorem witness_ParkQuietsTheLeg :
    upLeg.windowOpen = true ∧ upLeg.legExists 0 = true ∧ (upLeg.leg 0).state ≠ .parked
      ∧ (oneLeg id id).windowOpen = true ∧ (oneLeg id id).legExists 0 = true ∧ ((oneLeg id id).leg 0).state = .parked := by
  decide +kernel

theorem witness_ClearZeroesCounters :
    upLeg.PlanOk ∧ upLeg.windowOpen = true ∧ upLeg.legExists 0 = true
      ∧ { State.reset with head := .planBad }.windowOpen = true ∧ { State.reset with head := .planBad }.legExists 0 = false :=
  ⟨oneLeg_planOk _ _, by decide +kernel⟩

theorem witness_CommandsIgnored :
    isWindowCommand .reload = true ∧ State.reset.windowOpen = false ∧ upLeg.legExists 1 = false
      ∧ ((oneLeg id id).leg 0).state = .parked ∧ (upLeg.leg 0).state ≠ .parked
      ∧ (writeHasNoEffect 0x4010 0 = true ∧ writeHasNoEffect 0x4010 5 = true ∧ writeHasNoEffect 0x402F 5 = true
        ∧ writeHasNoEffect 0x4216 1 = true)
      ∧ writeHasNoEffect 0x4010 4 = false ∧ writeHasNoEffect 0x409F 1 = false := by decide +kernel

theorem witness_ReloadParksTheHead :
    upLeg.windowOpen = true ∧ upLeg.LegsOk ∧ upLeg.PlanOk ∧ upLeg.LanesOk ∧ upLeg.EyesOk
      ∧ upLeg.report.events.length ≤ 32 ∧ upLeg.legExists 0 = true ∧ (upLeg.leg 0).state ≠ .parked :=
  ⟨by decide +kernel, ticking_legsOk, oneLeg_planOk _ _, ticking_lanesOk, ticking_eyesOk, by decide +kernel⟩

/-- `upLeg` with one fault entry. -/
def faulted (active : Bool) : State :=
  let s := upLeg.setCondition (some 0) .legCut active
  { s with report := { s.report with faults := [{ FaultEntry.fresh (some 0) .legCut 0 5 with active }] } }

theorem witness_AcknowledgeActsOnShownEntry :
    (faulted true).windowOpen = true ∧ (faulted true).FaultsOk ∧ (faulted false).FaultsOk
      ∧ (∀ f ∈ ([] : List FaultEntry), f.acked = true) ∧ upLeg.report.faults = []
      ∧ (faulted true).report.faults = [] ++ { FaultEntry.fresh (some 0) .legCut 0 5 with active := true } :: []
      ∧ (faulted false).report.faults = [] ++ { FaultEntry.fresh (some 0) .legCut 0 5 with active := false } :: [] := by
  unfold State.FaultsOk
  decide +kernel

theorem witness_QueueCommandsAndStoredValues :
    upLeg.windowOpen = true ∧ (2#8).toNat ≤ 2 ∧ 2 < (3#8).toNat ∧ (1#8).toNat ≤ 1 ∧ 1 < (2#8).toNat := by decide +kernel

/-! #### The bridge -/

theorem witness_ArbiterGrantsThePort :
    upLeg.resetHeld = false ∧ (upLeg.bridge.txn.phase = .none ∧ upLeg.bridge.port = .free)
      ∧ (writing.bridge.txn.phase = .none ∧ writing.bridge.port = .agent .record)
      ∧ ({ inTxn .held 0 with bridge := { (inTxn .held 0).bridge with port := .free } }.bridge.port = .free
        ∧ (inTxn .held 0).bridge.txn.phase = .held)
      ∧ { inTxn .held 0 with bridge := { (inTxn .held 0).bridge with port := .agent .record } }.bridge.port = .agent .record
      ∧ ((loading .recovery .free).bridge.txn.phase ≠ .held ∧ (loading .recovery .free).readyJob = some .recovery)
      ∧ writing.bridge.port ≠ .free := by decide +kernel

/-- An address byte while a load waits, a write of the time before it still open at the memory. -/
def addressInLoading : State :=
  { inTxn .address 0x3FFF with head := .loading, bridge := { (inTxn .address 0x3FFF).bridge with memOpen := true } }

theorem witness_AddressByteOfWrite :
    (inTxn .address 0).bridge.txn.phase = .address ∧ (inTxn .address 0).bridge.port = .bridge
      ∧ (inTxn .address 0).bridge.memOpen = false ∧ addressInLoading.bridge.txn.phase = .address
      ∧ addressInLoading.bridge.port = .bridge ∧ addressInLoading.head = .loading := by decide +kernel

/-- A transaction that has carried a reload. -/
def ranOn (phase : TxnPhase) : State :=
  { inTxn phase 0 with bridge := { (inTxn phase 0).bridge with txn := { Txn.initial with phase, runOn := true } } }

theorem witness_WordAddressSetsPointers :
    (opened .wordAddress 0).bridge.txn.phase = .wordAddress ∧ (0x4400 = 256 * (0x44#8).toNat + (0#8).toNat)
      ∧ (0x3FFF = 256 * (0x3F#8).toNat + (0xFF#8).toNat) ∧ (opened .wordAddress 0).bridge.txn.runOn = false
      ∧ (opened .wordAddress 0).bridge.memOpen = true ∧ (opened .wordAddress 0).head ≠ .noMemory
      ∧ (opened .wordAddress 0).head ≠ .loading
      ∧ ((inTxn .wordAddress 0).bridge.txn.runOn = false ∧ (inTxn .wordAddress 0).bridge.memOpen = false)
      ∧ (ranOn .wordAddress).bridge.txn.runOn = true := by decide +kernel

/-- A transaction while the head has no memory. -/
def memoryless (phase : TxnPhase) (combined : BusAddr) : State := { inTxn phase combined with head := .noMemory }

theorem witness_WrittenByteBySpace :
    ((memoryless .writeMemory 0x00BF).bridge.txn.runOn = false ∧ spaceOf (memoryless .writeMemory 0x00BF).bridge.combined = .memory
      ∧ (memoryless .writeMemory 0x00BF).bridge.txn.phase = .writeMemory ∧ (memoryless .writeMemory 0x00BF).head = .noMemory
      ∧ (memoryless .writeMemory 0x00BF).bridge.memOpen = false ∧ (opened .writeMemory 0x00BF).head ≠ .loading) ∧
    (opened .writeMemory 0x00BF).bridge.txn.runOn = false
      ∧ (spaceOf (opened .writeMemory 0x00BF).bridge.combined = .memory
        ∧ (opened .writeMemory 0x00BF).bridge.txn.phase = .writeMemory ∧ (opened .writeMemory 0x00BF).bridge.memOpen = true)
      ∧ (spaceOf (inTxn .writeLive 0x43FF).bridge.combined = .live ∧ (inTxn .writeLive 0x43FF).bridge.txn.phase = .writeLive)
      ∧ (spaceOf (inTxn .writeVoid 0xFFFF).bridge.combined = .void
        ∧ (inTxn .writeVoid 0xFFFF).bridge.txn.phase = .writeVoid) := by decide +kernel

/-- A transaction that has carried a reload, its pointer at an address. -/
def ranOnAt (phase : TxnPhase) (combined : BusAddr) : State :=
  { ranOn phase with bridge := { (ranOn phase).bridge with combined } }

theorem witness_WrittenByteBySpace_ranOn :
    ((ranOnAt .writeMemory 0x00BF).bridge.txn.runOn = true ∧ spaceOf (ranOnAt .writeMemory 0x00BF).bridge.combined = .memory
        ∧ (ranOnAt .writeMemory 0x00BF).bridge.txn.phase = .writeMemory)
      ∧ ((ranOnAt .writeLive 0x43FF).bridge.txn.runOn = true ∧ spaceOf (ranOnAt .writeLive 0x43FF).bridge.combined = .live
        ∧ (ranOnAt .writeLive 0x43FF).bridge.txn.phase = .writeLive)
      ∧ ((ranOnAt .writeVoid 0xFFFF).bridge.txn.runOn = true ∧ spaceOf (ranOnAt .writeVoid 0xFFFF).bridge.combined = .void
        ∧ (ranOnAt .writeVoid 0xFFFF).bridge.txn.phase = .writeVoid) := by decide +kernel

/-- R145: the pointer at 0x4011 after a reload, the switch sends a word address of memory space and a byte: the byte is
acknowledged and discarded and moves the pointer, and so is one of the void. -/
theorem test_byte_after_reload :
    let s := (ranOnAt .wordAddress 0x4011).wordArrives ⟨0x00, true⟩ ⟨0x80, true⟩
    (s.memoryByte 0x55 true).bridge.toSwitch = .ack ∧ (s.memoryByte 0x55 true).bridge.combined = 0x4012
      ∧ s.voidByte.bridge.toSwitch = .ack ∧ s.voidByte.bridge.combined = 0x4012
      ∧ (s.liveByte 1).bridge.combined = 0x4012 ∧ (s.liveByte 1).bridge.txn.buffer = [] := by decide +kernel

theorem witness_CurrentAddressReadClassified :
    (inTxn .address 0x3FFF).bridge.txn.phase = .address ∧ (inTxn .address 0x3FFF).bridge.port = .bridge
      ∧ (inTxn .address 0x3FFF).bridge.memOpen = false
      ∧ (addressInLoading.bridge.txn.phase = .address ∧ addressInLoading.bridge.port = .bridge
        ∧ addressInLoading.head = .loading)
      ∧ false = decide ((inTxn .address 0x3FFF).bridge.mirror = some (BitVec.ofNat 14 0x3FFF)) := by decide +kernel

theorem witness_ReadBytes :
    ((opened .readForwarded 0x3FFF).bridge.txn.phase = .readForwarded
        ∧ spaceOf (opened .readForwarded 0x3FFF).bridge.combined = .memory
        ∧ (opened .readForwarded 0x3FFF).bridge.mirror = some (memoryPointer (opened .readForwarded 0x3FFF).bridge.combined))
      ∧ ((inTxn .readServed 0x4010).bridge.txn.phase = .readServed ∧ spaceOf (inTxn .readServed 0x4010).bridge.combined = .live
        ∧ 0x4010 % 16 ≠ 15 ∧ (inTxn .readServed 0x4010).bridge.txn.snapshot = none ∧ 0x43FF % 16 = 15)
      ∧ ((inTxn .readServed 0xFFFF).bridge.txn.phase = .readServed
        ∧ spaceOf (inTxn .readServed 0xFFFF).bridge.combined = .void)
      ∧ ((memoryless .readServed 0x3FFF).bridge.txn.phase = .readServed
        ∧ spaceOf (memoryless .readServed 0x3FFF).bridge.combined = .memory)
      ∧ ((upLeg.legLanes upLeg.legOnView)[0]? = some 0 ∧ upLeg.legExists upLeg.legOnView = true
        ∧ (upLeg.legLanes upLeg.legOnView)[1]? = none)
      ∧ (0x40A ≤ (0x40A#12).toNat ∧ (0x40F#12).toNat < 0x410 ∧ 0x423 ≤ (0x423#12).toNat) := by decide +kernel

/-- A served read at 0x4011 with the snapshot of a row held. -/
def heldRow (row : BitVec 12) : State :=
  { inTxn .readServed 0x4011 with
    bridge := { (inTxn .readServed 0x4011).bridge with
      txn := { Txn.initial with phase := .readServed, snapshot := some (row, List.replicate 16 7) } } }

theorem witness_ReadBytes_snapshot :
    (heldRow 0x401).bridge.txn.phase = .readServed ∧ spaceOf (heldRow 0x401).bridge.combined = .live ∧ 0x4011 % 16 ≠ 15
      ∧ (heldRow 0x401).bridge.txn.snapshot = some (0x401, List.replicate 16 7)
      ∧ 0x401 = rowOf (heldRow 0x401).bridge.combined ∧ 0x402 ≠ rowOf (heldRow 0x402).bridge.combined
      ∧ (heldRow 0x402).bridge.txn.snapshot = some (0x402, List.replicate 16 7) := by decide +kernel

theorem witness_RepeatedStartAppliesBuffer :
    (inTxn .writeLive 0x4011).bridge.txn.phase = .writeLive ∧ (inTxn .writeLive 0x4011).bridge.port = .bridge
      ∧ (inTxn .writeLive 0x4011).bridge.memOpen = false ∧ (inTxn .writeLive 0x4011).bridge.txn.runOn = false
      ∧ spaceOf (inTxn .writeLive 0x4011).bridge.combined = .live ∧ (inTxn .writeLive 0x4011).windowOpen = true
      ∧ (State.applyBytes (inTxn .writeLive 0x4011) (inTxn .writeLive 0x4011).bridge.txn.buffer).head ≠ .loading
      ∧ (inTxn .writeLive 0x4011).head ≠ .noMemory
      ∧ (let s := opened .writeMemory 0x3FFF
         s.bridge.port = .bridge ∧ s.bridge.txn.runOn = false ∧ s.windowOpen = true ∧ s.bridge.txn.phase = .writeMemory
          ∧ s.bridge.memOpen = true ∧ s.bridge.txn.buffer = [] ∧ s.head ≠ .noMemory ∧ spaceOf s.bridge.combined = .memory
          ∧ s.bridge.mirror = some (memoryPointer s.bridge.combined))
      ∧ (∀ s ∈ [inTxn .writeVoid 0x4400, inTxn .readServed 0x4010, inTxn .readDone 0x43FF, memoryless .readDone 0x0000],
        s.bridge.port = .bridge ∧ s.bridge.txn.runOn = false ∧ s.windowOpen = true ∧ s.bridge.memOpen = false
          ∧ (s.bridge.txn.phase = .writeVoid ∨ s.bridge.txn.phase = .readServed ∨ s.bridge.txn.phase = .readDone)
          ∧ (spaceOf s.bridge.combined ≠ .memory ∨ s.head = .noMemory) ∧ s.bridge.txn.buffer = [] ∧ s.head ≠ .loading)
      ∧ ∀ s ∈ [opened .readForwarded 0x3FFF, opened .readDone 0x0000],
        s.bridge.port = .bridge ∧ s.bridge.txn.runOn = false ∧ s.windowOpen = true ∧ s.bridge.memOpen = true
          ∧ (s.bridge.txn.phase = .readForwarded ∨ s.bridge.txn.phase = .readDone) ∧ s.bridge.txn.buffer = []
          ∧ s.head ≠ .noMemory ∧ spaceOf s.bridge.combined = .memory
          ∧ s.bridge.mirror = some (memoryPointer s.bridge.combined) := by
  simp only [List.forall_mem_cons]
  exact ⟨by decide +kernel, by decide +kernel, by decide +kernel, by decide +kernel, by decide +kernel, by decide +kernel,
    by decide +kernel, by decide +kernel, by decide +kernel, ⟨by decide +kernel, by decide +kernel, by decide +kernel,
      by decide +kernel, by simp⟩, by decide +kernel, by decide +kernel, by simp⟩

/-- Transactions that ran on after a reload, one with the memory side open at a word address (R145). -/
theorem witness_RepeatedStartAppliesBuffer_ranOn :
    ∀ p ∈ [TxnPhase.wordAddress, .writeLive, .writeMemory, .writeVoid, .readServed, .readDone],
      (ranOn p).bridge.port = .bridge ∧ (ranOn p).bridge.txn.runOn = true ∧ (ranOn p).bridge.txn.buffer = []
        ∧ (ranOn p).bridge.txn.phase = p := by decide +kernel

/-- A live-window write that has buffered its one byte. -/
def buffered : State :=
  { inTxn .writeLive 0x4012 with
    bridge := { (inTxn .writeLive 0x4012).bridge with txn := { Txn.initial with phase := .writeLive, buffer := [(0x4011, 1)] } } }

/-- A live-window write whose second buffered byte is the reload command. -/
def reloading : State :=
  { buffered with bridge := { buffered.bridge with
      txn := { buffered.bridge.txn with buffer := [(0x4011, 1), (0x4010, 1), (0x4012, 3)] } } }

theorem witness_RepeatedStartAppliesBuffer_reload :
    reloading.bridge.port = .bridge ∧ reloading.windowOpen = true ∧ reloading.bridge.txn.phase = .writeLive
      ∧ (State.applyBytes { reloading with bridge := { reloading.bridge with txn := { reloading.bridge.txn with buffer := [] } } }
          reloading.bridge.txn.buffer).head = .loading := by decide +kernel

theorem witness_RepeatedStartAppliesBuffer_wordAddress :
    ∀ s ∈ [opened .wordAddress 0x3FFF, opened .wordAddress 0x4000, memoryless .wordAddress 0x0000],
      s.bridge.port = .bridge ∧ s.bridge.txn.runOn = false ∧ s.windowOpen = true ∧ s.bridge.txn.phase = .wordAddress
        ∧ s.bridge.txn.buffer = [] ∧ (s.bridge.memOpen = true ↔ s.head ≠ .noMemory) := by decide +kernel

theorem witness_StopAppliesBufferInOrder :
    buffered.bridge.port = .bridge ∧ buffered.bridge.txn.runOn = false ∧ buffered.bridge.txn.phase = .writeLive
      ∧ buffered.bridge.txn.buffer = (0x4011, 1) :: [] ∧ (inTxn .readDone 0).bridge.txn.buffer = [] := by decide +kernel

/-- A word address of which the memory took part, and a transaction that ran on (R139 step 2, R145). -/
theorem witness_StopAppliesBufferInOrder_open :
    ((opened .wordAddress 0x0040).bridge.port = .bridge ∧ (opened .wordAddress 0x0040).bridge.txn.phase = .wordAddress
        ∧ (opened .wordAddress 0x0040).bridge.memOpen = true ∧ (opened .wordAddress 0x0040).bridge.txn.runOn = false
        ∧ (opened .wordAddress 0x0040).head ≠ .loading ∧ (opened .wordAddress 0x0040).bridge.txn.buffer = [])
      ∧ ((ranOn .writeMemory).bridge.port = .bridge ∧ (ranOn .writeMemory).bridge.txn.runOn = true
        ∧ (ranOn .writeMemory).bridge.txn.phase = .writeMemory ∧ (ranOn .writeMemory).bridge.txn.buffer = []) := by
  decide +kernel

theorem witness_AbnormalAndRefused :
    (inTxn .address 0).bridge.port = .bridge
      ∧ (loading .header (.agent .loadChunk)).bridge.port = .agent .loadChunk
      ∧ (loading .header (.agent .loadChunk)).agent.load =
          some { stage := .header, retryWait := true, window := some 20000, best := none }
      ∧ LoadStage.address .header = some 0x0000 ∧ (LoadStage.address (.slot 7)) = some 0x05C0
      ∧ (writing.bridge.port = .agent .record ∧ writing.agent.records = aRecord :: [] ∧ aRecord.taps.length = 24
        ∧ aRecord.eyes.length = 8 ∧ writing.agent.load = none) := by decide +kernel

/-! #### The memory agent -/

theorem witness_LoadChunks :
    (let s := loading .recovery (.agent .recovery)
     s.agent.load = some { stage := .recovery, retryWait := true, window := some 20000, best := none } ∧ s.head = .loading
      ∧ s.bridge.port = .agent .recovery)
      ∧ (loading .header (.agent .loadChunk)).agent.load.map Load.stage = some .header
      ∧ (loading (.leg 0) (.agent .loadChunk)).agent.load.map Load.stage = some (.leg 0)
      ∧ (loading (.leg 7) (.agent .loadChunk)).agent.load.map Load.stage = some (.leg 7) := by decide +kernel

/-- The end of a load of a plan whose leg 0 has one lane, with leg 0's source and waiting record. -/
def loadEnds (source : Option Page) (record : Page) : State :=
  { loading (.slot 7) (.agent .loadChunk) with
    pendingHeader := page [0xB8, 1, 1, 2, 4], pendingLegs := State.reset.pendingLegs.set 0 record
    legs := State.reset.legs.set 0 { Leg.initial with source } }

theorem loadEnds_planOk (source : Option Page) (record : Page) : (loadEnds source record).PlanOk := by
  unfold State.PlanOk Leg.groupOk State.inGroup
  exact ⟨of_decide_eq_true rfl, of_decide_eq_true rfl, of_decide_eq_true rfl, of_decide_eq_true rfl, of_decide_eq_true rfl⟩

/-- R163, R99: leg 0 at the end of a load, by its record taken, skipped and failing its check; a leg of width 0 is absent. -/
theorem witness_RingScanEndsLoad_records :
    (∀ (source : Option Page) (record : Page), (loadEnds source record).PlanOk)
      ∧ checkByteHolds (page []) = true ∧ checkByteHolds (Vector.replicate 64 1) = false
      ∧ ((loadEnds (some (page [])) (page [])).leg 0).source = some (loadEnds (some (page [])) (page [])).pendingLegs[0]
      ∧ ((loadEnds none (page [])).leg 0).source ≠ some (loadEnds none (page [])).pendingLegs[0]
      ∧ (loadEnds none (page [])).report.events.length ≤ 32 ∧ headerWidth (page [0xB8, 1, 1, 2, 4]) 0 = 1
      ∧ headerWidth (page [0xB8, 1, 1, 2, 4]) 4 = 0 :=
  ⟨loadEnds_planOk, by decide +kernel⟩

theorem witness_RingScanEndsLoad :
    (loading (.slot 7) (.agent .loadChunk)).agent.load =
        some { stage := .slot 7, retryWait := true, window := some 20000, best := none }
      ∧ (loading (.slot 7) (.agent .loadChunk)).bridge.port = .agent .loadChunk
      ∧ (loading (.slot 0) (.agent .loadChunk)).agent.load.map Load.stage = some (.slot 0)
      ∧ (headerAccepted (page [0xB8, 1, 1, 2, 4]) = true ∧ planValid (page [0xB8, 1, 1, 2, 4]) = true)
      ∧ headerAccepted (loading (.slot 7) (.agent .loadChunk)).pendingHeader = false
      ∧ (none = (if checkByteHolds (page [0, 0]) = true ∧ slotSerial (page [0, 0]) ≠ 0
            ∧ (∀ c ∈ (none : Option (Nat × Fin 8)).toList, c.1 < slotSerial (page [0, 0]))
          then some (slotSerial (page [0, 0]), (7 : Fin 8)) else none)
        ∧ checkByteHolds (page [0xFF, 0xFF]) = true ∧ slotSerial (page [0xFF, 0xFF]) = 65535) := by decide +kernel

theorem witness_MemoryTimeouts :
    ((loading .header .free).agent.load = some { stage := .header, retryWait := true, window := some 20000, best := none }
        ∧ Load.windowEnd { stage := .header, retryWait := true, window := some 20000, best := none } = some 20000)
      ∧ (writing.agent.load = none ∧ writing.agent.records = aRecord :: [] ∧ aRecord.window = some 20000
        ∧ writing.bridge.port = .agent .record)
      ∧ (let s := { writing with agent := { writing.agent with load := (loading .awaitStart .free).agent.load } }
         s.bridge.port = .agent .record ∧ s.agent.load ≠ none ∧ s.agent.records = aRecord :: []) := by decide +kernel

theorem witness_RetriesAndReloadStart :
    ((loading .header .free).resetHeld = false
        ∧ (Load.windowEnd { stage := .header, retryWait := true, window := some 20000, best := none }).isSome = true)
      ∧ (writing.resetHeld = false ∧ writing.agent.load = none ∧ writing.agent.records = aRecord :: [])
      ∧ ((loading .awaitStart .free).agent.load.map Load.stage = some .awaitStart
        ∧ (loading .awaitStart .free).bridge.port ≠ .agent .record)
      ∧ writing.bridge.port = .agent .record := by decide +kernel

theorem witness_RecordIsWritten :
    writing.bridge.port = .agent .record ∧ writing.agent.records = aRecord :: [] ∧ aRecord.taps.length = 24
      ∧ aRecord.eyes.length = 8 ∧ writing.head ≠ .noMemory := by decide +kernel

end Sys2Proof.Tests
end

section
/-! SUPPORT. What the supervisor's operations on the lanes of a leg leave as it was, and what they bring every lane of it to:
orders to start and to quiet, service orders, the take of a record (R12, R16, R43, R54, R99). -/

namespace Sys2Proof.Machine

/-! ### Loops over lanes -/

/-- What the turn of a listed lane reaches and no later turn undoes, the loop reaches. -/
theorem State.onLanes_reaches {P Q : State → Prop} {f : Lane → State → State} {lanes : List Lane} {i : Lane} (hi : i ∈ lanes)
    (hP : ∀ j ∈ lanes, ∀ t, P t → P (f j t)) (hit : ∀ t, P t → Q (f i t))
    (hQ : ∀ j ∈ lanes, ∀ t, j ≠ i → P t → Q t → Q (f j t)) {s : State} (hs : P s) : Q (s.onLanes lanes f) := by
  have keep : ∀ j ∈ lanes, ∀ t, P t → (j = i ∨ Q t) → Q (f j t) := fun j hj t ht hjt => by
    by_cases hji : j = i
    · exact hji ▸ hit t ht
    · exact hQ j hj t hji ht (hjt.resolve_left hji)
  have stays : ∀ rest : List Lane, rest ⊆ lanes → ∀ t, P t → i ∈ rest ∨ Q t → Q (t.onLanes rest f) := by
    intro rest
    induction rest with
    | nil => exact fun _ t _ h => h.resolve_left (by simp)
    | cons j rest ih =>
      intro hsub t ht h
      have hj : j ∈ lanes := hsub List.mem_cons_self
      refine ih (fun k hk => hsub (List.mem_cons_of_mem j hk)) (f j t) (hP j hj t ht) ?_
      rcases h with h | h
      · rcases List.mem_cons.1 h with h | h
        · exact .inr (keep j hj t ht (.inl h.symm))
        · exact .inl h
      · exact .inr (keep j hj t ht (.inr h))
  exact stays lanes (fun _ h => h) s hs (.inl hi)

/-- What the turn of a listed lane and side reaches and no later turn undoes, the loop over exchanges reaches. -/
theorem State.onExchanges_reaches {P Q : State → Prop} {f : Lane → Side → State → State} {lanes : List Lane} {i : Lane}
    {x : Side} (hi : i ∈ lanes) (hP : ∀ j ∈ lanes, ∀ y t, P t → P (f j y t)) (hit : ∀ t, P t → Q (f i x t))
    (hQ : ∀ j ∈ lanes, ∀ y t, (j, y) ≠ (i, x) → P t → Q t → Q (f j y t)) {s : State} (hs : P s) :
    Q (s.onExchanges lanes f) := by
  refine State.onLanes_reaches (P := P) hi (fun j hj t ht => hP j hj .c _ (hP j hj .s t ht)) (fun t ht => ?_)
    (fun j hj t hji ht hq => ?_) hs
  · have hs' := hP i hi .s t ht
    cases x with
    | s => exact hQ i hi .c _ (by simp) hs' (hit t ht)
    | c => exact hit _ hs'
  · have hne : ∀ y, (j, y) ≠ (i, x) := fun y h => hji (Prod.mk.inj h).1
    exact hQ j hj .c _ (hne .c) (hP j hj .s t ht) (hQ j hj .s t (hne .s) ht hq)

/-- What the turn of every listed lane keeps, the loop over exchanges keeps. -/
theorem State.onExchanges_keeps {P : State → Prop} {f : Lane → Side → State → State} {lanes : List Lane}
    (hP : ∀ j ∈ lanes, ∀ y t, P t → P (f j y t)) {s : State} (hs : P s) : P (s.onExchanges lanes f) := by
  unfold State.onExchanges State.onLanes
  induction lanes generalizing s with
  | nil => exact hs
  | cons i rest ih =>
    have hi := hP i List.mem_cons_self
    exact ih (fun j hj => hP j (List.mem_cons_of_mem i hj)) (hi .c _ (hi .s s hs))

/-! ### Paths by slice, and after a change to one of them -/

/-- The transmit path of slice `k` on side `y`. -/
def State.txAt (s : State) (k : Lane) (y : Side) : TxPath := (s.tx[k]).get y

/-- The receive path of slice `k` on side `y`. -/
def State.rxAt (s : State) (k : Lane) (y : Side) : RxPath := (s.rx[k]).get y

theorem State.txAt_congr {s t : State} (h : t.tx = s.tx) (k : Lane) (y : Side) : t.txAt k y = s.txAt k y := by
  simp only [State.txAt, h]

theorem State.rxAt_congr {s t : State} (h : t.rx = s.rx) (k : Lane) (y : Side) : t.rxAt k y = s.rxAt k y := by
  simp only [State.rxAt, h]

theorem State.txAt_modLeg (s : State) (n : LegId) (f : Leg → Leg) (k : Lane) (y : Side) :
    (s.modLeg n f).txAt k y = s.txAt k y := rfl

/-- A lane uses the path of its slice, by the pairing that stands (R1, R8). -/
theorem State.txPath_eq_txAt {s t : State} (h : t.slices = s.slices) (i : Lane) (x : Side) :
    t.txPath i x = t.txAt (s.phys i x) x := by
  rw [← State.phys_congr h]
  rfl

theorem State.rxPath_eq_rxAt {s t : State} (h : t.slices = s.slices) (i : Lane) (x : Side) :
    t.rxPath i x = t.rxAt (s.phys i x) x := by
  rw [← State.phys_congr h]
  rfl

/-- A change to the transmit path of one lane and side finds each path changed, on that side, or as it was. -/
theorem State.modTx_path (s : State) (i : Lane) (x : Side) (f : TxPath → TxPath) (k : Lane) (y : Side) :
    (s.modTx i x f).txAt k y = s.txAt k y ∨ y = x ∧ (s.modTx i x f).txAt k y = f (s.txAt k y) := by
  by_cases h : (k, y) = (s.phys i x, x)
  · obtain ⟨rfl, rfl⟩ := Prod.mk.inj h
    exact .inr ⟨rfl, s.tx_setTxAt_same _ y _⟩
  · exact .inl (s.tx_setTxAt_ne _ h)

/-- A change to the receive path of one lane and side finds each path changed, on that side, or as it was. -/
theorem State.modRx_path (s : State) (i : Lane) (x : Side) (f : RxPath → RxPath) (k : Lane) (y : Side) :
    (s.modRx i x f).rxAt k y = s.rxAt k y
      ∨ y = x ∧ (s.modRx i x f).rxAt k y = f (s.rxAt k y) := by
  by_cases h : (k, y) = (s.phys i x, x)
  · obtain ⟨rfl, rfl⟩ := Prod.mk.inj h
    exact .inr ⟨rfl, s.rx_setRxAt_same _ y _⟩
  · exact .inl (s.rx_setRxAt_ne _ h)

/-! ### What an order to a lane can touch outside its exchange -/

/-- Only exchanges, receive paths, output and in-use set of transmit paths, and release flags and kept marks differ, and of
these flags and marks none is newly set. -/
structure State.ServiceMoves (s t : State) : Prop where
  lanes : s.LanesMove t
  legs : ∀ m : LegId, t.leg m = { s.leg m with released := (t.leg m).released, kept := (t.leg m).kept }
  released : ∀ m : LegId, (s.leg m).released = ⟨false, false⟩ → (t.leg m).released = ⟨false, false⟩
  kept : ∀ m : LegId, (s.leg m).kept = ⟨false, false⟩ → (t.leg m).kept = ⟨false, false⟩
  banks : ∀ (k : Lane) (y : Side), t.txAt k y =
    { s.txAt k y with inUse := (t.txAt k y).inUse, line := (t.txAt k y).line }

theorem State.ServiceMoves.refl (s : State) : s.ServiceMoves s :=
  ⟨.refl s, fun _ => rfl, fun _ h => h, fun _ h => h, fun _ _ => rfl⟩

theorem State.ServiceMoves.trans {s t u : State} (h : s.ServiceMoves t) (k : t.ServiceMoves u) : s.ServiceMoves u :=
  ⟨h.lanes.trans k.lanes, fun m => by rw [k.legs m, h.legs m], fun m e => k.released m (h.released m e),
    fun m e => k.kept m (h.kept m e), fun j y => by rw [k.banks j y, h.banks j y]⟩

/-- A leg whose flags and marks are clear keeps its record. -/
theorem State.ServiceMoves.leg_eq {s t : State} (h : s.ServiceMoves t) (m : LegId)
    (hr : (s.leg m).released = ⟨false, false⟩) (hk : (s.leg m).kept = ⟨false, false⟩) : t.leg m = s.leg m := by
  rw [h.legs m, (h.released m hr).trans hr.symm, (h.kept m hk).trans hk.symm]

theorem State.ServiceMoves.owner {s t : State} (h : s.ServiceMoves t) (j : Lane) : t.owner j = s.owner j :=
  State.owner_congr h.lanes.slices j

theorem State.ServiceMoves.profile {s t : State} (h : s.ServiceMoves t) (m : LegId) :
    (t.leg m).profile = (s.leg m).profile := by rw [h.legs m]

theorem State.serviceMoves_modExch (s : State) (i : Lane) (x : Side) (f : Exchange → Exchange) :
    s.ServiceMoves (s.modExch i x f) := ⟨rfl, fun _ => rfl, fun _ h => h, fun _ h => h, fun _ _ => rfl⟩

theorem State.serviceMoves_modRx (s : State) (i : Lane) (x : Side) (f : RxPath → RxPath) :
    s.ServiceMoves (s.modRx i x f) := ⟨rfl, fun _ => rfl, fun _ h => h, fun _ h => h, fun _ _ => rfl⟩

theorem State.serviceMoves_modTx (s : State) (i : Lane) (x : Side) (f : TxPath → TxPath)
    (hf : ∀ p : TxPath, f p = { p with inUse := (f p).inUse, line := (f p).line }) : s.ServiceMoves (s.modTx i x f) := by
  refine ⟨rfl, fun _ => rfl, fun _ h => h, fun _ h => h, fun k y => ?_⟩
  rcases s.modTx_path i x f k y with h | ⟨_, h⟩
  · rw [h]
  · rw [h]; exact hf _

theorem State.serviceMoves_modLeg (s : State) (n : LegId) (f : Leg → Leg)
    (hf : ∀ l : Leg, f l = { l with released := (f l).released, kept := (f l).kept })
    (hr : ∀ l : Leg, l.released = ⟨false, false⟩ → (f l).released = ⟨false, false⟩)
    (hk : ∀ l : Leg, l.kept = ⟨false, false⟩ → (f l).kept = ⟨false, false⟩) : s.ServiceMoves (s.modLeg n f) := by
  have hcase (m : LegId) : (s.modLeg n f).leg m = s.leg m ∨ (s.modLeg n f).leg m = f (s.leg m) := by
    by_cases hm : m = n
    · exact .inr (hm ▸ s.leg_modLeg_same n f)
    · exact .inl (s.leg_modLeg_ne f hm)
  refine ⟨rfl, fun m => ?_, fun m h => ?_, fun m h => ?_, fun _ _ => rfl⟩ <;> rcases hcase m with e | e <;> rw [e]
  · exact hf _
  · exact h
  · exact hr _ h
  · exact h
  · exact hk _ h

theorem State.serviceMoves_clearRelease (s : State) (i : Lane) (x : Side) : s.ServiceMoves (s.clearRelease i x) := by
  unfold State.clearRelease
  split
  · exact s.serviceMoves_modLeg _ _ (fun _ => rfl) (fun l h => by cases x <;> simp [h, Sides.set]) fun _ h => h
  · exact .refl s

theorem State.serviceMoves_clearKept (s : State) (i : Lane) (x : Side) : s.ServiceMoves (s.clearKept i x) := by
  unfold State.clearKept
  split
  · exact s.serviceMoves_modLeg _ _ (fun _ => rfl) (fun _ h => h) fun l h => by cases x <;> simp [h, Sides.set]
  · exact .refl s

theorem State.serviceMoves_leaveService (s : State) (i : Lane) (x : Side) : s.ServiceMoves (s.leaveService i x) := by
  unfold State.leaveService State.leaveData
  have h := s.serviceMoves_modTx i x (fun p => { p with line := p.line.stopService }) fun _ => rfl
  dsimp only
  split
  · exact (h.trans (State.serviceMoves_modRx _ i x _)).trans (State.serviceMoves_clearKept _ i x)
  · exact h

theorem State.serviceMoves_enterListen (s : State) (i : Lane) (x : Side) : s.ServiceMoves (s.enterListen i x) := by
  unfold State.enterListen
  exact ((((s.serviceMoves_leaveService i x).trans (State.serviceMoves_clearRelease _ i x)).trans
    (State.serviceMoves_modTx _ i x _ fun _ => rfl)).trans (State.serviceMoves_modRx _ i x _)).trans
    (State.serviceMoves_modExch _ i x _)

theorem State.serviceMoves_enterQuiet (s : State) (i : Lane) (x : Side) : s.ServiceMoves (s.enterQuiet i x) := by
  unfold State.enterQuiet
  exact (((s.serviceMoves_leaveService i x).trans (State.serviceMoves_clearRelease _ i x)).trans
    (State.serviceMoves_modTx _ i x _ fun _ => rfl)).trans (State.serviceMoves_modExch _ i x _)

theorem State.serviceMoves_deriveOrder (s : State) (n : LegId) (i : Lane) (x : Side) :
    s.ServiceMoves (s.deriveOrder n i x) := by
  unfold State.deriveOrder
  have h := s.serviceMoves_modExch i x fun e => { e with order := s.orderFor n i x }
  dsimp only
  split
  · exact h.trans (State.serviceMoves_modTx _ i x _ fun _ => rfl)
  · exact h

theorem State.serviceMoves_onExchanges (s : State) (lanes : List Lane) (f : Lane → Side → State → State)
    (hf : ∀ (i : Lane) (x : Side) (t : State), t.ServiceMoves (f i x t)) : s.ServiceMoves (s.onExchanges lanes f) :=
  State.onExchanges_induct f (fun i x t h => h.trans (hf i x t)) lanes (.refl s)

theorem State.serviceMoves_legLeavesService (s : State) (n : LegId) : s.ServiceMoves (s.legLeavesService n) :=
  s.serviceMoves_onExchanges _ _ fun i x t => t.serviceMoves_leaveService i x

theorem State.serviceMoves_startLeg (s : State) (n : LegId) : s.ServiceMoves (s.startLeg n) :=
  s.serviceMoves_onExchanges _ _ fun i x t => t.serviceMoves_enterListen i x

theorem State.serviceMoves_quietLeg (s : State) (n : LegId) : s.ServiceMoves (s.quietLeg n) :=
  s.serviceMoves_onExchanges _ _ fun i x t => t.serviceMoves_enterQuiet i x

theorem State.serviceMoves_deriveOrders (s : State) (n : LegId) : s.ServiceMoves (s.deriveOrders n) :=
  s.serviceMoves_onExchanges _ _ fun i x t => t.serviceMoves_deriveOrder n i x

/-! ### Paths of a lane that leaves service -/

/-- Only the output of a transmit path differs, and a silent one is silent still. -/
def TxPath.StaysOn (p q : TxPath) : Prop := q = { p with line := q.line } ∧ (p.line = .quiet → q.line = .quiet)

theorem State.clearRelease_tx (s : State) (i : Lane) (x : Side) : (s.clearRelease i x).tx = s.tx := by
  unfold State.clearRelease
  split <;> rfl

theorem State.clearRelease_rx (s : State) (i : Lane) (x : Side) : (s.clearRelease i x).rx = s.rx := by
  unfold State.clearRelease
  split <;> rfl

theorem State.clearKept_rx (s : State) (i : Lane) (x : Side) : (s.clearKept i x).rx = s.rx := by
  unfold State.clearKept
  split <;> rfl

theorem State.leaveService_tx (s : State) (i : Lane) (x : Side) :
    (s.leaveService i x).tx = (s.modTx i x fun p => { p with line := p.line.stopService }).tx := by
  unfold State.leaveService State.leaveData State.clearKept
  dsimp only
  split
  · split <;> rfl
  · rfl

/-- A lane that stops following its service order keeps every in-use set, and a silent line is silent still (R18). -/
theorem State.leaveService_path (s : State) (i : Lane) (x : Side) (k : Lane) (y : Side) :
    TxPath.StaysOn (s.txAt k y) ((s.leaveService i x).txAt k y) := by
  rw [State.txAt_congr (s.leaveService_tx i x)]
  rcases s.modTx_path i x (fun p => { p with line := p.line.stopService }) k y with h | ⟨_, h⟩ <;> rw [h]
  · exact ⟨rfl, id⟩
  · refine ⟨rfl, fun hq => ?_⟩
    show (s.txAt k y).line.stopService = .quiet
    rw [hq]
    rfl

/-- The state in which a lane stands just before an entry to LISTEN or QUIET: out of service, its side not released. -/
def State.outOfService (s : State) (i : Lane) (x : Side) : State := (s.leaveService i x).clearRelease i x

theorem State.serviceMoves_outOfService (s : State) (i : Lane) (x : Side) : s.ServiceMoves (s.outOfService i x) :=
  (s.serviceMoves_leaveService i x).trans (State.serviceMoves_clearRelease _ i x)

theorem State.outOfService_path (s : State) (i : Lane) (x : Side) (k : Lane) (y : Side) :
    TxPath.StaysOn (s.txAt k y) ((s.outOfService i x).txAt k y) := by
  rw [State.outOfService, State.txAt_congr (State.clearRelease_tx _ i x)]
  exact s.leaveService_path i x k y

theorem State.outOfService_eqCode (s : State) (i : Lane) (x : Side) (k : Lane) (y : Side) :
    ((s.outOfService i x).rxAt k y).eqCode = (s.rxAt k y).eqCode := by
  rw [State.outOfService, State.rxAt_congr (State.clearRelease_rx _ i x)]
  unfold State.leaveService State.leaveData
  dsimp only
  split
  · rw [State.rxAt_congr (State.clearKept_rx _ i x)]
    rcases State.modRx_path (s.modTx i x fun p => { p with line := p.line.stopService }) i x
      (fun r => { r with eye := r.eye.leave }) k y with e | ⟨_, e⟩ <;> rw [e] <;> rfl
  · rfl

/-! ### Paths at the quiet order (R12) -/

/-- The quiet order to a lane silences its path. -/
theorem State.enterQuiet_line (s : State) (i : Lane) (x : Side) :
    ((s.enterQuiet i x).txAt (s.phys i x) x).line = .quiet := by
  have h := State.txPath_modTx_same (s.outOfService i x) i x fun p => { p with line := .quiet }
  rw [← State.phys_congr (s.serviceMoves_outOfService i x).lanes.slices]
  exact congrArg TxPath.line h

/-- The quiet order to a lane keeps every in-use set, and a silent line is silent still. -/
theorem State.enterQuiet_path (s : State) (i : Lane) (x : Side) (k : Lane) (y : Side) :
    TxPath.StaysOn (s.txAt k y) ((s.enterQuiet i x).txAt k y) := by
  obtain ⟨hp, hq⟩ := s.outOfService_path i x k y
  show TxPath.StaysOn _ (((s.outOfService i x).modTx i x fun p => { p with line := .quiet }).txAt k y)
  rcases (s.outOfService i x).modTx_path i x (fun p => { p with line := .quiet }) k y with h | ⟨_, h⟩ <;> rw [h]
  · exact ⟨hp, hq⟩
  · exact ⟨by rw [hp], fun _ => rfl⟩

/-! ### Paths at an entry to LISTEN (R2, R40) -/

/-- The paths of slice `k` on side `y` have in-use set and equalizer code loaded by the profile `p` (R2, R40). -/
def State.LoadedAt (s : State) (p : Profile) (k : Lane) (y : Side) : Prop :=
  (s.txAt k y).Loaded p.rate ∧ (s.rxAt k y).eqCode = (p.equalizer.get p.rate).get y

/-- The loading of one lane by a profile, as an entry to LISTEN does it. -/
def State.loadLane (s : State) (p : Profile) (i : Lane) (x : Side) : State :=
  (s.modTx i x fun q => q.loadSet p.rate).modRx i x fun r => { r with eqCode := (p.equalizer.get p.rate).get x }

theorem State.profileAt_of_owner (s : State) {i : Lane} {n : LegId} (h : s.owner i = some n) :
    s.profileAt i = (s.leg n).profile := by
  simp [State.profileAt, h]

/-- An entry to LISTEN loads the lane by the profile of its leg. -/
theorem State.enterListen_eq (s : State) {i : Lane} {n : LegId} (h : s.owner i = some n) (x : Side) :
    ∃ warm, s.enterListen i x =
      ((s.outOfService i x).loadLane (s.leg n).profile i x).modExch i x fun e => e.listenAfresh warm := by
  have hm := s.serviceMoves_outOfService i x
  have hp : (s.outOfService i x).profileAt i = (s.leg n).profile := by
    rw [State.profileAt_of_owner _ ((hm.owner i).trans h), hm.profile n]
  refine ⟨((s.outOfService i x).txPath i x).learnedValid.get (s.leg n).profile.rate, ?_⟩
  rw [← hp]
  rfl

theorem State.loadLane_loaded (s : State) (p : Profile) (i : Lane) (x : Side) :
    (s.loadLane p i x).LoadedAt p (s.phys i x) x := by
  refine ⟨?_, congrArg RxPath.eqCode (State.rxPath_modRx_same (s.modTx i x fun q => q.loadSet p.rate) i x _)⟩
  show ((s.modTx i x fun q => q.loadSet p.rate).txPath i x).Loaded p.rate
  rw [State.txPath_modTx_same]
  rfl

/-- Loading a lane leaves what is loaded by the same profile loaded. -/
theorem State.loadLane_keeps_loaded (s : State) (p : Profile) (i : Lane) (x : Side) {k : Lane} {y : Side}
    (h : s.LoadedAt p k y) : (s.loadLane p i x).LoadedAt p k y := by
  constructor
  · show ((s.modTx i x fun q => q.loadSet p.rate).txAt k y).Loaded p.rate
    rcases s.modTx_path i x (fun q => q.loadSet p.rate) k y with e | ⟨_, e⟩ <;> rw [e]
    · exact h.1
    · rfl
  · rcases State.modRx_path (s.modTx i x fun q => q.loadSet p.rate) i x
      (fun r => { r with eqCode := (p.equalizer.get p.rate).get x }) k y with e | ⟨rfl, e⟩
    · exact (congrArg RxPath.eqCode e).trans h.2
    · exact congrArg RxPath.eqCode e

theorem State.outOfService_keeps_loaded (s : State) (p : Profile) (i : Lane) (x : Side) {k : Lane} {y : Side}
    (h : s.LoadedAt p k y) : (s.outOfService i x).LoadedAt p k y := by
  refine ⟨?_, (s.outOfService_eqCode i x k y).trans h.2⟩
  rw [(s.outOfService_path i x k y).1]
  exact h.1

/-- A lane that enters LISTEN is loaded by the profile of its leg. -/
theorem State.enterListen_loaded (s : State) {i : Lane} {n : LegId} (h : s.owner i = some n) (x : Side) :
    (s.enterListen i x).LoadedAt (s.leg n).profile (s.phys i x) x := by
  obtain ⟨warm, he⟩ := s.enterListen_eq h x
  rw [he, ← State.phys_congr (s.serviceMoves_outOfService i x).lanes.slices]
  exact (s.outOfService i x).loadLane_loaded _ i x

/-- Entries to LISTEN in one leg leave what is loaded loaded. -/
theorem State.enterListen_keeps_loaded (s : State) {i : Lane} {n : LegId} (h : s.owner i = some n) (x : Side) {k : Lane}
    {y : Side} (hl : s.LoadedAt (s.leg n).profile k y) : (s.enterListen i x).LoadedAt (s.leg n).profile k y := by
  obtain ⟨warm, he⟩ := s.enterListen_eq h x
  rw [he]
  exact State.loadLane_keeps_loaded _ _ i x (s.outOfService_keeps_loaded _ i x hl)

/-! ### The orders to a whole leg (R12) -/

theorem State.startLeg_fresh (s : State) {i : Lane} {n : LegId} (h : s.owner i = some n) (x : Side) :
    ((s.startLeg n).exch i x).Fresh :=
  State.onExchanges_reaches (P := fun _ => True) (f := fun j y t => t.enterListen j y)
    (Q := fun t => (t.exch i x).Fresh) ((s.mem_legLanes n i).2 h)
    (fun _ _ _ _ _ => trivial) (fun t _ => t.enterListen_fresh i x)
    (fun _ _ _ t hne _ hq => by rwa [t.enterListen_exch_ne hne.symm]) trivial

/-- Every lane of a leg that is started is loaded by the leg's profile. -/
theorem State.startLeg_loaded (s : State) {i : Lane} {n : LegId} (h : s.owner i = some n) (x : Side) :
    (s.startLeg n).LoadedAt (s.leg n).profile (s.phys i x) x :=
  State.onExchanges_reaches (P := s.ServiceMoves) (f := fun j y t => t.enterListen j y)
    (Q := fun t => t.LoadedAt (s.leg n).profile (s.phys i x) x) ((s.mem_legLanes n i).2 h)
    (fun j _ y t ht => ht.trans (t.serviceMoves_enterListen j y))
    (fun t ht => by
      rw [← ht.profile n, ← State.phys_congr ht.lanes.slices]
      exact t.enterListen_loaded ((ht.owner i).trans h) x)
    (fun j hj y t _ ht hq => by
      rw [← ht.profile n] at hq ⊢
      exact t.enterListen_keeps_loaded ((ht.owner j).trans ((s.mem_legLanes n j).1 hj)) y hq) (.refl s)

/-- Every lane of a leg that is quieted is in QUIET (R12). -/
theorem State.quietLeg_laneState (s : State) {i : Lane} {n : LegId} (h : s.owner i = some n) (x : Side) :
    (s.quietLeg n).laneState i x = .quiet :=
  State.onExchanges_reaches (P := fun _ => True) (f := fun j y t => t.enterQuiet j y)
    (Q := fun t => t.laneState i x = .quiet) ((s.mem_legLanes n i).2 h) (fun _ _ _ _ _ => trivial)
    (fun t _ => congrArg Exchange.lane (t.enterQuiet_exch i x))
    (fun _ _ _ t hne _ hq => by rwa [State.laneState, t.enterQuiet_exch_ne hne.symm]) trivial

/-- A leg that is quieted keeps restart and bad-frame counts (R35). -/
theorem State.quietLeg_counts (s : State) (n : LegId) (i : Lane) (x : Side) :
    ((s.quietLeg n).exch i x).restarts = (s.exch i x).restarts
      ∧ ((s.quietLeg n).exch i x).badFrames = (s.exch i x).badFrames :=
  State.onExchanges_keeps (P := fun t => (t.exch i x).restarts = (s.exch i x).restarts
      ∧ (t.exch i x).badFrames = (s.exch i x).badFrames) (fun j _ y t ht => by
    by_cases he : (i, x) = (j, y)
    · obtain ⟨rfl, rfl⟩ := Prod.mk.inj he
      rwa [t.enterQuiet_exch]
    · rwa [t.enterQuiet_exch_ne he]) ⟨rfl, rfl⟩

/-- A leg that is quieted keeps every coefficient set, and a silent line is silent still. -/
theorem State.quietLeg_path (s : State) (n : LegId) (k : Lane) (y : Side) :
    TxPath.StaysOn (s.txAt k y) ((s.quietLeg n).txAt k y) :=
  State.onExchanges_keeps (P := fun t => TxPath.StaysOn (s.txAt k y) (t.txAt k y)) (fun j _ x t ht => by
    obtain ⟨hp, hq⟩ := t.enterQuiet_path j x k y
    exact ⟨by rw [hp, ht.1], fun hl => hq (ht.2 hl)⟩) ⟨rfl, id⟩

/-- Every path of a leg that is quieted is silent (R12). -/
theorem State.quietLeg_line (s : State) {i : Lane} {n : LegId} (h : s.owner i = some n) (x : Side) :
    ((s.quietLeg n).txAt (s.phys i x) x).line = .quiet :=
  State.onExchanges_reaches (P := s.ServiceMoves) (f := fun j y t => t.enterQuiet j y)
    (Q := fun t => (t.txAt (s.phys i x) x).line = .quiet) ((s.mem_legLanes n i).2 h)
    (fun j _ y t ht => ht.trans (t.serviceMoves_enterQuiet j y))
    (fun t ht => by
      rw [← State.phys_congr ht.lanes.slices]
      exact t.enterQuiet_line i x)
    (fun j _ y t _ _ hq => (t.enterQuiet_path j y _ x).2 hq) (.refl s)

/-! ### Service orders of a leg (R16) -/

theorem State.deriveOrder_legs (s : State) (n : LegId) (i : Lane) (x : Side) : (s.deriveOrder n i x).legs = s.legs := by
  unfold State.deriveOrder
  dsimp only
  split <;> rfl

theorem State.deriveOrder_rx (s : State) (n : LegId) (i : Lane) (x : Side) : (s.deriveOrder n i x).rx = s.rx := by
  unfold State.deriveOrder
  dsimp only
  split <;> rfl

/-- A derived order moves the line of its own path alone, and only by obeying it (R18). -/
theorem State.deriveOrder_path (s : State) (n : LegId) (i : Lane) (x : Side) (k : Lane) (y : Side) :
    (s.deriveOrder n i x).txAt k y = s.txAt k y
      ∨ (s.deriveOrder n i x).txAt k y =
        { s.txAt k y with line := (s.txAt k y).line.obey (s.orderFor n i x) } := by
  unfold State.deriveOrder
  dsimp only
  split
  · exact (State.modTx_path _ i x _ k y).imp id And.right
  · exact .inl rfl

theorem State.deriveOrders_legs (s : State) (n : LegId) : (s.deriveOrders n).legs = s.legs :=
  State.onExchanges_induct (P := fun t => t.legs = s.legs) _ (fun i x t h => (t.deriveOrder_legs n i x).trans h) _ rfl

theorem State.deriveOrders_rx (s : State) (n : LegId) : (s.deriveOrders n).rx = s.rx :=
  State.onExchanges_induct (P := fun t => t.rx = s.rx) _ (fun i x t h => (t.deriveOrder_rx n i x).trans h) _ rfl

/-- Derived orders change no field of an exchange but its order. -/
theorem State.deriveOrders_exch (s : State) (n : LegId) (j : Lane) (y : Side) :
    (s.deriveOrders n).exch j y = { s.exch j y with order := ((s.deriveOrders n).exch j y).order } :=
  State.onExchanges_induct (P := fun t => t.exch j y = { s.exch j y with order := (t.exch j y).order }) _
    (fun i x t h => by
      by_cases he : (j, y) = (i, x)
      · obtain ⟨rfl, rfl⟩ := Prod.mk.inj he
        rw [t.deriveOrder_exch, h]
      · rw [t.deriveOrder_exch_ne n he, h]) _ rfl

/-- Derived orders change no field of a path but its line. -/
theorem State.deriveOrders_path (s : State) (n : LegId) (k : Lane) (y : Side) :
    (s.deriveOrders n).txAt k y = { s.txAt k y with line := ((s.deriveOrders n).txAt k y).line } :=
  State.onExchanges_induct (P := fun t => t.txAt k y = { s.txAt k y with line := (t.txAt k y).line }) _
    (fun i x t h => by rcases t.deriveOrder_path n i x k y with e | e <;> rw [e, h]) _ rfl

/-- The leg state of `n` gives each of its paths the order `o`, whatever the lanes do (R16). -/
def LegState.orders : LegState → ServiceOrder → Prop
  | .waiting, o => o = .standby
  | .parked, o => o = .quiet
  | _, _ => False

theorem State.orderFor_of_orders (s : State) {n : LegId} {o : ServiceOrder} (h : (s.leg n).state.orders o) (i : Lane)
    (x : Side) : s.orderFor n i x = o := by
  unfold State.orderFor
  generalize (s.leg n).state = q at h ⊢
  cases q with
  | waiting => exact h.symm
  | parked => exact h.symm
  | _ => exact h.elim

theorem State.deriveOrders_order (s : State) {i : Lane} {n : LegId} {o : ServiceOrder} (h : s.owner i = some n)
    (ho : (s.leg n).state.orders o) (x : Side) : ((s.deriveOrders n).exch i x).order = o :=
  State.onExchanges_reaches (P := fun t => t.legs = s.legs) (f := fun j y t => t.deriveOrder n j y)
    (Q := fun t => (t.exch i x).order = o) ((s.mem_legLanes n i).2 h)
    (fun j _ y t ht => (t.deriveOrder_legs n j y).trans ht)
    (fun t ht => by
      rw [t.deriveOrder_exch]
      exact t.orderFor_of_orders (by rwa [State.leg_congr ht]) i x)
    (fun _ _ _ t hne _ hq => by rwa [t.deriveOrder_exch_ne n hne.symm]) rfl

/-- The quiet order leaves a silent line silent (R18). -/
theorem State.deriveOrders_line (s : State) {n : LegId} (ho : (s.leg n).state = .parked) {k : Lane} {y : Side}
    (hl : (s.txAt k y).line = .quiet) : ((s.deriveOrders n).txAt k y).line = .quiet := by
  refine (State.onExchanges_keeps (P := fun t => t.legs = s.legs ∧ (t.txAt k y).line = .quiet)
    (fun j _ x t ht => ?_) ⟨rfl, hl⟩).2
  obtain ⟨hleg, hq⟩ := ht
  have horder : t.orderFor n j x = .quiet :=
    t.orderFor_of_orders (by rw [State.leg_congr hleg, ho]; rfl) j x
  refine ⟨(t.deriveOrder_legs n j x).trans hleg, ?_⟩
  rcases t.deriveOrder_path n j x k y with e | e <;> rw [e]
  · exact hq
  · simp [horder, LineOut.obey]

theorem Exchange.Fresh.withOrder {e e' : Exchange} {order : ServiceOrder} (h : e.Fresh) (he : e' = { e with order }) :
    e'.Fresh := by
  rw [he]
  exact h

theorem TxPath.Loaded.withLine {p q : TxPath} {r : RateClass} {line : LineOut} (h : p.Loaded r) (hq : q = { p with line }) :
    q.Loaded r := by
  rw [hq]
  exact h

theorem State.deriveOrders_fresh (s : State) (n : LegId) {j : Lane} {y : Side} (h : (s.exch j y).Fresh) :
    ((s.deriveOrders n).exch j y).Fresh :=
  h.withOrder (s.deriveOrders_exch n j y)

theorem State.deriveOrders_loaded (s : State) (n : LegId) {p : Profile} {k : Lane} {y : Side} (h : s.LoadedAt p k y) :
    (s.deriveOrders n).LoadedAt p k y :=
  ⟨h.1.withLine (s.deriveOrders_path n k y),
    (congrArg RxPath.eqCode (State.rxAt_congr (s.deriveOrders_rx n) k y)).trans h.2⟩

end Sys2Proof.Machine
end

section
/-! SUPPORT. The take of a record at a boundary (R8 to R10, R43, R54, R98, R99). -/

namespace Sys2Proof.Machine

/-! ### The lane map (R8, R9, R10) -/

/-- Only slices, transmit paths and leg records differ. -/
def State.TakeMoves (s t : State) : Prop := t = { s with slices := t.slices, tx := t.tx, legs := t.legs }

/-- The slice of lane `i` by the record of the leg that owns it. -/
def Leg.mapSlice (l : Leg) (i : Lane) (d : Slice) : Slice :=
  { d with pair := pairedLane l i, inverted := l.profile.polarity.getLsbD (i.val - l.first), rate := l.profile.rate }

theorem State.applyMap_only_slices (s : State) (n : LegId) : s.applyMap n = { s with slices := (s.applyMap n).slices } :=
  State.onLanes_induct (P := fun t => t = { s with slices := t.slices }) _ (fun i t h => by rw [h]; rfl) _ rfl

/-- The lane map leaves every lane to its owner. -/
theorem State.applyMap_owner (s : State) (n : LegId) (j : Lane) : (s.applyMap n).owner j = s.owner j :=
  State.onLanes_induct (P := fun t => t.owner j = s.owner j) _ (fun i t h => by
    by_cases hj : j = i
    · subst hj
      simpa [State.owner] using h
    · rwa [State.owner, t.slice_setSlice_ne _ hj]) _ rfl

/-- Every lane of the leg has pairing, inversion and rate class by the leg's record. -/
theorem State.applyMap_slice (s : State) {n : LegId} {j : Lane} (h : s.owner j = some n) :
    ∃ d, (s.applyMap n).slice j = (s.leg n).mapSlice j d :=
  State.onLanes_reaches (P := fun _ => True) (f := fun i t => t.setSlice i ((s.leg n).mapSlice i (t.slice i)))
    (Q := fun t => ∃ d, t.slice j = (s.leg n).mapSlice j d) ((s.mem_legLanes n j).2 h) (fun _ _ _ _ => trivial)
    (fun t _ => ⟨_, t.slice_setSlice_same j _⟩) (fun _ _ t hne _ hq => by rwa [t.slice_setSlice_ne _ hne.symm]) trivial

/-- A lane map by the leg's record is the lane map of the rules, where the lane lies in the leg's group (R4, R8 to R10). -/
theorem State.mapped_of_mapSlice {t : State} {n : LegId} {j : Lane} {d : Slice} (hg : (t.leg n).groupOk)
    (hj : t.inGroup n j) (h : t.slice j = (t.leg n).mapSlice j d) : t.Mapped n j := by
  refine ⟨?_, by rw [h]; rfl, by rw [h]; rfl⟩
  obtain ⟨hlo, hhi⟩ := hj
  have hfit : (t.leg n).first + (t.leg n).width ≤ 8 := by
    rcases hg with hw | ⟨_, _, hw⟩
    · omega
    · exact hw
  have hp : (t.slice j).pair = pairedLane (t.leg n) j := by rw [h]; rfl
  rw [hp]
  unfold pairedLane
  split
  · show ((t.leg n).first + ((t.leg n).width - 1 - (j.val - (t.leg n).first))) % 8 = _
    exact Nat.mod_eq_of_lt (by omega)
  · rfl

/-! ### The banks under a new profile (R43, R54) -/

/-- The path has the start sets of the profile and no valid learned set. -/
def TxPath.Given (p : TxPath) (q : Profile) (y : Side) : Prop :=
  p.learnedValid = ⟨false, false⟩ ∧ ∀ r : RateClass, p.start.get r = (q.start.get r).get y

theorem TxPath.Given.withOutput {p q : TxPath} {prof : Profile} {y : Side} {inUse : Coef} {line : LineOut}
    (h : p.Given prof y) (hq : q = { p with inUse, line }) : q.Given prof y := by
  rw [hq]
  exact h

theorem TxPath.banks_of_output {p q : TxPath} {inUse : Coef} {line : LineOut} (h : q = { p with inUse, line }) :
    q.start = p.start ∧ q.learned = p.learned ∧ q.learnedValid = p.learnedValid := by
  rw [h]
  exact ⟨rfl, rfl, rfl⟩

/-- One lane of leg `n` under a new profile. -/
def State.giveBanks (s : State) (n : LegId) (i : Lane) (x : Side) : State := (s.giveStarts n i x).forgetLearned i x

theorem TxPath.forget_given {q : Profile} {y : Side} {p : TxPath}
    (h : ∀ r : RateClass, p.start.get r = (q.start.get r).get y) : p.forget.Given q y := ⟨rfl, h⟩

theorem State.giveBanks_given (s : State) (n : LegId) (i : Lane) (x : Side) :
    ((s.giveBanks n i x).txPath i x).Given (s.leg n).profile x := by
  unfold State.giveBanks State.forgetLearned State.giveStarts
  rw [State.txPath_modTx_same, State.txPath_modTx_same]
  exact TxPath.forget_given fun r => by cases r <;> rfl

/-- Giving a lane of the leg its banks leaves the banks given to another. -/
theorem State.giveBanks_keeps_given (s : State) (n : LegId) (i : Lane) (x : Side) {k : Lane} {y : Side}
    (h : (s.txAt k y).Given (s.leg n).profile y) : ((s.giveBanks n i x).txAt k y).Given (s.leg n).profile y := by
  have hg : ∀ r : RateClass, ((s.giveStarts n i x).txAt k y).start.get r = ((s.leg n).profile.start.get r).get y := by
    unfold State.giveStarts
    rcases s.modTx_path i x (fun p =>
      { p with start := ⟨(s.leg n).profile.start.one.get x, (s.leg n).profile.start.two.get x⟩ }) k y with e | ⟨rfl, e⟩
    · exact fun r => by rw [e]; exact h.2 r
    · exact fun r => by rw [e]; cases r <;> rfl
  have hv : ((s.giveStarts n i x).txAt k y).learnedValid = ⟨false, false⟩ := by
    unfold State.giveStarts
    rcases s.modTx_path i x _ k y with e | ⟨_, e⟩ <;> rw [e] <;> exact h.1
  rcases (s.giveStarts n i x).modTx_path i x TxPath.forget k y with e | ⟨_, e⟩
  · exact e ▸ ⟨hv, hg⟩
  · exact e ▸ TxPath.forget_given hg

/-- The banks alone are given once the lane map stands. -/
theorem State.installProfile_only_banks (s : State) (n : LegId) :
    s.installProfile n = { s.applyMap n with tx := (s.installProfile n).tx } :=
  State.onExchanges_induct (P := fun t => t = { s.applyMap n with tx := t.tx }) (fun i x t => t.giveBanks n i x)
    (fun i x t h => by rw [h]; rfl) _ rfl

theorem State.installProfile_slices (s : State) (n : LegId) : (s.installProfile n).slices = (s.applyMap n).slices := by
  rw [State.installProfile_only_banks]

/-- Every path of the leg has the banks of the profile just made active, by the lane map of that profile (R43, R54, R99). -/
theorem State.installProfile_given (s : State) {n : LegId} {i : Lane} (h : s.owner i = some n) (x : Side) :
    ((s.installProfile n).txPath i x).Given (s.leg n).profile x := by
  have hleg : (s.applyMap n).leg n = (s.leg n) := by rw [State.applyMap_only_slices]; rfl
  rw [State.txPath_eq_txAt (s.installProfile_slices n)]
  refine State.onExchanges_reaches (P := fun t => t = { s.applyMap n with tx := t.tx }) (x := x)
    (f := fun i x t => t.giveBanks n i x) (Q := fun t => (t.txAt ((s.applyMap n).phys i x) x).Given (s.leg n).profile x)
    ((State.mem_legLanes _ n i).2 ((s.applyMap_owner n i).trans h)) (fun j _ y t ht => by rw [ht]; rfl)
    (fun t ht => ?_) (fun j _ y t _ ht hq => ?_) rfl
  · have hlt : t.leg n = s.leg n := by rw [ht]; exact hleg
    have hst : t.slices = (s.applyMap n).slices := by rw [ht]
    rw [← hlt, ← State.phys_congr hst]
    exact t.giveBanks_given n i x
  · have hlt : t.leg n = s.leg n := by rw [ht]; exact hleg
    rw [← hlt] at hq ⊢
    exact t.giveBanks_keeps_given n j y hq

/-! ### The take (R99) -/

/-- The leg record after the take of a page, the pending-differs flag apart (R99). -/
def Leg.taking (l : Leg) (page : Page) : Leg :=
  if l.source ≠ some page ∧ checkByteHolds page = true then
    { l with source := some page, profile := profileOf page, clamped := recordClamped page
             retry := if (profileOf page).retryLimit < 15 then min l.retry (profileOf page).retryLimit else l.retry }
  else l

/-- The leg record after a take (R98, R99). -/
def Leg.taken (l : Leg) (page : Page) : Leg :=
  { l.taking page with differs := pendingDiffers page (l.taking page).source }

theorem Leg.taking_of_taken {l : Leg} {page : Page} (hs : l.source ≠ some page) (hc : checkByteHolds page = true) :
    l.taking page =
      { l with source := some page, profile := profileOf page, clamped := recordClamped page
               retry := if (profileOf page).retryLimit < 15 then min l.retry (profileOf page).retryLimit else l.retry } :=
  if_pos ⟨hs, hc⟩

theorem Leg.taking_of_not_taken {l : Leg} {page : Page} (h : ¬(l.source ≠ some page ∧ checkByteHolds page = true)) :
    l.taking page = l := if_neg h

/-- A take keeps every other field of the record. -/
theorem Leg.taken_keeps (l : Leg) (page : Page) :
    l.taken page =
      { l with source := (l.taken page).source, profile := (l.taken page).profile, clamped := (l.taken page).clamped
               retry := (l.taken page).retry, differs := (l.taken page).differs } := by
  unfold Leg.taken Leg.taking
  split <;> rfl

theorem State.takeCase_skipped (s : State) {n : LegId} (h : (s.leg n).source = some s.pendingLegs[n]) :
    s.takeCase n = .skipped := if_pos h

theorem State.takeCase_taken (s : State) {n : LegId} (h : (s.leg n).source ≠ some s.pendingLegs[n])
    (hc : checkByteHolds s.pendingLegs[n] = true) : s.takeCase n = .taken := by
  unfold State.takeCase
  rw [if_neg h, if_pos hc]

theorem State.takeCase_refused (s : State) {n : LegId} (h : (s.leg n).source ≠ some s.pendingLegs[n])
    (hc : ¬checkByteHolds s.pendingLegs[n] = true) : s.takeCase n = .refused := by
  unfold State.takeCase
  rw [if_neg h, if_neg hc]

/-- Leg `n` takes its pending record rather than skip or refuse it. -/
def State.Takes (s : State) (n : LegId) : Prop :=
  (s.leg n).source ≠ some s.pendingLegs[n] ∧ checkByteHolds s.pendingLegs[n] = true

/-- The state in which a take has changed the leg's record and no slice or path yet. -/
def State.recordTaken (s : State) (n : LegId) : State := s.setLeg n ((s.leg n).taking s.pendingLegs[n])

theorem State.take_of_takes (s : State) {n : LegId} (h : s.Takes n) :
    s.take n = ((s.recordTaken n).installProfile n).refreshDiffers n := by
  obtain ⟨hs, hc⟩ := h
  unfold State.take State.recordTaken
  rw [s.takeCase_taken hs hc, Leg.taking_of_taken hs hc]
  rfl

theorem State.take_of_not_takes (s : State) {n : LegId} (h : ¬s.Takes n) :
    s.take n = ((s.recordTaken n).applyMap n).refreshDiffers n := by
  have hr : s.recordTaken n = s := by
    rw [State.recordTaken, Leg.taking_of_not_taken h, State.setLeg_leg]
  unfold State.take
  rw [hr]
  by_cases hs : (s.leg n).source = some s.pendingLegs[n]
  · rw [s.takeCase_skipped hs]
  · rw [s.takeCase_refused hs fun hc => h ⟨hs, hc⟩]

/-- After the record a take moves slices and transmit paths alone, each slice as the lane map does, and then derives
pending-differs. -/
theorem State.take_eq (s : State) (n : LegId) :
    ∃ u : State, s.take n = u.refreshDiffers n
      ∧ u = { s.recordTaken n with slices := ((s.recordTaken n).applyMap n).slices, tx := u.tx } := by
  have hmap := (s.recordTaken n).applyMap_only_slices n
  by_cases h : s.Takes n
  · refine ⟨_, s.take_of_takes h, ?_⟩
    have hb := (s.recordTaken n).installProfile_only_banks n
    rw [hmap] at hb
    exact hb
  · refine ⟨_, s.take_of_not_takes h, ?_⟩
    rw [hmap]

/-- A take leaves exchanges, receive paths, report unit, agent and pending copies. -/
theorem State.take_takeMoves (s : State) (n : LegId) : s.TakeMoves (s.take n) := by
  obtain ⟨u, ht, hu⟩ := s.take_eq n
  rw [ht, hu]
  rfl

theorem State.take_leg (s : State) (n : LegId) : (s.take n).leg n = (s.leg n).taken s.pendingLegs[n] := by
  obtain ⟨u, ht, hu⟩ := s.take_eq n
  have hl : u.leg n = (s.leg n).taking s.pendingLegs[n] := by
    rw [hu]
    exact s.leg_setLeg_same n _
  have hp : u.pendingLegs = s.pendingLegs := by rw [hu]; rfl
  rw [ht, State.refreshDiffers, State.leg_modLeg_same, hl, hp]
  rfl

/-- A take leaves the record of every other leg. -/
theorem State.take_leg_ne (s : State) {m n : LegId} (h : m ≠ n) : (s.take n).leg m = s.leg m := by
  obtain ⟨u, ht, hu⟩ := s.take_eq n
  have hl : u.leg m = s.leg m := by
    rw [hu]
    exact s.leg_setLeg_ne _ h
  rw [ht, State.refreshDiffers, State.leg_modLeg_ne _ _ h, hl]

theorem State.take_slices (s : State) (n : LegId) : (s.take n).slices = ((s.recordTaken n).applyMap n).slices := by
  obtain ⟨u, ht, hu⟩ := s.take_eq n
  rw [ht, hu]
  rfl

theorem State.take_owner (s : State) (n : LegId) (j : Lane) : (s.take n).owner j = s.owner j :=
  (State.owner_congr (s.take_slices n) j).trans (State.applyMap_owner _ n j)

/-- After a take the leg's lanes are mapped by its record (R8 to R10, R99 step 4). -/
theorem State.take_slice (s : State) {n : LegId} {j : Lane} (h : s.owner j = some n) :
    ∃ d, (s.take n).slice j = ((s.take n).leg n).mapSlice j d := by
  obtain ⟨d, hd⟩ := State.applyMap_slice (s.recordTaken n) (n := n) (j := j) h
  refine ⟨d, ?_⟩
  rw [State.slice_congr (s.take_slices n), hd, State.recordTaken, State.leg_setLeg_same, s.take_leg n]
  rfl

/-- A record that is taken gives every path of the leg its banks (R43, R54). -/
theorem State.take_given (s : State) {n : LegId} {i : Lane} (ht : s.Takes n) (h : s.owner i = some n) (x : Side) :
    ((s.take n).txPath i x).Given ((s.take n).leg n).profile x := by
  have hg := State.installProfile_given (s.recordTaken n) (n := n) (i := i) h x
  rw [State.recordTaken, State.leg_setLeg_same] at hg
  rw [s.take_leg n, s.take_of_takes ht]
  exact hg

/-- A record that is skipped or refused leaves every bank (R43, R99). -/
theorem State.take_tx (s : State) {n : LegId} (ht : ¬s.Takes n) : (s.take n).tx = s.tx := by
  rw [s.take_of_not_takes ht, State.applyMap_only_slices]
  rfl

end Sys2Proof.Machine
end

section
/-! SUPPORT. What the supervisor's operations do to the report unit, act by act, and what the acts leave of each condition
(R112, R113, R153, R154). -/

namespace Sys2Proof.Machine

/-! ### What reports nothing -/

/-- Neither the report unit, the attention line apart, nor a leg's condition differs. -/
structure State.Unreported (s t : State) : Prop where
  report : t.report = { s.report with attention := t.report.attention }
  conds : ∀ m : LegId, (t.leg m).conds = (s.leg m).conds

theorem State.Unreported.trans {s t u : State} (h : s.Unreported t) (k : t.Unreported u) : s.Unreported u :=
  ⟨by rw [k.report, h.report], fun m => (k.conds m).trans (h.conds m)⟩

theorem State.Unreported.condition {s t : State} (h : s.Unreported t) (o : Option LegId) (c : FaultCode) :
    t.condition o c = s.condition o c := by
  cases o with
  | none => cases c <;> simp only [State.condition] <;> rw [h.report]
  | some m => simp only [State.condition, h.conds m]

/-- What reports nothing is no act. -/
theorem State.ReportsBeside.unreported {s t u : State} {acts : List ReportAct} {skipped : List LegId}
    (h : s.ReportsBeside t acts skipped) (k : t.Unreported u) : s.ReportsBeside u acts skipped :=
  h.congr (by rw [k.report]) (by rw [k.report]) (by rw [k.report]) (by rw [k.report]) (by rw [k.report])
    (by rw [k.report]) k.condition

theorem State.LanesMove.report {s t : State} (h : s.LanesMove t) : t.report = s.report := by
  unfold State.LanesMove at h
  rw [h]

theorem State.ServiceMoves.unreported {s t : State} (h : s.ServiceMoves t) : s.Unreported t :=
  ⟨by rw [h.lanes.report], fun m => by rw [h.legs m]⟩

theorem State.modLeg_unreported (s : State) (n : LegId) (f : Leg → Leg) (hf : ∀ l : Leg, (f l).conds = l.conds) :
    s.Unreported (s.modLeg n f) := by
  refine ⟨rfl, fun m => ?_⟩
  by_cases hm : m = n
  · rw [hm, State.leg_modLeg_same, hf]
  · rw [State.leg_modLeg_ne _ _ hm]

theorem State.TakeMoves.report {s t : State} (h : s.TakeMoves t) : t.report = s.report := by
  unfold State.TakeMoves at h
  rw [h]

theorem State.take_unreported (s : State) (n : LegId) : s.Unreported (s.take n) := by
  refine ⟨by rw [(s.take_takeMoves n).report], fun m => ?_⟩
  by_cases hm : m = n
  · rw [hm, s.take_leg n, Leg.taken_keeps]
  · rw [s.take_leg_ne hm]

theorem State.countRetrain_unreported (s : State) (n : LegId) : s.Unreported (s.countRetrain n) :=
  (s.modLeg_unreported n (fun l =>
    { l with retrain := l.retrain + 1, rollRetrain := l.rollRetrain || l.retrain == 0xFFFF }) fun _ => rfl).trans
    ⟨rfl, fun _ => rfl⟩

/-! ### What reports alone -/

/-- Only the report unit and conditions of legs differ. -/
structure State.CondsMove (s t : State) : Prop where
  moves : s.ReportMoves t
  legs : ∀ m : LegId, t.leg m = { s.leg m with conds := (t.leg m).conds }

theorem State.CondsMove.refl (s : State) : s.CondsMove s := ⟨.refl s, fun _ => rfl⟩

theorem State.CondsMove.trans {s t u : State} (h : s.CondsMove t) (k : t.CondsMove u) : s.CondsMove u :=
  ⟨h.moves.trans k.moves, fun m => by rw [k.legs m, h.legs m]⟩

theorem State.queueEvent_condsMove (s : State) (leg : Option LegId) (kind : EventKind) :
    s.CondsMove (s.queueEvent leg kind) := ⟨rfl, fun _ => rfl⟩

theorem State.setCondition_condsMove (s : State) (owner : Option LegId) (code : FaultCode) (b : Bool) :
    s.CondsMove (s.setCondition owner code b) := by
  refine ⟨s.setCondition_moves owner code b, fun m => ?_⟩
  cases owner with
  | none => cases code <;> rfl
  | some n =>
    by_cases hm : m = n
    · simp [State.setCondition, hm]
    · simp [State.setCondition, s.leg_modLeg_ne _ hm]

/-- A change of the report unit with a record queued moves no leg. -/
theorem State.CondsMove.queued {s t : State} (h : s.CondsMove t) (r : Report) (leg : Option LegId) (kind : EventKind) :
    s.CondsMove (State.queueEvent { t with report := r } leg kind) :=
  ⟨h.moves.trans rfl, h.legs⟩

theorem State.raiseFault_condsMove (s : State) (owner : Option LegId) (code : FaultCode) (detail : Byte) :
    s.CondsMove (s.raiseFault owner code detail) :=
  (s.setCondition_condsMove owner code true).queued _ _ _

theorem State.endCondition_condsMove (s : State) (owner : Option LegId) (code : FaultCode) :
    s.CondsMove (s.endCondition owner code) := by
  have hs := s.setCondition_condsMove owner code false
  unfold State.endCondition
  dsimp only
  split
  · split
    · exact hs
    · split
      · exact (hs.queued _ _ _).trans (State.queueEvent_condsMove _ _ _)
      · exact hs.queued _ _ _
  · exact .refl s

theorem State.marginCheck_condsMove (s : State) (n : LegId) : s.CondsMove (s.marginCheck n) := by
  unfold State.marginCheck
  split
  · split
    · exact .refl s
    · exact s.raiseFault_condsMove _ _ _
  · exact s.endCondition_condsMove _ _

theorem State.endAttemptConditions_condsMove (s : State) (n : LegId) : s.CondsMove (s.endAttemptConditions n) :=
  ((s.endCondition_condsMove _ _).trans (State.endCondition_condsMove _ _ _)).trans (State.endCondition_condsMove _ _ _)

theorem State.reportTake_condsMove (s : State) (n : LegId) (result : TakeResult) : s.CondsMove (s.reportTake n result) := by
  cases result with
  | skipped => exact s.endCondition_condsMove _ _
  | refused => exact (s.queueEvent_condsMove _ _).trans (State.raiseFault_condsMove _ _ _ _)
  | taken => exact (s.queueEvent_condsMove _ _).trans (State.endCondition_condsMove _ _ _)

/-- Reports leave lanes, paths, slices, agent and pending copies. -/
theorem State.CondsMove.fabric {s t : State} (h : s.CondsMove t) :
    t.slices = s.slices ∧ t.tx = s.tx ∧ t.rx = s.rx ∧ t.ex = s.ex ∧ t.agent = s.agent
      ∧ t.pendingLegs = s.pendingLegs := by
  have hm := h.moves
  unfold State.ReportMoves at hm
  rw [hm]
  exact ⟨rfl, rfl, rfl, rfl, rfl, rfl⟩

/-! ### Conditions after acts (R112, R153, R154) -/

/-- A condition, which stood at `b`, after one act. -/
def conditionAfter (owner : Option LegId) (code : FaultCode) (b : Bool) : ReportAct → Bool
  | .queues _ _ => b
  | .raises o c _ => if owner = o ∧ code = c then true else b
  | .ends o c => if owner = o ∧ code = c then false else b

theorem Desk.raised_holds (d : Desk) (owner : Option LegId) (code : FaultCode) (detail : Byte) (clock : BitVec 32) :
    (d.raised owner code detail clock).holds = (d.hold owner code true).holds := by
  rw [Desk.raised_eq]

theorem Desk.ended_holds (d : Desk) (owner : Option LegId) (code : FaultCode) :
    (d.ended owner code).holds = (d.hold owner code false).holds := by
  by_cases h : d.holds owner code = true
  · rw [Desk.ended_eq d h]
    split <;> rfl
  · rw [Desk.ended, if_neg h]
    funext o c
    show d.holds o c = if o = owner ∧ c = code then false else d.holds o c
    split
    · next hoc => rw [hoc.1, hoc.2, Bool.eq_false_iff.2 h]
    · rfl

theorem Desk.after_holds (clock : BitVec 32) (d : Desk) (act : ReportAct) (owner : Option LegId) (code : FaultCode) :
    (d.after clock act).holds owner code = conditionAfter owner code (d.holds owner code) act := by
  cases act with
  | queues leg kind => rfl
  | raises o c detail => exact congrFun (congrFun (d.raised_holds o c detail clock) owner) code
  | ends o c => exact congrFun (congrFun (d.ended_holds o c) owner) code

theorem Desk.foldl_after_holds (clock : BitVec 32) (acts : List ReportAct) (d : Desk) (owner : Option LegId)
    (code : FaultCode) :
    (acts.foldl (Desk.after clock) d).holds owner code = acts.foldl (conditionAfter owner code) (d.holds owner code) := by
  induction acts generalizing d with
  | nil => rfl
  | cons act rest ih => rw [List.foldl_cons, List.foldl_cons, ih, Desk.after_holds]

/-- The acts of an event say what it leaves of every condition. -/
theorem State.ReportsBeside.condition {s t : State} {acts : List ReportAct} {skipped : List LegId}
    (h : s.ReportsBeside t acts skipped) (owner : Option LegId) (code : FaultCode) :
    t.condition owner code = acts.foldl (conditionAfter owner code) (s.condition owner code) := by
  obtain ⟨_, _, _, hc, _⟩ := h
  rw [hc owner code, Desk.foldl_after_holds, State.desk_holds]

/-- The margin condition's act leaves every other condition (R135). -/
theorem State.marginActs_conditionAfter (s t : State) (n : LegId) {code : FaultCode} (h : code ≠ .marginLow) (b : Bool) :
    (s.marginActs t n).foldl (conditionAfter (some n) code) b = b := by
  unfold State.marginActs
  split
  · simp [conditionAfter, h]
  · split <;> simp [conditionAfter, h]

theorem State.marginActs_congr {s s' : State} (t : State) {n : LegId}
    (h : s'.condition (some n) .marginLow = s.condition (some n) .marginLow) : s'.marginActs t n = s.marginActs t n := by
  unfold State.marginActs
  rw [h]

/-- The margin check sees the alarms that it leaves (R135). -/
theorem State.marginActs_marginCheck (s t : State) (n : LegId) : s.marginActs (t.marginCheck n) n = s.marginActs t n := by
  have hm := (t.marginCheck_condsMove n).fabric
  obtain ⟨hs, _, hr, _⟩ := hm
  unfold State.marginActs State.anyAlarm
  simp only [State.legLanes_congr hs, State.rxPath_congr hr hs]

/-! ### Acts that depend on the leg -/

/-- The end of a condition in one case alone. -/
theorem State.ReportsBeside.endIf {s t : State} {acts : List ReportAct} {skipped : List LegId}
    (h : s.ReportsBeside t acts skipped) {owner : Option LegId} {code : FaultCode} (ho : OwnsCode owner code) (p : Prop)
    [Decidable p] :
    s.ReportsBeside (if p then t.endCondition owner code else t) (acts ++ if p then [.ends owner code] else []) skipped := by
  by_cases hp : p
  · simpa only [if_pos hp] using h.endCondition ho
  · simpa only [if_neg hp, List.append_nil] using h

theorem State.endIf_condsMove (s : State) (owner : Option LegId) (code : FaultCode) (p : Prop) [Decidable p] :
    s.CondsMove (if p then s.endCondition owner code else s) := by
  split
  · exact s.endCondition_condsMove _ _
  · exact .refl s

/-- A LEG_STATE record is one act more (R113). -/
theorem State.ReportsBeside.queueLegState {s t : State} {acts : List ReportAct} {skipped : List LegId}
    (h : s.ReportsBeside t acts skipped) (n : LegId) (before after : LegState) (cause : LegCause) :
    s.ReportsBeside (t.queueLegState n before after cause)
      (acts ++ [.queues (some n) (.legState before after cause)]) skipped :=
  h.queueEvent (some n) _ (by simp)

/-- A take's report is its acts, where the clamped flag reported is that of the record taken (R100). -/
theorem State.ReportsBeside.reportTake {s t : State} {acts : List ReportAct} {skipped : List LegId}
    (h : s.ReportsBeside t acts skipped) (u : State) (n : LegId)
    (hc : u.Takes n → (t.leg n).clamped = recordClamped u.pendingLegs[n]) :
    s.ReportsBeside (t.reportTake n (u.takeCase n)) (acts ++ u.takeActs n) skipped := by
  have ho : OwnsCode (some n) .profileBad := ownsCode_some n (by simp) (by simp)
  unfold State.takeActs
  by_cases hs : (u.leg n).source = some u.pendingLegs[n]
  · rw [u.takeCase_skipped hs, if_pos hs]
    exact h.endCondition ho
  · rw [if_neg hs]
    by_cases hp : checkByteHolds u.pendingLegs[n] = true
    · rw [u.takeCase_taken hs hp, if_pos hp, ← hc ⟨hs, hp⟩, List.append_cons]
      exact (h.queueEvent (some n) (.profileTaken (t.leg n).clamped) (by simp)).endCondition ho
    · rw [u.takeCase_refused hs hp, if_neg hp, List.append_cons]
      exact (h.queueEvent (some n) .profileRefused (by simp)).raiseFault 0 ho

/-- What a take's report leaves of PROFILE_BAD: the condition of a refused record (R100). -/
theorem State.takeActs_profileBad (s : State) (n : LegId) (b : Bool) :
    (s.takeActs n).foldl (conditionAfter (some n) .profileBad) b =
      if (s.leg n).source = some s.pendingLegs[n] then false
      else if checkByteHolds s.pendingLegs[n] = true then false else true := by
  unfold State.takeActs
  split
  · simp [conditionAfter]
  · split <;> simp [conditionAfter]

theorem State.takeActs_conditionAfter (s : State) (n : LegId) {code : FaultCode} (h : code ≠ .profileBad) (b : Bool) :
    (s.takeActs n).foldl (conditionAfter (some n) code) b = b := by
  unfold State.takeActs
  split
  · simp [conditionAfter, h]
  · split <;> simp [conditionAfter, h]

end Sys2Proof.Machine
end

section
/-! SUPPORT. What a boundary that takes a leg to WAITING does, whatever its cause: the leg's record and lanes, its banks, and
its reports (R43, R99 to R101, R113). -/

namespace Sys2Proof.Machine

/-! ### A boundary, before it reports (R101) -/

/-- The state in which a boundary has taken the leg out of service, before its take. -/
def State.stoodDown (s : State) (n : LegId) : State :=
  (s.legLeavesService n).modLeg n fun l => { l.standDown with state := .waiting }

/-- The state in which a boundary has done everything but report. -/
def State.standingBy (s : State) (n : LegId) : State := (((s.stoodDown n).take n).startLeg n).deriveOrders n

theorem State.stoodDown_leg (s : State) (n : LegId) :
    (s.stoodDown n).leg n = { (s.leg n).standDown with state := .waiting } := by
  rw [State.stoodDown, State.leg_modLeg_same, (s.serviceMoves_legLeavesService n).legs n]
  rfl

theorem State.stoodDown_lanesMove (s : State) (n : LegId) : s.LanesMove (s.stoodDown n) :=
  (s.serviceMoves_legLeavesService n).lanes.trans (State.modLeg_moves _ n _)

theorem State.stoodDown_pendingLegs (s : State) (n : LegId) : (s.stoodDown n).pendingLegs = s.pendingLegs := by
  have h := s.stoodDown_lanesMove n
  unfold State.LanesMove at h
  rw [h]

theorem State.stoodDown_takes (s : State) (n : LegId) : (s.stoodDown n).Takes n ↔ s.Takes n := by
  unfold State.Takes
  rw [s.stoodDown_leg n]
  simp only [s.stoodDown_pendingLegs n]
  rfl

theorem State.stoodDown_takeCase (s : State) (n : LegId) : (s.stoodDown n).takeCase n = s.takeCase n := by
  unfold State.takeCase
  rw [s.stoodDown_leg n]
  simp only [s.stoodDown_pendingLegs n]
  rfl

theorem State.boundary_eq (s : State) (n : LegId) (cause : LegCause) :
    s.boundary n cause =
      (((s.standingBy n).queueLegState n (s.leg n).state .waiting cause).reportTake n (s.takeCase n)).marginCheck n := by
  rw [← s.stoodDown_takeCase n]
  rfl

/-- The leg record of a boundary: waiting, every timer stopped, by the record that its take leaves (R99, R101). -/
def Leg.waitingUnder (l : Leg) (page : Page) : Leg := { (l.taken page).standDown with state := .waiting }

theorem Leg.taken_standDown (l : Leg) (page : Page) :
    Leg.taken { l.standDown with state := .waiting } page = l.waitingUnder page := by
  unfold Leg.waitingUnder Leg.taken
  by_cases h : l.source ≠ some page ∧ checkByteHolds page = true
  · rw [Leg.taking_of_taken (l := l) h.1 h.2, Leg.taking_of_taken (l := { l.standDown with state := .waiting }) h.1 h.2]
    rfl
  · rw [Leg.taking_of_not_taken (l := l) h, Leg.taking_of_not_taken (l := { l.standDown with state := .waiting }) h]
    rfl

theorem State.stoodDown_taken_leg (s : State) (n : LegId) :
    ((s.stoodDown n).take n).leg n = (s.leg n).waitingUnder s.pendingLegs[n] := by
  rw [State.take_leg, s.stoodDown_leg n, ← Leg.taken_standDown]
  simp only [s.stoodDown_pendingLegs n]

theorem State.standingBy_serviceMoves (s : State) (n : LegId) : ((s.stoodDown n).take n).ServiceMoves (s.standingBy n) :=
  (State.serviceMoves_startLeg _ n).trans (State.serviceMoves_deriveOrders _ n)

theorem State.standingBy_leg (s : State) (n : LegId) :
    (s.standingBy n).leg n = (s.leg n).waitingUnder s.pendingLegs[n] := by
  have hl := s.stoodDown_taken_leg n
  rw [(s.standingBy_serviceMoves n).leg_eq n (by rw [hl]; rfl) (by rw [hl]; rfl), hl]

theorem State.stoodDown_taken_owner (s : State) (n : LegId) (j : Lane) : ((s.stoodDown n).take n).owner j = s.owner j :=
  (State.take_owner _ n j).trans (State.owner_congr (s.stoodDown_lanesMove n).slices j)

/-- Every lane of the leg has its exchange afresh, standing by (R12, R16, R36). -/
theorem State.standingBy_exch (s : State) {n : LegId} {j : Lane} (h : s.owner j = some n) (y : Side) :
    ((s.standingBy n).exch j y).Fresh ∧ ((s.standingBy n).exch j y).order = .standby := by
  have ho := (s.stoodDown_taken_owner n j).trans h
  constructor
  · exact State.deriveOrders_fresh _ n (State.startLeg_fresh _ ho y)
  · have hs := State.serviceMoves_startLeg ((s.stoodDown n).take n) n
    refine State.deriveOrders_order _ ((hs.owner j).trans ho) ?_ y
    rw [hs.legs n, s.stoodDown_taken_leg n]
    rfl

/-- Every lane of the leg is loaded by the profile that the take leaves (R2, R40). -/
theorem State.standingBy_loaded (s : State) {n : LegId} {j : Lane} (h : s.owner j = some n) (y : Side) :
    ((s.standingBy n).txPath j y).Loaded ((s.leg n).taken s.pendingLegs[n]).profile.rate
      ∧ ((s.standingBy n).rxPath j y).eqCode = (((s.leg n).taken s.pendingLegs[n]).profile.equalizer.get
          ((s.leg n).taken s.pendingLegs[n]).profile.rate).get y := by
  have hl := State.deriveOrders_loaded _ n
    (State.startLeg_loaded ((s.stoodDown n).take n) ((s.stoodDown_taken_owner n j).trans h) y)
  have hp : (((s.stoodDown n).take n).leg n).profile = ((s.leg n).taken s.pendingLegs[n]).profile := by
    rw [s.stoodDown_taken_leg n]
    rfl
  have hs := (s.standingBy_serviceMoves n).lanes.slices
  rw [State.txPath_eq_txAt hs, State.rxPath_eq_rxAt hs, ← hp]
  exact hl

/-- Every lane of the leg is mapped by the record that the take leaves (R8 to R10). -/
theorem State.standingBy_slice (s : State) {n : LegId} {j : Lane} (h : s.owner j = some n) :
    ∃ d, (s.standingBy n).slice j = ((s.leg n).waitingUnder s.pendingLegs[n]).mapSlice j d := by
  obtain ⟨d, hd⟩ := State.take_slice (s.stoodDown n) (n := n) (j := j)
    ((State.owner_congr (s.stoodDown_lanesMove n).slices j).trans h)
  refine ⟨d, ?_⟩
  rw [State.slice_congr (s.standingBy_serviceMoves n).lanes.slices, hd, s.stoodDown_taken_leg n]

/-- A record that is taken gives the leg's paths its start sets and no valid learned set (R43, R54). -/
theorem State.standingBy_given (s : State) {n : LegId} {j : Lane} (ht : s.Takes n) (h : s.owner j = some n) (y : Side) :
    ((s.standingBy n).txPath j y).Given ((s.leg n).taken s.pendingLegs[n]).profile y := by
  have hg := State.take_given (s.stoodDown n) ((s.stoodDown_takes n).2 ht) (i := j)
    ((State.owner_congr (s.stoodDown_lanesMove n).slices j).trans h) y
  have hm := s.standingBy_serviceMoves n
  rw [s.stoodDown_taken_leg n] at hg
  rw [State.txPath_eq_txAt hm.lanes.slices]
  exact TxPath.Given.withOutput hg (hm.banks _ y)

/-- A record that is skipped or refused leaves every bank (R43, R99). -/
theorem State.standingBy_banksKept (s : State) {n : LegId} (ht : ¬s.Takes n) : s.BanksKept (s.standingBy n) n := by
  intro j y _
  have hb := (s.standingBy_serviceMoves n).banks j y
  rw [State.txAt_congr (State.take_tx _ fun k => ht ((s.stoodDown_takes n).1 k))] at hb
  obtain ⟨hs, hl, hv⟩ := TxPath.banks_of_output hb
  obtain ⟨hs', hl', hv'⟩ := TxPath.banks_of_output ((s.serviceMoves_legLeavesService n).banks j y)
  exact ⟨hs.trans hs', hl.trans hl', hv.trans hv'⟩

theorem State.standingBy_agent (s : State) (n : LegId) : (s.standingBy n).agent = s.agent := by
  have h := (s.standingBy_serviceMoves n).lanes
  have ht := State.take_takeMoves (s.stoodDown n) n
  have hs := s.stoodDown_lanesMove n
  unfold State.LanesMove at h hs
  unfold State.TakeMoves at ht
  rw [h, ht, hs]

theorem State.stoodDown_unreported (s : State) (n : LegId) : s.Unreported (s.stoodDown n) :=
  (s.serviceMoves_legLeavesService n).unreported.trans
    (State.modLeg_unreported _ n (fun l => { l.standDown with state := .waiting }) fun _ => rfl)

theorem State.standingBy_unreported (s : State) (n : LegId) : s.Unreported (s.standingBy n) :=
  ((s.stoodDown_unreported n).trans (State.take_unreported _ n)).trans (s.standingBy_serviceMoves n).unreported

/-! ### A boundary with its reports (R100, R101, R113) -/

theorem State.boundary_condsMove (s : State) (n : LegId) (cause : LegCause) :
    (s.standingBy n).CondsMove (s.boundary n cause) := by
  rw [s.boundary_eq n cause]
  exact ((State.queueEvent_condsMove _ _ _).trans (State.reportTake_condsMove _ n _)).trans
    (State.marginCheck_condsMove _ n)

theorem State.boundary_leg (s : State) (n : LegId) (cause : LegCause) :
    (s.boundary n cause).leg n =
      { (s.leg n).waitingUnder s.pendingLegs[n] with conds := ((s.boundary n cause).leg n).conds } := by
  rw [(s.boundary_condsMove n cause).legs n, s.standingBy_leg n]

theorem State.boundary_agent (s : State) (n : LegId) (cause : LegCause) : (s.boundary n cause).agent = s.agent := by
  obtain ⟨_, _, _, _, h, _⟩ := (s.boundary_condsMove n cause).fabric
  exact h.trans (s.standingBy_agent n)

/-- A boundary keeps the leg's counters, last failure and group, with the record's other fields as its take leaves them. -/
theorem State.boundary_keeps (s : State) (n : LegId) (cause : LegCause) :
    (s.boundary n cause).leg n =
      { (s.leg n).standDown with
        state := .waiting, source := ((s.boundary n cause).leg n).source
        profile := ((s.boundary n cause).leg n).profile, clamped := ((s.boundary n cause).leg n).clamped
        retry := ((s.boundary n cause).leg n).retry, differs := ((s.boundary n cause).leg n).differs
        conds := ((s.boundary n cause).leg n).conds } := by
  rw [s.boundary_leg n cause, Leg.waitingUnder, Leg.taken_keeps]
  rfl

theorem State.standingBy_clamped (s : State) {n : LegId} (h : s.Takes n) :
    ((s.standingBy n).leg n).clamped = recordClamped s.pendingLegs[n] := by
  rw [s.standingBy_leg n, Leg.waitingUnder, Leg.taken, Leg.taking_of_taken h.1 h.2]
  rfl

/-- A boundary reports the leg's new state and then its take (R100, R113). -/
theorem State.ReportsBeside.boundaryTake {s t : State} {acts : List ReportAct} {skipped : List LegId}
    (h : s.ReportsBeside t acts skipped) (n : LegId) (cause : LegCause) :
    s.ReportsBeside (((t.standingBy n).queueLegState n (t.leg n).state .waiting cause).reportTake n (t.takeCase n))
      (acts ++ ([.queues (some n) (.legState (t.leg n).state .waiting cause)] ++ t.takeActs n)) skipped := by
  rw [← List.append_assoc]
  have hq := (h.unreported (t.standingBy_unreported n)).queueLegState n (t.leg n).state .waiting cause
  refine hq.reportTake t n fun ht => ?_
  rw [State.queueLegState, State.leg_of_queueEvent, t.standingBy_clamped ht]

/-- No record and no take of a boundary touches the margin condition. -/
theorem State.boundaryTake_marginLow (s : State) (n : LegId) (cause : LegCause) :
    (((s.standingBy n).queueLegState n (s.leg n).state .waiting cause).reportTake n (s.takeCase n)).condition (some n)
      .marginLow = s.condition (some n) .marginLow := by
  rw [((State.Reports.refl s).boundaryTake n cause).condition (some n) .marginLow, List.nil_append, List.foldl_append,
    s.takeActs_conditionAfter n (by simp)]
  rfl

/-- What a boundary reports is its acts, where no earlier act of the event touched the margin condition (R100, R113,
R135). -/
theorem State.ReportsBeside.boundary {s t : State} {acts : List ReportAct} {skipped : List LegId}
    (h : s.ReportsBeside t acts skipped) (n : LegId) (cause : LegCause)
    (hm : t.condition (some n) .marginLow = s.condition (some n) .marginLow) :
    s.ReportsBeside (t.boundary n cause) (acts ++ t.boundaryActs (t.boundary n cause) n cause) skipped := by
  have hb := (h.boundaryTake n cause).marginCheck n ((t.boundaryTake_marginLow n cause).trans hm)
  unfold State.boundaryActs
  rw [t.boundary_eq n cause, State.marginActs_marginCheck, State.marginActs_congr _ hm, ← List.append_assoc]
  exact hb

/-- A boundary leaves PROFILE_BAD by the case of its take (R100). -/
theorem State.boundary_profileBad (s : State) (n : LegId) (cause : LegCause) :
    (s.boundary n cause).condition (some n) .profileBad =
      if (s.leg n).source = some s.pendingLegs[n] then false
      else if checkByteHolds s.pendingLegs[n] = true then false else true := by
  have hc := ((State.Reports.refl s).boundary n cause rfl).condition (some n) .profileBad
  rw [hc, List.nil_append, State.boundaryActs, List.foldl_append, List.foldl_append,
    State.marginActs_conditionAfter _ _ n (by simp), s.takeActs_profileBad n]

/-! ### What a boundary brings the leg to (R99, R101) -/

/-- Every lane that the leg owns lies in its group, which is one of R4's. -/
def State.GroupHolds (s : State) (n : LegId) : Prop :=
  (s.leg n).groupOk ∧ ∀ j : Lane, s.owner j = some n → s.inGroup n j

theorem State.PlanOk.groupHolds {s : State} (h : s.PlanOk) (n : LegId) : s.GroupHolds n := by
  obtain ⟨hg, ho, _⟩ := h
  exact ⟨hg n, fun j hj => ((ho j n).1 hj).2⟩

/-- The lanes of the leg after a boundary. -/
theorem State.boundary_lane (s : State) {n : LegId} (cause : LegCause) (hg : s.GroupHolds n) {j : Lane}
    (hj : s.owner j = some n) (y : Side) :
    ((s.boundary n cause).exch j y).Fresh ∧ (s.boundary n cause).Mapped n j
      ∧ ((s.boundary n cause).txPath j y).Loaded ((s.boundary n cause).leg n).profile.rate
      ∧ ((s.boundary n cause).rxPath j y).eqCode =
        (((s.boundary n cause).leg n).profile.equalizer.get ((s.boundary n cause).leg n).profile.rate).get y
      ∧ ((s.boundary n cause).exch j y).order = .standby := by
  obtain ⟨hs, htx, hrx, hex, _⟩ := (s.boundary_condsMove n cause).fabric
  obtain ⟨hfresh, horder⟩ := s.standingBy_exch hj y
  obtain ⟨hload, hcode⟩ := s.standingBy_loaded hj y
  have hp : ((s.boundary n cause).leg n).profile = ((s.leg n).taken s.pendingLegs[n]).profile := by
    rw [s.boundary_leg n cause]
    rfl
  rw [State.exch_congr hex, State.txPath_congr htx hs, State.rxPath_congr hrx hs, hp]
  refine ⟨hfresh, ?_, hload, hcode, horder⟩
  obtain ⟨hok, hin⟩ := hg
  have hk := s.boundary_keeps n cause
  obtain ⟨d, hd⟩ := s.standingBy_slice hj
  refine State.mapped_of_mapSlice (d := d) (by rw [hk]; exact hok) (by unfold State.inGroup; rw [hk]; exact hin j hj) ?_
  rw [State.slice_congr hs, hd, s.boundary_leg n cause]
  rfl

theorem State.BanksKept.congr {s t u : State} {n : LegId} (h : s.BanksKept t n) (k : u.tx = t.tx) : s.BanksKept u n := by
  intro j y hj
  rw [show u.tx[j] = t.tx[j] by rw [k]]
  exact h j y hj

/-- A boundary takes the leg to WAITING as R101 says, whatever its cause. -/
theorem State.boundary_spec (s : State) (n : LegId) (cause : LegCause) (hg : s.GroupHolds n) :
    s.Boundary (s.boundary n cause) n := by
  obtain ⟨hs, htx, _⟩ := (s.boundary_condsMove n cause).fabric
  have hk := s.boundary_keeps n cause
  have hl := s.boundary_leg n cause
  have hc := s.boundary_profileBad n cause
  have hbanks : ¬s.Takes n → s.BanksKept (s.boundary n cause) n := fun h => (s.standingBy_banksKept h).congr htx
  have hidle : ((s.boundary n cause).leg n).Idle := by
    rw [hk]
    exact ⟨rfl, rfl, rfl, rfl, rfl, rfl⟩
  refine ⟨by rw [hk], hidle, by rw [hk]; rfl, by rw [hk]; rfl, by rw [hk]; rfl,
    fun j y hj => s.boundary_lane cause hg hj y, ?_, ?_⟩
  · by_cases hsrc : (s.leg n).source = some s.pendingLegs[n]
    · have hnot : ¬s.Takes n := fun h => h.1 hsrc
      rw [if_pos hsrc] at hc ⊢
      rw [Leg.waitingUnder, Leg.taken, Leg.taking_of_not_taken hnot] at hl
      exact ⟨by rw [hl]; rfl, by rw [hl]; rfl, by rw [hl]; rfl, hc, hbanks hnot⟩
    · rw [if_neg hsrc] at hc ⊢
      by_cases hck : checkByteHolds s.pendingLegs[n] = true
      · rw [if_pos hck] at hc ⊢
        have hp : ((s.boundary n cause).leg n).profile = ((s.leg n).taken s.pendingLegs[n]).profile := by
          rw [hl]
          rfl
        have hgiven (j : Lane) (y : Side) (hj : s.owner j = some n) := s.standingBy_given ⟨hsrc, hck⟩ hj y
        rw [Leg.waitingUnder, Leg.taken, Leg.taking_of_taken hsrc hck] at hl
        refine ⟨by rw [hl]; rfl, by rw [hl]; rfl, by rw [hl]; rfl, hc, fun j y hj => ?_⟩
        rw [State.txPath_congr htx hs, hp]
        exact hgiven j y hj
      · have hnot : ¬s.Takes n := fun h => hck h.2
        rw [if_neg hck] at hc ⊢
        rw [Leg.waitingUnder, Leg.taken, Leg.taking_of_not_taken hnot] at hl
        exact ⟨by rw [hl]; rfl, by rw [hl]; rfl, by rw [hl]; rfl, hc, hbanks hnot⟩
  · rw [hl]
    simp [Leg.waitingUnder, Leg.standDown, Leg.taken, pendingDiffers]

end Sys2Proof.Machine
end

section
/-! PROOF. The leg commands retrain, unpark and park (R99 to R101, R108 to R110). -/

namespace Sys2Proof.Machine

/-! ### Commands of the live window (R148) -/

/-- A leg command acts on a leg that exists while the window takes commands (R5, R148). -/
theorem State.legCommand_of_open (s : State) {n : LegId} (f : State → State) (hw : s.windowOpen = true)
    (he : s.legExists n = true) : s.legCommand n f = f s := by
  simp [State.legCommand, State.whenOpen, hw, he]

theorem exec_retrain (s : State) {n : LegId} (hw : s.windowOpen = true) (he : s.legExists n = true) :
    exec (.retrain n) s = .next (s.retrainLeg n) :=
  congrArg Host.Outcome.next (s.legCommand_of_open (·.retrainLeg n) hw he)

theorem exec_unpark (s : State) {n : LegId} (hw : s.windowOpen = true) (he : s.legExists n = true) :
    exec (.unpark n) s = .next (s.unparkLeg n) :=
  congrArg Host.Outcome.next (s.legCommand_of_open (·.unparkLeg n) hw he)

theorem exec_park (s : State) {n : LegId} (hw : s.windowOpen = true) (he : s.legExists n = true) :
    exec (.park n) s = .next (s.parkLeg n .park) :=
  congrArg Host.Outcome.next (s.legCommand_of_open (·.parkLeg n .park) hw he)

/-! ### The retry count over a boundary (R99 step 5, R101) -/

theorem State.boundary_retryTaken (s : State) (n : LegId) (cause : LegCause) :
    s.RetryTaken (s.boundary n cause) n (s.leg n).retry := by
  have hl := s.boundary_leg n cause
  unfold State.RetryTaken
  by_cases h : s.Takes n
  · rw [Leg.waitingUnder, Leg.taken, Leg.taking_of_taken h.1 h.2] at hl
    rw [hl]
    simp only [Leg.standDown, ne_eq, h.1, not_false_eq_true, h.2, true_and]
  · rw [if_neg fun k => h ⟨k.1, k.2.1⟩, hl, Leg.waitingUnder, Leg.taken, Leg.taking_of_not_taken h]
    rfl

/-- A retry count of 0 stays 0 over a take. -/
theorem State.RetryTaken.zero {s t : State} {n : LegId} (h : s.RetryTaken t n 0) : (t.leg n).retry = 0 := by
  unfold State.RetryTaken at h
  rw [h]
  split <;> simp

/-! ### Retrain (R108) -/

/-- The state in which a retrain has counted and zeroed, and ended the condition of RETRY_OUT, before its boundary. -/
def State.retrained (s : State) (n : LegId) : State :=
  let t := (s.countRetrain n).modLeg n fun l => { l with retry := 0 }
  if (s.leg n).state = .failed then t.endCondition (some n) .retryOut else t

theorem State.retrainLeg_eq (s : State) {n : LegId} (h : (s.leg n).state ≠ .parked) :
    s.retrainLeg n = (s.retrained n).boundary n .retrain := if_neg h

theorem State.retrained_leg (s : State) (n : LegId) :
    (s.retrained n).leg n =
      { s.leg n with
        retry := 0, retrain := (s.leg n).retrain + 1
        rollRetrain := (s.leg n).rollRetrain || decide ((s.leg n).retrain = 65535)
        conds := ((s.retrained n).leg n).conds } := by
  have h := (State.endIf_condsMove ((s.countRetrain n).modLeg n fun l => { l with retry := 0 }) (some n) .retryOut
    ((s.leg n).state = .failed)).legs n
  refine h.trans ?_
  rw [State.leg_modLeg_same, State.countRetrain, State.leg_of_deriveAttention, State.leg_modLeg_same]
  rfl

theorem State.retrained_moves (s : State) (n : LegId) : s.ReportMoves (s.retrained n) :=
  State.ReportMoves.trans (t := (s.countRetrain n).modLeg n fun l => { l with retry := 0 }) rfl
    (State.endIf_condsMove _ _ _ _).moves

/-- A retrain reports the end of the condition of RETRY_OUT where the leg was FAILED, and nothing else before its
boundary. -/
theorem State.retrained_reports (s : State) (n : LegId) :
    s.Reports (s.retrained n) (if (s.leg n).state = .failed then [.ends (some n) .retryOut] else []) := by
  have hu := (s.countRetrain_unreported n).trans
    (State.modLeg_unreported (s.countRetrain n) n (fun l => { l with retry := 0 }) fun _ => rfl)
  have h := State.ReportsBeside.unreported (State.Reports.refl s) hu
  exact h.endIf (ownsCode_some n (by simp) (by simp)) ((s.leg n).state = .failed)

theorem State.retrained_marginLow (s : State) (n : LegId) :
    (s.retrained n).condition (some n) .marginLow = s.condition (some n) .marginLow := by
  rw [(s.retrained_reports n).condition (some n) .marginLow]
  split
  · simp [conditionAfter]
  · rfl

/-- What a boundary reports and brings about speaks of the state before it by slices, paths, pending copies and a few fields
of the leg's record, all of which a retrain has left as they were. -/
theorem State.retrained_reads (s : State) (n : LegId) :
    (s.retrained n).slices = s.slices ∧ (s.retrained n).tx = s.tx ∧ (s.retrained n).pendingLegs = s.pendingLegs
      ∧ (s.retrained n).agent = s.agent := by
  have h := s.retrained_moves n
  unfold State.ReportMoves at h
  rw [h]
  exact ⟨rfl, rfl, rfl, rfl⟩

theorem State.retrained_boundaryActs (s t : State) (n : LegId) (cause : LegCause) :
    (s.retrained n).boundaryActs t n cause = s.boundaryActs t n cause := by
  obtain ⟨_, _, hp, _⟩ := s.retrained_reads n
  have hl := s.retrained_leg n
  have hstate : ((s.retrained n).leg n).state = (s.leg n).state := by rw [hl]
  have hsource : ((s.retrained n).leg n).source = (s.leg n).source := by rw [hl]
  unfold State.boundaryActs State.takeActs
  simp only [hp, hstate, hsource, State.marginActs_congr t (s.retrained_marginLow n)]

theorem State.retrained_groupHolds (s : State) {n : LegId} (h : s.GroupHolds n) : (s.retrained n).GroupHolds n := by
  obtain ⟨hs, _⟩ := s.retrained_reads n
  obtain ⟨hok, hin⟩ := h
  have hl := s.retrained_leg n
  refine ⟨by rw [hl]; exact hok, fun j hj => ?_⟩
  unfold State.inGroup
  rw [hl]
  exact hin j ((State.owner_congr hs j).symm.trans hj)

/-- A boundary after a retrain's preparation is one of the state before. -/
theorem State.Boundary.of_retrained {s t : State} {n : LegId} (h : (s.retrained n).Boundary t n) : s.Boundary t n := by
  obtain ⟨hs, htx, hp, _⟩ := s.retrained_reads n
  have hl := s.retrained_leg n
  have hwidth : ((s.retrained n).leg n).width = (s.leg n).width := by rw [hl]
  have hfirst : ((s.retrained n).leg n).first = (s.leg n).first := by rw [hl]
  have hprofile : ((s.retrained n).leg n).profile = (s.leg n).profile := by rw [hl]
  have hsource : ((s.retrained n).leg n).source = (s.leg n).source := by rw [hl]
  have hclamped : ((s.retrained n).leg n).clamped = (s.leg n).clamped := by rw [hl]
  simpa only [State.Boundary, State.BanksKept, State.owner_congr hs, htx, hp, hwidth, hfirst, hprofile, hsource, hclamped]
    using h

/-- What a retrain reports (R100, R108, R113). -/
theorem State.retrainLeg_reports (s : State) {n : LegId} (h : (s.leg n).state ≠ .parked) :
    s.Reports (s.retrainLeg n) ((if (s.leg n).state = .failed then [.ends (some n) .retryOut] else [])
      ++ s.boundaryActs (s.retrainLeg n) n .retrain) := by
  rw [s.retrainLeg_eq h, ← s.retrained_boundaryActs _ n .retrain]
  exact (s.retrained_reports n).boundary n .retrain (s.retrained_marginLow n)

/-- A retrain of a FAILED leg leaves RETRY_OUT ended (R108). -/
theorem State.retrainLeg_retryOut (s : State) {n : LegId} (h : (s.leg n).state = .failed) :
    (s.retrainLeg n).condition (some n) .retryOut = false := by
  have hr := (s.retrainLeg_reports (n := n) (by simp [h])).condition (some n) .retryOut
  rw [hr, if_pos h, State.boundaryActs, List.foldl_append, List.foldl_append, List.foldl_append,
    State.marginActs_conditionAfter _ _ n (by simp), State.takeActs_conditionAfter _ n (by simp)]
  simp [conditionAfter]

/-- A retrain's counters: the retrain count risen, the retry count 0, the others as they were (R108). -/
theorem State.retrainLeg_counters (s : State) {n : LegId} (h : (s.leg n).state ≠ .parked) :
    ((s.retrainLeg n).leg n).retry = 0 ∧ ((s.retrainLeg n).leg n).retrain = (s.leg n).retrain + 1
      ∧ ((s.retrainLeg n).leg n).rollRetrain = ((s.leg n).rollRetrain || decide ((s.leg n).retrain = 65535))
      ∧ ((s.retrainLeg n).leg n).glitch = (s.leg n).glitch ∧ ((s.retrainLeg n).leg n).lost = (s.leg n).lost
      ∧ ((s.retrainLeg n).leg n).gap = (s.leg n).gap
      ∧ ((s.retrainLeg n).leg n).lastFailure = (s.leg n).lastFailure := by
  have hl := s.retrained_leg n
  have hz := (s.retrained n).boundary_retryTaken n .retrain
  have hk := (s.retrained n).boundary_keeps n .retrain
  rw [show ((s.retrained n).leg n).retry = 0 by rw [hl]] at hz
  rw [s.retrainLeg_eq h]
  refine ⟨hz.zero, ?_⟩
  rw [hk, hl]
  exact ⟨rfl, rfl, rfl, rfl, rfl, rfl⟩

/-- Settles O40: retrain and unpark are a boundary each, of the state that the command has prepared. -/
theorem retrainAndUnpark : Obligations.RetrainAndUnpark := by
  intro s n hplan hw he
  have hg := hplan.groupHolds n
  rw [exec_retrain s hw he, exec_unpark s hw he]
  refine ⟨fun hs => ⟨_, rfl, ?_⟩, fun hs => ⟨_, rfl, ?_⟩, fun hs => ?_, fun hs => ?_⟩
  · obtain ⟨hretry, hcount, hroll, hglitch, hlost, hgap, hfailure⟩ := s.retrainLeg_counters hs
    refine ⟨?_, hretry, hcount, hroll, hglitch, hlost, hgap, hfailure, s.retrainLeg_retryOut, ?_,
      s.retrainLeg_reports hs⟩
    · rw [s.retrainLeg_eq hs]
      exact ((s.retrained n).boundary_spec n .retrain (s.retrained_groupHolds hg)).of_retrained
    · obtain ⟨_, _, _, ha⟩ := s.retrained_reads n
      rw [s.retrainLeg_eq hs, State.boundary_agent, ha]
  · have hretry := s.boundary_retryTaken n .unpark
    rw [show s.unparkLeg n = s.boundary n .unpark from if_pos hs]
    refine ⟨s.boundary_spec n .unpark hg, hretry, fun hz => ?_, ?_, (State.Reports.refl s).boundary n .unpark rfl⟩
    · rw [hz] at hretry
      exact hretry.zero
    · rw [s.boundary_keeps n .unpark]
      rfl
  · exact congrArg Host.Outcome.next (if_pos hs)
  · exact congrArg Host.Outcome.next (if_neg hs)

/-! ### Park (R109) -/

/-- The leg record at a park, its conditions apart (R109). -/
def Leg.parked (l : Leg) : Leg := { l.standDown with state := .parked, retry := 0 }

/-- The state in which a park has done everything but report: lanes quiet, the record stood down (R109). -/
def State.quietParked (s : State) (n : LegId) : State := ((s.quietLeg n).modLeg n Leg.parked).deriveOrders n

/-- The conditions that a park ends, in the order of the rule (R109 step 4). -/
def State.parkEnds (s : State) (n : LegId) : List ReportAct :=
  attemptEnds n ++ if (s.leg n).state = .failed then [.ends (some n) .retryOut] else []

theorem State.parkActs_eq (s t : State) (n : LegId) (cause : LegCause) :
    s.parkActs t n cause =
      s.parkEnds n ++ [.queues (some n) (.legState (s.leg n).state .parked cause)] ++ s.marginActs t n := rfl

theorem State.parkEnds_conditionAfter (s : State) (n : LegId) (code : FaultCode) (b : Bool) :
    (s.parkEnds n).foldl (conditionAfter (some n) code) b =
      if code = .trainTimeout ∨ code = .sideFail ∨ code = .legCut ∨ code = .retryOut ∧ (s.leg n).state = .failed then false
      else b := by
  unfold State.parkEnds
  rw [List.foldl_append]
  by_cases hf : (s.leg n).state = .failed <;> cases code <;> simp [hf, attemptEnds, conditionAfter]

/-- The state in which a park has ended the conditions it ends. -/
def State.parkEnded (s : State) (n : LegId) : State :=
  if (s.leg n).state = .failed then ((s.quietParked n).endAttemptConditions n).endCondition (some n) .retryOut
  else (s.quietParked n).endAttemptConditions n

theorem State.parkLeg_eq (s : State) {n : LegId} (cause : LegCause) (h : (s.leg n).state ≠ .parked) :
    s.parkLeg n cause = ((s.parkEnded n).queueLegState n (s.leg n).state .parked cause).marginCheck n := if_neg h

theorem State.quietParked_leg (s : State) (n : LegId) :
    (s.quietParked n).leg n = (s.leg n).parked := by
  rw [State.quietParked, State.leg_congr (State.deriveOrders_legs _ n), State.leg_modLeg_same,
    (s.serviceMoves_quietLeg n).legs n]
  rfl

theorem State.quietParked_lanesMove (s : State) (n : LegId) : s.LanesMove (s.quietParked n) :=
  ((s.quietLeg_moves n).trans (State.modLeg_moves _ n _)).trans (State.deriveOrders_moves _ n)

theorem State.quietParked_unreported (s : State) (n : LegId) : s.Unreported (s.quietParked n) :=
  ((s.serviceMoves_quietLeg n).unreported.trans (State.modLeg_unreported _ n Leg.parked fun _ => rfl)).trans
    (State.serviceMoves_deriveOrders _ n).unreported

theorem State.parkLeg_condsMove (s : State) {n : LegId} (cause : LegCause) (h : (s.leg n).state ≠ .parked) :
    (s.quietParked n).CondsMove (s.parkLeg n cause) := by
  rw [s.parkLeg_eq cause h]
  exact (((State.endAttemptConditions_condsMove _ n).trans (State.endIf_condsMove _ _ _ _)).trans
    (State.queueEvent_condsMove _ _ _)).trans (State.marginCheck_condsMove _ n)

/-- A park reports the ends of the conditions it ends, in their order. -/
theorem State.parkEnded_reports (s : State) (n : LegId) :
    s.Reports (s.parkEnded n) (s.parkEnds n) :=
  ((State.ReportsBeside.unreported (State.Reports.refl s) (s.quietParked_unreported n)).endAttemptConditions n).endIf
    (ownsCode_some n (by simp) (by simp)) ((s.leg n).state = .failed)

theorem State.parkEnded_marginLow (s : State) (n : LegId) :
    (s.parkEnded n).condition (some n) .marginLow = s.condition (some n) .marginLow := by
  rw [(s.parkEnded_reports n).condition (some n) .marginLow, State.parkEnds_conditionAfter]
  simp

/-- What a park reports (R109, R113, R135). -/
theorem State.parkLeg_reports (s : State) {n : LegId} (cause : LegCause) (h : (s.leg n).state ≠ .parked) :
    s.Reports (s.parkLeg n cause) (s.parkActs (s.parkLeg n cause) n cause) := by
  rw [State.parkActs_eq, s.parkLeg_eq cause h, State.marginActs_marginCheck]
  exact ((s.parkEnded_reports n).queueLegState n (s.leg n).state .parked cause).marginCheck n (s.parkEnded_marginLow n)

/-- A park leaves of each condition but the margin's what its ends leave. -/
theorem State.parkLeg_condition (s : State) {n : LegId} (cause : LegCause) (h : (s.leg n).state ≠ .parked)
    {code : FaultCode} (hc : code ≠ .marginLow) :
    (s.parkLeg n cause).condition (some n) code =
      if code = .trainTimeout ∨ code = .sideFail ∨ code = .legCut ∨ code = .retryOut ∧ (s.leg n).state = .failed then false
      else s.condition (some n) code := by
  rw [(s.parkLeg_reports cause h).condition (some n) code, State.parkActs_eq, List.foldl_append, List.foldl_append,
    State.marginActs_conditionAfter _ _ n hc, State.parkEnds_conditionAfter]
  rfl

theorem State.parkLeg_leg (s : State) {n : LegId} (cause : LegCause) (h : (s.leg n).state ≠ .parked) :
    (s.parkLeg n cause).leg n =
      { (s.leg n).standDown with state := .parked, retry := 0, conds := ((s.parkLeg n cause).leg n).conds } := by
  rw [(s.parkLeg_condsMove cause h).legs n, s.quietParked_leg n]
  rfl

/-- A park ends the conditions of the leg's attempts, and that of RETRY_OUT where the leg was FAILED; PROFILE_BAD stands. -/
theorem State.parkLeg_conds (s : State) {n : LegId} (cause : LegCause) (h : (s.leg n).state ≠ .parked) :
    ((s.parkLeg n cause).leg n).conds.trainTimeout = false ∧ ((s.parkLeg n cause).leg n).conds.sideFail = false
      ∧ ((s.parkLeg n cause).leg n).conds.legCut = false
      ∧ ((s.parkLeg n cause).leg n).conds.profileBad = (s.leg n).conds.profileBad
      ∧ ((s.parkLeg n cause).leg n).conds.retryOut =
        ((s.leg n).conds.retryOut && decide ((s.leg n).state ≠ .failed)) := by
  have hcond {code : FaultCode} (hc : code ≠ .marginLow) := s.parkLeg_condition cause h hc
  refine ⟨(hcond (code := .trainTimeout) (by simp)).trans (if_pos (by simp)),
    (hcond (code := .sideFail) (by simp)).trans (if_pos (by simp)),
    (hcond (code := .legCut) (by simp)).trans (if_pos (by simp)),
    (hcond (code := .profileBad) (by simp)).trans (if_neg (by simp)),
    (hcond (code := .retryOut) (by simp)).trans ?_⟩
  by_cases hf : (s.leg n).state = .failed
  · simp [hf]
  · simp [hf, State.condition, LegConds.get]

/-- A park changes no field of a path but its line. -/
theorem State.quietParked_path (s : State) (n : LegId) (k : Lane) (y : Side) :
    (s.quietParked n).txAt k y = { s.txAt k y with line := ((s.quietParked n).txAt k y).line } := by
  obtain ⟨hq, _⟩ := s.quietLeg_path n k y
  have hd := State.deriveOrders_path ((s.quietLeg n).modLeg n Leg.parked) n k y
  rw [State.txAt_modLeg, hq] at hd
  exact hd

/-- A lane of a leg that is parked is QUIET and silent, with its coefficient sets and counts kept (R109). -/
theorem State.quietParked_lane (s : State) {n : LegId} {j : Lane} (h : s.owner j = some n) (y : Side) :
    (s.quietParked n).laneState j y = .quiet ∧ ((s.quietParked n).txPath j y).line = .quiet
      ∧ ((s.quietParked n).exch j y).order = .quiet
      ∧ ((s.quietParked n).txPath j y).learned = (s.txPath j y).learned
      ∧ ((s.quietParked n).txPath j y).learnedValid = (s.txPath j y).learnedValid
      ∧ ((s.quietParked n).txPath j y).inUse = (s.txPath j y).inUse
      ∧ ((s.quietParked n).exch j y).restarts = (s.exch j y).restarts
      ∧ ((s.quietParked n).exch j y).badFrames = (s.exch j y).badFrames := by
  have hpath := s.quietParked_path n (s.phys j y) y
  have hexch := State.deriveOrders_exch ((s.quietLeg n).modLeg n Leg.parked) n j y
  have hstate : (((s.quietLeg n).modLeg n Leg.parked).leg n).state = .parked := by
    rw [State.leg_modLeg_same]
    rfl
  rw [State.txPath_eq_txAt (s.quietParked_lanesMove n).slices]
  obtain ⟨hrestarts, hbad⟩ := s.quietLeg_counts n j y
  refine ⟨?_, ?_, ?_, by rw [hpath]; rfl, by rw [hpath]; rfl, by rw [hpath]; rfl, ?_, ?_⟩
  · exact (State.deriveOrders_laneState _ n j y).trans (s.quietLeg_laneState h y)
  · exact State.deriveOrders_line _ hstate (s.quietLeg_line h y)
  · exact State.deriveOrders_order ((s.quietLeg n).modLeg n Leg.parked)
      ((State.owner_congr (s.quietLeg_moves n).slices j).trans h) (by rw [hstate]; rfl) y
  · exact (congrArg Exchange.restarts hexch).trans hrestarts
  · exact (congrArg Exchange.badFrames hexch).trans hbad

/-- Settles O41: park is a quiet order to the whole leg, its record stood down, and the reports of R109. -/
theorem parkQuietsTheLeg : Obligations.ParkQuietsTheLeg := by
  intro s n hw he
  rw [exec_park s hw he]
  refine ⟨fun hs => congrArg Host.Outcome.next (if_pos hs), fun hs =>
    ⟨_, rfl, ⟨_, s.parkLeg_leg .park hs, s.parkLeg_conds .park hs⟩, ?_⟩⟩
  obtain ⟨hsl, htx, _, hex, ha, _⟩ := (s.parkLeg_condsMove .park hs).fabric
  have hm := s.quietParked_lanesMove n
  refine ⟨hsl.trans hm.slices, ha.trans ?_, s.parkLeg_reports .park hs, fun j y hj => ?_⟩
  · unfold State.LanesMove at hm
    rw [hm]
  · rw [State.laneState, State.exch_congr hex, State.txPath_congr htx hsl]
    exact s.quietParked_lane hj y

end Sys2Proof.Machine
end

section
/-! SUPPORT. Every command as a run of elementary turns, said once: what an event can do to an exchange, a path, a leg record and
the report unit at a time. The laws that each turn keeps are kept by every command. -/

namespace Sys2Proof.Machine

/-! ### What an event can change at a time -/

/-- The changes of one exchange. That an answer and a request are in range is known where `R` holds: it follows from the laws of
the state in which the event begins. -/
inductive ExchMove (R : Prop) (e : Exchange) : Exchange → Prop
  | listens (warm : Bool) : ExchMove R e (e.listenAfresh warm)
  | quiets : ExchMove R e e.quieted
  | orders (order : ServiceOrder) : ExchMove R e { e with order }
  | restarts (k : Nat) (h : k ≤ 3) : ExchMove R e { e with restarts := k }
  | watches (w : Nat) (h : e.lane = .tune ∨ e.lane = .ready) : ExchMove R e { e with watch := some w }
  | tunes (w : Nat) (h : e.lane = .listen) : ExchMove R e { e with lane := .tune, watch := some w }
  | readies (h : e.lane = .tune) (k : e.req.mode = .content) : ExchMove R e { e with lane := .ready }
  | opensCount (h : e.lane = .ready) :
      ExchMove R e { e with lane := .count, watch := none, zeroSeen := e.partnerCount == 0, countEnded := false }
  | returns (cause : ReturnCause) (watch : Option Nat)
      (h : e.lane = .ready ∧ watch = e.watch ∨ (e.lane = .count ∨ e.lane = .data) ∧ watch.isSome = true) :
      ExchMove R e { e with lane := .tune, ownCount := 15, zeroSeen := false, countEnded := false
                            returnCause := some cause, watch }
  | entersData (h : e.lane = .count) (k : e.countEnded = true) (l : e.zeroSeen = true) : ExchMove R e { e with lane := .data }
  | hears (v : Verdict) (c : BitVec 4) : ExchMove R e { e with partnerVerdict := v, partnerCount := c }
  | seesZero (b : Bool) (h : e.lane = .count) : ExchMove R e { e with zeroSeen := b }
  | endsCount (h : e.lane = .count) (k : e.ownCount = 0) : ExchMove R e { e with countEnded := true }
  | badFrame : ExchMove R e { e with badFrames := min 255 (e.badFrames + 1) }
  | gives (a : Answer) (warm : Bool) (h : R → -3 ≤ a.applied ∧ a.applied ≤ 3) : ExchMove R e { e.give a with warm }
  | requests (tap : Tap) (delta : Int) (h : e.lane = .tune ∨ e.lane = .ready) (k : e.req.phase = .idle)
      (l : e.req.mode = .seeking) (m : R → Request.Ok { tap, delta, seq := e.req.nextSeq }) :
      ExchMove R e { e with req := e.req.make tap delta, made := e.made + 1 }
  | contents (h : e.req.phase = .idle) : ExchMove R e { e with req := { e.req with mode := .content } }
  | discontents (h : e.lane = .tune ∨ e.lane = .ready) (k : e.req.phase = .idle) : ExchMove R e e.discontent
  | unmarks : ExchMove R e { e with req := { e.req with stale := false } }
  | reads (f : TuneFields) : ExchMove R e { e with req := e.req.readAnswer f }
  | frameStarts (now : Nat) : ExchMove R e { e with req := e.req.frameStarts now }
  | countsOn (h : e.lane = .count) (k : e.countEnded = false) : ExchMove R e { e with ownCount := nextCount e.ownCount }

/-- The changes of one eye monitor. -/
inductive EyeMove (m : EyeMonitor) : EyeMonitor → Prop
  | same : EyeMove m m
  | leaves : EyeMove m m.leave
  | primes : EyeMove m { m with phase := .priming, valid := false, run := 0 }
  | takes (level eye : Nat) (h : eye ≤ 127) : EyeMove m (m.take level eye)
  | zeroed : EyeMove m .initial

/-- The lane belongs to the leg that the command concerns, where it concerns one. -/
def State.InScope (s : State) (c : Option LegId) (i : Lane) : Prop := ∀ n ∈ c, s.owner i = some n

/-- The command concerns this leg or no single one. -/
def Covers (c : Option LegId) (n : LegId) : Prop := ∀ m ∈ c, m = n

/-- A leg record with the conditions and rollover flags of another. -/
def Leg.SameFlags (l k : Leg) : Prop :=
  l.conds = k.conds ∧ l.rollGlitch = k.rollGlitch ∧ l.rollLost = k.rollLost ∧ l.rollRetrain = k.rollRetrain

/-- Neither lanes nor legs nor waiting commands differ, nor the report unit, its clock and view apart. -/
structure State.Apart (s t : State) : Prop where
  tx : t.tx = s.tx
  rx : t.rx = s.rx
  ex : t.ex = s.ex
  legs : t.legs = s.legs
  report : t.report = { s.report with
    headClock := t.report.headClock, viewPinned := t.report.viewPinned, viewLeg := t.report.viewLeg }
  pending : t.pending = s.pending

/-- One elementary turn of a command that concerns the leg `c`, or, without one, any of them. -/
inductive State.Turn (R G : Prop) (c : Option LegId) (s : State) : State → Prop
  | exch (i : Lane) (x : Side) (e : Exchange) (hi : s.InScope c i) (h : ExchMove R (s.exch i x) e) :
      State.Turn R G c s (s.setExch i x e)
  | tx (i : Lane) (x : Side) (p : TxPath) (hi : s.InScope c i)
      (h : p.line = (s.txPath i x).line ∨ p.line.wordOk = true) : State.Turn R G c s (s.setTxAt (s.phys i x) x p)
  | tuning (i : Lane) (x : Side) (released : Bool) (hi : s.InScope c i) :
      State.Turn R G c s (s.beginFrame i x (tuneWord ((s.exch i x).compose released)))
  | rx (i : Lane) (x : Side) (r : RxPath) (hi : s.InScope c i) (h : EyeMove (s.rxPath i x).eye r.eye) :
      State.Turn R G c s (s.setRxAt (s.phys i x) x r)
  | leg (n : LegId) (l : Leg) (hn : Covers c n) (h : l.SameFlags (s.leg n)) : State.Turn R G c s (s.setLeg n l)
  | counts (n : LegId) (l : Leg) (hn : Covers c n) (h : l.conds = (s.leg n).conds) :
      State.Turn R G c s (s.setLeg n l).deriveAttention
  | clears (n : LegId) (lanes : List Lane) (hn : Covers c n) (hl : ∀ i ∈ lanes, s.InScope c i) :
      State.Turn R G c s (s.clearLeg n lanes)
  | queues (leg : Option LegId) (kind : EventKind) : State.Turn R G c s (s.queueEvent leg kind)
  | raises (owner : Option LegId) (code : FaultCode) (detail : Byte) (ho : OwnsCode owner code)
      (hn : ∀ n ∈ c, owner = some n) : State.Turn R G c s (s.raiseFault owner code detail)
  | ends (owner : Option LegId) (code : FaultCode) (ho : OwnsCode owner code) (hn : ∀ n ∈ c, owner = some n) :
      State.Turn R G c s (s.endCondition owner code)
  | notes (now freeCount : Nat) : State.Turn R G c s { s with now, freeCount }
  | asks (r : FailureRecord) :
      State.Turn R G c s { s with agent := { s.agent with records := s.agent.records ++ [r], spacing := 10000 } }
  | skips : State.Turn R G c s { s with agent := { s.agent with skipped := min 255 (s.agent.skipped + 1) } }
  | maps (i : Lane) (d : Slice) (hi : s.InScope c i) (ho : d.owner = s.owner i)
      (hp : ∀ n ∈ c, G → s.owner d.pair = some n) : State.Turn R G c s (s.setSlice i d)
  | apart (t : State) (hc : c = none) (h : s.Apart t) : State.Turn R G c s t
  | clearsAll (hc : c = none) : State.Turn R G c s s.clearAll
  | acknowledges (hc : c = none) : State.Turn R G c s s.acknowledgeShown
  | drops (k : Nat) (hc : c = none) :
      State.Turn R G c s (State.deriveAttention { s with report := { s.report with events := s.report.events.drop k } })
  | stores (faultMask : Byte) (eventMode : EventMode) (rolloverEnable overrun : Bool) (hc : c = none) :
      State.Turn R G c s
        (State.deriveAttention { s with report := { s.report with faultMask, eventMode, rolloverEnable, overrun } })
  | resets (t : State) (hc : c = none) (hr : t.report = .initial) (htx : t.tx = State.reset.tx) (hrx : t.rx = State.reset.rx)
      (hex : t.ex = State.reset.ex) (hlegs : t.legs = State.reset.legs) (hp : t.pending = s.pending) : State.Turn R G c s t

/-- A run of elementary turns. -/
abbrev State.Turns (R G : Prop) (c : Option LegId) : State → State → Prop := Relation.ReflTransGen (State.Turn R G c)

variable {R G : Prop} {c : Option LegId}

theorem State.Turns.refl (s : State) : State.Turns R G c s s := Relation.ReflTransGen.refl

theorem State.Turns.trans {s t u : State} (h : State.Turns R G c s t) (k : State.Turns R G c t u) : State.Turns R G c s u :=
  Relation.ReflTransGen.trans h k

/-- A run that ends with the turns named first: the shape in which the operations are written. -/
theorem State.Turns.after {s t u : State} (k : State.Turns R G c t u) (h : State.Turns R G c s t) : State.Turns R G c s u := h.trans k

theorem State.Turn.run {s t : State} (h : State.Turn R G c s t) : State.Turns R G c s t := .single h

/-- What every turn keeps, a run keeps. -/
theorem State.Turns.keeps {P : State → Prop} {s t : State} (h : State.Turns R G c s t)
    (hP : ∀ u v, P u → State.Turn R G c u v → P v) (hs : P s) : P t := by
  induction h with
  | refl => exact hs
  | tail _ hv ih => exact hP _ _ ih hv

/-! ### The scope -/

theorem covers_self (n : LegId) : Covers (some n) n := fun _ h => (Option.mem_some_iff.1 h).symm

theorem covers_none (n : LegId) : Covers none n := fun _ h => nomatch h

theorem Covers.owner {n : LegId} (h : Covers c n) : ∀ m ∈ c, some n = some m := fun m hm => congrArg some (h m hm).symm

theorem State.inScope_of_owner {s : State} {i : Lane} {n : LegId} (hc : Covers c n) (h : s.owner i = some n) :
    s.InScope c i := fun m hm => h.trans (hc.owner m hm)

theorem State.inScope_none (s : State) (i : Lane) : s.InScope none i := fun _ h => nomatch h

theorem State.InScope.congr {s t : State} {i : Lane} (h : s.InScope c i) (ho : t.owner i = s.owner i) : t.InScope c i :=
  fun n hn => ho.trans (h n hn)

theorem State.InScope.slices {s t : State} {i : Lane} (h : s.InScope c i) (hs : t.slices = s.slices) : t.InScope c i :=
  h.congr (State.owner_congr hs i)

/-! ### Turns by name -/

theorem State.modExch_turns (s : State) {i : Lane} {x : Side} {f : Exchange → Exchange} (hi : s.InScope c i)
    (h : ExchMove R (s.exch i x) (f (s.exch i x))) : State.Turns R G c s (s.modExch i x f) := (State.Turn.exch i x _ hi h).run

theorem State.modTx_turns (s : State) {i : Lane} {x : Side} {f : TxPath → TxPath} (hi : s.InScope c i)
    (h : ∀ p : TxPath, (f p).line = p.line ∨ (f p).line.wordOk = true) : State.Turns R G c s (s.modTx i x f) :=
  (State.Turn.tx i x _ hi (h _)).run

theorem State.modRx_turns (s : State) {i : Lane} {x : Side} {f : RxPath → RxPath} (hi : s.InScope c i)
    (h : ∀ r : RxPath, EyeMove r.eye (f r).eye) : State.Turns R G c s (s.modRx i x f) := (State.Turn.rx i x _ hi (h _)).run

theorem State.modLeg_turns (s : State) {n : LegId} {f : Leg → Leg} (hn : Covers c n) (h : ∀ l : Leg, (f l).SameFlags l) :
    State.Turns R G c s (s.modLeg n f) := (State.Turn.leg n _ hn (h _)).run

theorem State.Apart.run {s t : State} (h : s.Apart t) : State.Turns R G none s t := (State.Turn.apart t rfl h).run

theorem State.Apart.of_bridge {s t : State} (h : s.BridgeMoves t) : s.Apart t := by
  unfold State.BridgeMoves at h
  rw [h]
  exact ⟨rfl, rfl, rfl, rfl, rfl, rfl⟩

theorem State.BridgeMoves.run {s t : State} (h : s.BridgeMoves t) : State.Turns R G none s t := (State.Apart.of_bridge h).run

theorem State.onLanes_turns (s : State) (lanes : List Lane) (f : Lane → State → State)
    (hf : ∀ i ∈ lanes, ∀ t : State, t.slices = s.slices → State.Turns R G c t (f i t))
    (hs : ∀ (i : Lane) (t : State), t.slices = s.slices → (f i t).slices = s.slices) :
    State.Turns R G c s (s.onLanes lanes f) := by
  have run : ∀ rest : List Lane, rest ⊆ lanes → ∀ t : State, t.slices = s.slices →
      State.Turns R G c t (t.onLanes rest f) := by
    intro rest
    induction rest with
    | nil => exact fun _ t _ => .refl t
    | cons i rest ih =>
      intro hsub t ht
      exact (hf i (hsub List.mem_cons_self) t ht).trans (ih (fun k hk => hsub (List.mem_cons_of_mem i hk)) _ (hs i t ht))
  exact run lanes (fun _ h => h) s rfl

/-- A loop over exchanges whose turns leave the slices. -/
theorem State.onExchanges_turns (s : State) (lanes : List Lane) (f : Lane → Side → State → State)
    (hl : ∀ i ∈ lanes, s.InScope c i)
    (hf : ∀ (i : Lane) (x : Side) (t : State), t.InScope c i → State.Turns R G c t (f i x t))
    (hs : ∀ (i : Lane) (x : Side) (t : State), (f i x t).slices = t.slices) :
    State.Turns R G c s (s.onExchanges lanes f) :=
  s.onLanes_turns lanes _ (fun i hi t ht =>
    (hf i .s t ((hl i hi).slices ht)).trans (hf i .c _ ((hl i hi).slices ((hs i .s t).trans ht))))
    fun i t ht => (hs i .c _).trans ((hs i .s t).trans ht)

theorem State.legLanes_inScope (s : State) {n : LegId} (hc : Covers c n) : ∀ i ∈ s.legLanes n, s.InScope c i :=
  fun i hi => State.inScope_of_owner hc ((s.mem_legLanes n i).1 hi)

/-- A loop over the exchanges of a leg. -/
theorem State.onLeg_turns (s : State) {n : LegId} (hc : Covers c n) (f : Lane → Side → State → State)
    (hf : ∀ (i : Lane) (x : Side) (t : State), t.InScope c i → State.Turns R G c t (f i x t))
    (hs : ∀ (i : Lane) (x : Side) (t : State), (f i x t).slices = t.slices) :
    State.Turns R G c s (s.onExchanges (s.legLanes n) f) := s.onExchanges_turns _ f (s.legLanes_inScope hc) hf hs

theorem State.onLegs_turns (f : State → LegId → State) (hf : ∀ (t : State) (n : LegId), State.Turns R G c t (f t n))
    (legs : List LegId) (s : State) : State.Turns R G c s (legs.foldl f s) := by
  induction legs generalizing s with
  | nil => exact .refl s
  | cons n rest ih => exact (hf s n).trans (ih _)

/-! ### The report unit -/

theorem State.raise_turns (s : State) {n : LegId} (hc : Covers c n) (code : FaultCode) (detail : Byte)
    (h : code ≠ .planBad) (k : code ≠ .memoryFault) : State.Turns R G c s (s.raiseFault (some n) code detail) :=
  (State.Turn.raises _ _ _ (ownsCode_some n h k) hc.owner).run

theorem State.end_turns (s : State) {n : LegId} (hc : Covers c n) (code : FaultCode) (h : code ≠ .planBad)
    (k : code ≠ .memoryFault) : State.Turns R G c s (s.endCondition (some n) code) :=
  (State.Turn.ends _ _ (ownsCode_some n h k) hc.owner).run

theorem State.queueEvent_turns (s : State) (leg : Option LegId) (kind : EventKind) :
    State.Turns R G c s (s.queueEvent leg kind) := (State.Turn.queues leg kind).run

theorem State.marginCheck_turns (s : State) {n : LegId} (hc : Covers c n) : State.Turns R G c s (s.marginCheck n) := by
  unfold State.marginCheck
  split
  · split
    · exact .refl s
    · exact s.raise_turns hc _ _ (by simp) (by simp)
  · exact s.end_turns hc _ (by simp) (by simp)

theorem State.endAttemptConditions_turns (s : State) {n : LegId} (hc : Covers c n) :
    State.Turns R G c s (s.endAttemptConditions n) :=
  ((s.end_turns hc _ (by simp) (by simp)).trans (State.end_turns _ hc _ (by simp) (by simp))).trans
    (State.end_turns _ hc _ (by simp) (by simp))

theorem State.reportTake_turns (s : State) {n : LegId} (hc : Covers c n) (result : TakeResult) :
    State.Turns R G c s (s.reportTake n result) := by
  cases result with
  | skipped => exact s.end_turns hc _ (by simp) (by simp)
  | refused => exact (s.queueEvent_turns _ _).trans (State.raise_turns _ hc _ _ (by simp) (by simp))
  | taken => exact (s.queueEvent_turns _ _).trans (State.end_turns _ hc _ (by simp) (by simp))

theorem State.countTurns (s : State) {n : LegId} (hc : Covers c n) (f : Leg → Leg) (h : ∀ l, (f l).conds = l.conds) :
    State.Turns R G c s (s.modLeg n f).deriveAttention := (State.Turn.counts n _ hc (h _)).run

/-! ### Lanes -/

theorem LineOut.stopService_move (p : TxPath) :
    p.line.stopService = p.line ∨ p.line.stopService.wordOk = true := by
  cases p.line with
  | data => exact .inr rfl
  | quiet => exact .inl rfl
  | gap => exact .inl rfl
  | frame w => exact .inl rfl

theorem LineOut.obey_move (l : LineOut) (order : ServiceOrder) : l.obey order = l ∨ (l.obey order).wordOk = true := by
  cases order <;> cases l <;> simp [LineOut.obey, LineOut.wordOk]

theorem State.clearRelease_turns (s : State) {i : Lane} {x : Side} (hi : s.InScope c i) :
    State.Turns R G c s (s.clearRelease i x) := by
  unfold State.clearRelease
  split
  · next n hn => exact s.modLeg_turns (fun m hm => Option.some.inj ((hi m hm).symm.trans hn)) fun _ => ⟨rfl, rfl, rfl, rfl⟩
  · exact .refl s

theorem State.clearKept_turns (s : State) {i : Lane} {x : Side} (hi : s.InScope c i) :
    State.Turns R G c s (s.clearKept i x) := by
  unfold State.clearKept
  split
  · next n hn => exact s.modLeg_turns (fun m hm => Option.some.inj ((hi m hm).symm.trans hn)) fun _ => ⟨rfl, rfl, rfl, rfl⟩
  · exact .refl s

theorem State.leaveService_turns (s : State) {i : Lane} {x : Side} (hi : s.InScope c i) :
    State.Turns R G c s (s.leaveService i x) := by
  have ht : State.Turns R G c s (s.modTx i x fun p => { p with line := p.line.stopService }) :=
    s.modTx_turns hi LineOut.stopService_move
  unfold State.leaveService
  dsimp only
  split
  · exact (ht.trans (State.modRx_turns _ hi fun _ => .leaves)).trans (State.clearKept_turns _ hi)
  · exact ht

/-- A lane that leaves its service order with its release cleared. -/
theorem State.outOfService_turns (s : State) {i : Lane} {x : Side} (hi : s.InScope c i) :
    State.Turns R G c s (s.outOfService i x) :=
  (s.leaveService_turns hi).trans (State.clearRelease_turns _ (hi.slices (s.leaveService_moves i x).slices))

theorem State.outOfService_slices (s : State) (i : Lane) (x : Side) : (s.outOfService i x).slices = s.slices :=
  (State.clearRelease_moves _ i x).slices.trans (s.leaveService_moves i x).slices

theorem State.outOfService_exch (s : State) (i j : Lane) (x y : Side) : (s.outOfService i x).exch j y = s.exch j y :=
  State.exch_congr ((State.clearRelease_ex _ i x).trans (s.leaveService_ex i x)) j y

theorem State.enterListen_turns (s : State) {i : Lane} {x : Side} (hi : s.InScope c i) :
    State.Turns R G c s (s.enterListen i x) := by
  have ht := s.outOfService_turns (R := R) (G := G) (x := x) hi
  have hj := hi.slices (s.outOfService_slices i x)
  unfold State.enterListen
  exact .after (State.modExch_turns _ hj (.listens _)) (.after (State.modRx_turns _ hj fun _ => .same)
    (.after (State.modTx_turns _ hj fun p => .inl rfl) ht))

theorem State.enterQuiet_turns (s : State) {i : Lane} {x : Side} (hi : s.InScope c i) :
    State.Turns R G c s (s.enterQuiet i x) := by
  have ht := s.outOfService_turns (R := R) (G := G) (x := x) hi
  have hj := hi.slices (s.outOfService_slices i x)
  unfold State.enterQuiet
  exact .after (State.modExch_turns _ hj .quiets) (.after (State.modTx_turns _ hj fun p => .inr rfl) ht)

theorem State.modExch_modExch (s : State) (i : Lane) (x : Side) (f g : Exchange → Exchange) :
    (s.modExch i x f).modExch i x g = s.modExch i x fun e => g (f e) := by
  have h : (s.modExch i x f).exch i x = f (s.exch i x) := s.exch_modExch_same i x f
  show (s.modExch i x f).setExch i x (g ((s.modExch i x f).exch i x)) = _
  rw [h]
  cases x <;> simp [State.modExch, State.setExch, Sides.set]

theorem State.enterTune_turns (s : State) {i : Lane} {x : Side} (hi : s.InScope c i) (h : s.laneState i x = .listen) :
    State.Turns R G c s (s.enterTune i x) := by
  unfold State.enterTune State.startWatch
  rw [State.modExch_modExch]
  exact s.modExch_turns hi (.tunes _ h)

theorem State.returnToTune_turns (s : State) {i : Lane} {x : Side} (cause : ReturnCause) (hi : s.InScope c i)
    (h : s.laneState i x = .ready ∨ s.laneState i x = .count ∨ s.laneState i x = .data) :
    State.Turns R G c s (s.returnToTune i x cause) := by
  have ht := s.outOfService_turns (R := R) (G := G) (x := x) hi
  have hj := hi.slices (s.outOfService_slices i x)
  have he := s.outOfService_exch i i x x
  have hl : ((s.outOfService i x).exch i x).lane = s.laneState i x := congrArg Exchange.lane he
  show State.Turns R G c s (if s.laneState i x = .ready then _ else _)
  split
  · next hr => exact ht.trans (State.modExch_turns _ hj (.returns cause _ (.inl ⟨hl.trans hr, rfl⟩)))
  · next hr =>
    unfold State.startWatch
    rw [State.modExch_modExch]
    exact ht.trans (State.modExch_turns _ hj (.returns cause _ (.inr ⟨by rw [hl]; exact h.resolve_left hr, rfl⟩)))

theorem State.enterData_turns (s : State) {i : Lane} {x : Side} (hi : s.InScope c i) (h : s.laneState i x = .count)
    (k : (s.exch i x).countEnded = true) (l : (s.exch i x).zeroSeen = true) : State.Turns R G c s (s.enterData i x) := by
  unfold State.enterData
  exact .after (State.modExch_turns _ hi (.entersData h k l)) (.after (State.modRx_turns _ hi fun _ => .primes)
    (s.modTx_turns hi fun _ => .inl rfl))

theorem State.dataIfBoth_turns (s : State) {i : Lane} {x : Side} (hi : s.InScope c i) (h : s.laneState i x = .count) :
    State.Turns R G c s (s.dataIfBoth i x) := by
  unfold State.dataIfBoth
  split
  · next hb =>
    obtain ⟨hk, hl⟩ := Bool.and_eq_true_iff.1 hb
    exact s.enterData_turns hi h hk hl
  · exact .refl s

theorem State.deriveOrder_turns (s : State) (n : LegId) {i : Lane} {x : Side} (hi : s.InScope c i) :
    State.Turns R G c s (s.deriveOrder n i x) := by
  have ht : State.Turns R G c s (s.modExch i x fun e => { e with order := s.orderFor n i x }) := s.modExch_turns hi (.orders _)
  unfold State.deriveOrder
  dsimp only
  split
  · exact ht.trans (State.modTx_turns _ hi fun p => p.line.obey_move _)
  · exact ht

theorem State.deriveOrders_turns (s : State) {n : LegId} (hc : Covers c n) : State.Turns R G c s (s.deriveOrders n) :=
  s.onLeg_turns hc _ (fun _ _ t ht => t.deriveOrder_turns n ht) fun i x t => (t.deriveOrder_moves n i x).slices

theorem State.startLeg_turns (s : State) {n : LegId} (hc : Covers c n) : State.Turns R G c s (s.startLeg n) :=
  s.onLeg_turns hc _ (fun _ _ t ht => t.enterListen_turns ht) fun i x t => (t.enterListen_moves i x).slices

theorem State.quietLeg_turns (s : State) {n : LegId} (hc : Covers c n) : State.Turns R G c s (s.quietLeg n) :=
  s.onLeg_turns hc _ (fun _ _ t ht => t.enterQuiet_turns ht) fun i x t => (t.enterQuiet_moves i x).slices

theorem State.legLeavesService_turns (s : State) {n : LegId} (hc : Covers c n) :
    State.Turns R G c s (s.legLeavesService n) :=
  s.onLeg_turns hc _ (fun _ _ t ht => t.leaveService_turns ht) fun i x t => (t.leaveService_moves i x).slices

theorem State.zeroRestarts_turns (s : State) {n : LegId} (hc : Covers c n) : State.Turns R G c s (s.zeroRestarts n) :=
  s.onLeg_turns hc _ (fun _ _ t ht => t.modExch_turns ht (.restarts 0 (by omega))) fun _ _ _ => rfl

theorem State.startSide_turns (s : State) {n : LegId} (x : Side) (hc : Covers c n) : State.Turns R G c s (s.startSide n x) :=
  s.onLanes_turns _ _ (fun i hi t ht => t.enterListen_turns ((s.legLanes_inScope hc i hi).slices ht))
    fun i t ht => (t.enterListen_moves i x).slices.trans ht

/-! ### The supervisor -/

theorem State.releaseTest_turns (s : State) {n : LegId} (hc : Covers c n) : State.Turns R G c s (s.releaseTest n) := by
  unfold State.releaseTest
  dsimp only
  split
  · exact s.modLeg_turns hc fun _ => ⟨rfl, rfl, rfl, rfl⟩
  · exact .refl s

theorem State.enterTraining_turns (s : State) {n : LegId} (cause : LegCause) (hc : Covers c n) :
    State.Turns R G c s (s.enterTraining n cause) :=
  .after (State.queueEvent_turns _ _ _) (.after (State.zeroRestarts_turns _ hc)
    (s.modLeg_turns hc fun _ => ⟨rfl, rfl, rfl, rfl⟩))

theorem State.trainingTest_turns (s : State) {n : LegId} (hc : Covers c n) : State.Turns R G c s (s.trainingTest n) := by
  unfold State.trainingTest
  split
  · exact s.enterTraining_turns _ hc
  · exact .refl s

theorem State.enterUp_turns (s : State) {n : LegId} (hc : Covers c n) : State.Turns R G c s (s.enterUp n) :=
  .after (State.queueEvent_turns _ _ _) (.after (State.endAttemptConditions_turns _ hc)
    (s.modLeg_turns hc fun _ => ⟨rfl, rfl, rfl, rfl⟩))

theorem State.upTest_turns (s : State) {n : LegId} (hc : Covers c n) : State.Turns R G c s (s.upTest n) := by
  unfold State.upTest
  split
  · exact s.enterUp_turns hc
  · exact .refl s

theorem State.laneReport_turns (s : State) {n : LegId} (hc : Covers c n) : State.Turns R G c s (s.laneReport n) :=
  ((((s.trainingTest_turns hc).trans (State.releaseTest_turns _ hc)).trans (State.upTest_turns _ hc)).trans
    (State.deriveOrders_turns _ hc)).trans (State.marginCheck_turns _ hc)

theorem State.reportIfMoved_turns {s t u : State} {n : LegId} (hc : Covers c n) (i : Lane) (x : Side)
    (h : State.Turns R G c s t) : State.Turns R G c s (u.reportIfMoved t n i x) := by
  unfold State.reportIfMoved
  split
  · exact h
  · exact h.trans (t.laneReport_turns hc)

theorem State.requestRecord_turns (s : State) (n : LegId) (cause : FaultCode) (before : LegState) :
    State.Turns R G c s (s.requestRecord n cause before) := by
  unfold State.requestRecord
  split
  · exact (State.Turn.asks _).run
  · exact State.Turn.skips.run.trans (State.queueEvent_turns _ _ _)

theorem State.inEitherOrder_turns (s : State) (f g : State → State) (hf : ∀ t : State, State.Turns R G c t (f t))
    (hg : ∀ t : State, State.Turns R G c t (g t)) : State.Turns R G c s (s.inEitherOrder f g) := by
  have h : State.Turns R G c s { s with freeCount := s.freeCount + 1 } := (State.Turn.notes s.now _).run
  unfold State.inEitherOrder
  dsimp only
  split
  · exact (h.trans (hg _)).trans (hf _)
  · exact (h.trans (hf _)).trans (hg _)

theorem State.askAndReport_turns (s : State) (n : LegId) (cause : FaultCode) (before : LegState) (report : State → State)
    (hr : ∀ t : State, State.Turns R G c t (report t)) : State.Turns R G c s (s.askAndReport n cause before report) := by
  unfold State.askAndReport
  split
  · exact (s.requestRecord_turns n cause before).trans (hr _)
  · exact s.inEitherOrder_turns _ _ hr fun t => t.requestRecord_turns n cause before

theorem State.reportFailure_turns (s : State) {n : LegId} (hc : Covers c n) (before : LegState) (cause : LegCause)
    {code : FaultCode} (failure : LastFailure) (h : code ≠ .planBad) (k : code ≠ .memoryFault) :
    State.Turns R G c s (s.reportFailure n before cause code failure) := by
  unfold State.reportFailure
  dsimp only
  refine .trans ?_ (State.marginCheck_turns _ hc)
  have hq := (s.queueEvent_turns (R := R) (G := G) (c := c) (some n) (.legState before (s.leg n).state cause)).trans
    (State.raise_turns _ hc code (if code = .sideFail then failure.byte else 0) h k)
  split
  · exact hq.trans (State.raise_turns _ hc _ _ (by simp) (by simp))
  · exact hq

theorem Leg.afterFailure_sameFlags (l : Leg) (failure : LastFailure) (now : Nat) :
    (l.afterFailure failure now).SameFlags l := by
  unfold Leg.afterFailure
  dsimp only
  split <;> exact ⟨rfl, rfl, rfl, rfl⟩

theorem State.failAttempt_turns (s : State) {n : LegId} (hc : Covers c n) (cause : LegCause) {code : FaultCode}
    (failure : LastFailure) (h : code ≠ .planBad) (k : code ≠ .memoryFault) :
    State.Turns R G c s (s.failAttempt n cause code failure) := by
  unfold State.failAttempt
  dsimp only
  have ht : State.Turns R G c s (((s.quietLeg n).modLeg n fun l => l.afterFailure failure s.now).deriveOrders n) :=
    ((s.quietLeg_turns hc).trans (State.modLeg_turns _ hc fun l => l.afterFailure_sameFlags _ _)).trans
      (State.deriveOrders_turns _ hc)
  have hr : ∀ t : State, State.Turns R G c t (t.reportFailure n (s.leg n).state cause code failure) :=
    fun t => t.reportFailure_turns hc _ _ _ h k
  split
  · exact ht.trans (State.askAndReport_turns _ n _ _ _ hr)
  · split
    · exact ht.trans (State.askAndReport_turns _ n _ _ _ hr)
    · exact ht.trans (hr _)

theorem State.laneFailure_turns (s : State) {n : LegId} (hc : Covers c n) {i : Lane} (x : Side) (reason : LaneFailReason)
    (hi : s.InScope c i) : State.Turns R G c s (s.laneFailure n i x reason) := by
  unfold State.laneFailure
  split
  · exact s.failAttempt_turns hc _ _ (by simp) (by simp)
  · exact s.enterListen_turns hi

/-! ### Episodes (R116 to R125) and partner reverts (R92) -/

theorem State.enterHeld_turns (s : State) {n : LegId} (hc : Covers c n) : State.Turns R G c s (s.enterHeld n) :=
  .after (State.queueEvent_turns _ _ _) (.after (State.deriveOrders_turns _ hc)
    (s.modLeg_turns hc fun _ => ⟨rfl, rfl, rfl, rfl⟩))

theorem State.endGlitch_turns (s : State) {n : LegId} (hc : Covers c n) : State.Turns R G c s (s.endGlitch n) :=
  .after (State.queueEvent_turns _ _ _) (.after (State.deriveOrders_turns _ hc) (.after (State.countTurns _ hc _ fun _ => rfl)
    (s.modLeg_turns hc fun _ => ⟨rfl, rfl, rfl, rfl⟩)))

theorem State.enterLost_turns (s : State) {n : LegId} (hc : Covers c n) : State.Turns R G c s (s.enterLost n) := by
  unfold State.enterLost
  dsimp only
  have hsides (b : Bool) (x : Side) (t : State) : State.Turns R G c t (if b = true then t else t.startSide n x) := by
    split
    · exact .refl t
    · exact t.startSide_turns x hc
  refine .after (State.marginCheck_turns _ hc) (.after (State.queueEvent_turns _ _ _)
    (.after (State.deriveOrders_turns _ hc) (.after (State.releaseTest_turns _ hc) (.after (hsides _ _ _)
    (.after (hsides _ _ _) (.after (State.countTurns _ hc _ fun _ => ?_) (s.modLeg_turns hc fun _ => ?_)))))))
  · rfl
  · exact ⟨rfl, rfl, rfl, rfl⟩

theorem State.revertLeg_turns (s : State) {n : LegId} (x : Side) (hc : Covers c n) : State.Turns R G c s (s.revertLeg n x) := by
  unfold State.revertLeg
  split
  · exact s.enterTraining_turns _ hc
  · refine .after (State.onLeg_turns _ hc _ (fun i y u hu => ?_) fun i y u => ?_)
      (.after (State.enterTraining_turns _ _ hc) (s.modLeg_turns hc fun _ => ⟨rfl, rfl, rfl, rfl⟩))
    · split
      · exact u.enterListen_turns hu
      · exact .refl u
    · split
      · exact (u.enterListen_moves i y).slices
      · rfl
  · exact s.modLeg_turns hc fun _ => ⟨rfl, rfl, rfl, rfl⟩
  · exact .refl s

end Sys2Proof.Machine
end

section
/-! SUPPORT. Every command is a run of elementary turns: arrivals, records, frame intervals, boundaries, commands, the switch
transaction and the load. -/

namespace Sys2Proof.Machine

variable {R G : Prop} {c : Option LegId}

/-! ### Answers and requests in range (R22, R45, R46, R64) -/

theorem deltaOfCode_range {k : BitVec 3} {d : Int} (h : deltaOfCode k = some d) : -3 ≤ d ∧ d ≤ 3 := by
  have all : ∀ k : BitVec 3, k ≠ 4 → -3 ≤ k.toInt ∧ k.toInt ≤ 3 := by decide
  unfold deltaOfCode at h
  split at h
  · cases h
  · next hk => exact Option.some.inj h ▸ all k hk

/-- A valid TUNE word carries a delta in -3..3 (R22, R23). -/
theorem readWord_delta {w : ControlWord} {f : TuneFields} (h : readWord w = some (.tune f)) : -3 ≤ f.delta ∧ f.delta ≤ 3 := by
  unfold readWord at h
  split at h
  · split at h
    · obtain ⟨g, hg, hf⟩ := Option.map_eq_some_iff.1 h
      cases hf
      unfold readTune at hg
      split at hg
      · next _ hd _ _ => cases hg; exact deltaOfCode_range hd
      · cases hg
    · split at h
      · obtain ⟨_, _, hr⟩ := Option.map_eq_some_iff.1 h
        cases hr
      · cases h
  · cases h

/-- A feasible set satisfies the inequalities of R38. -/
theorem Coef.feasible_iff (C F : Nat) (t : Coef) : t.feasible C F = true ↔
    t.pre ≤ 15 ∧ 20 ≤ t.main ∧ t.main ≤ 60 ∧ t.post ≤ 23 ∧ t.pre + t.main + t.post ≤ C ∧ F + t.pre + t.post ≤ t.main := by
  simp [Coef.feasible, and_assoc]

/-- In a feasible set each tap lies in its feasible interval (R45). -/
theorem Coef.feasible_between {C F : Nat} {t : Coef} (h : t.feasible C F = true) (tap : Tap) :
    lowBound F t tap ≤ (t.get tap : Int) ∧ (t.get tap : Int) ≤ highBound C F t tap := by
  obtain ⟨h1, h2, h3, h4, h5, h6⟩ := (t.feasible_iff C F).1 h
  cases tap <;> simp only [lowBound, highBound, Coef.get] <;> omega

/-- A request on a feasible set is applied by no more than it asks for (R46). -/
theorem appliedDelta_range {C F : Nat} {t : Coef} {delta : Int} (h : t.feasible C F = true) (hd : -3 ≤ delta ∧ delta ≤ 3)
    (tap : Tap) : -3 ≤ appliedDelta C F t tap delta ∧ appliedDelta C F t tap delta ≤ 3 := by
  obtain ⟨hlo, hhi⟩ := Coef.feasible_between h tap
  obtain ⟨d1, d2⟩ := hd
  unfold appliedDelta newTap
  dsimp only
  split
  · omega
  · split <;> omega

/-- A residual beyond the band asks for a delta in -3..3 other than 0 (R64). -/
theorem policyDelta_range {r : Int} {band : Nat} (hb : 1 ≤ band) (h : band < r.natAbs) :
    -3 ≤ policyDelta r band ∧ policyDelta r band ≤ 3 ∧ policyDelta r band ≠ 0 := by
  have hq : 1 ≤ r.natAbs / band := (Nat.one_le_div_iff hb).2 (by omega)
  unfold policyDelta
  dsimp only
  generalize r.natAbs / band = q at hq
  split <;> omega

/-- What the policy asks for is a request of R60, where the band is one of R97's. -/
theorem policy_request_ok {p : Profile} {r : Requester} {eye : Nat} {rp rq : Int} {tap : Tap} {delta : Int} (hb : 1 ≤ p.band)
    (h : policy p r eye rp rq = .request tap delta) (seq : BitVec 3) : Request.Ok { tap, delta, seq } := by
  unfold policy at h
  dsimp only at h
  split at h
  · next hc =>
    simp only [Bool.and_eq_true, decide_eq_true_eq] at hc
    cases h
    obtain ⟨h1, h2, h3⟩ := policyDelta_range hb hc.1.2
    exact ⟨h1, h2, h3, fun k => nomatch k⟩
  · split at h
    · next hc =>
      simp only [Bool.and_eq_true, decide_eq_true_eq] at hc
      cases h
      obtain ⟨h1, h2, h3⟩ := policyDelta_range hb hc.1.2
      exact ⟨h1, h2, h3, fun k => nomatch k⟩
    · split at h
      · cases h
        exact ⟨by show (-3 : Int) ≤ 1; omega, by show (1 : Int) ≤ 3; omega, by show (1 : Int) ≠ 0; omega, fun _ => rfl⟩
      · split at h
        · cases h
        · split at h <;> cases h

/-! ### The responder -/

/-- The set in use on a lane is feasible under the profile in force there. -/
def State.InUseFits (s : State) (i : Lane) (x : Side) : Prop :=
  (s.txPath i x).inUse.feasible (s.profileAt i).ceiling (s.profileAt i).floor = true

theorem State.processTap_turns (s : State) {i : Lane} {x : Side} (tap : Tap) (delta : Int) (seq : BitVec 3)
    (hi : s.InScope c i) (hG : R → s.InUseFits i x ∧ -3 ≤ delta ∧ delta ≤ 3) :
    State.Turns R G c s (s.processTap i x tap delta seq) := by
  unfold State.processTap
  dsimp only
  exact .after (State.modExch_turns _ hi (.gives _ _ fun g => appliedDelta_range (hG g).1 (hG g).2 tap))
    (s.modTx_turns hi fun _ => .inl rfl)

theorem State.processRestart_turns (s : State) {i : Lane} {x : Side} (seq : BitVec 3) (hi : s.InScope c i) :
    State.Turns R G c s (s.processRestart i x seq) := by
  unfold State.processRestart
  exact .after (State.modExch_turns _ hi (.gives _ _ fun _ => ⟨by show (-3 : Int) ≤ 0; omega, by show (0 : Int) ≤ 3; omega⟩))
    (s.modTx_turns hi fun _ => .inl rfl)

theorem State.takeRequest_turns (s : State) {i : Lane} {x : Side} (f : TuneFields) (hi : s.InScope c i)
    (hG : R → s.InUseFits i x ∧ -3 ≤ f.delta ∧ f.delta ≤ 3) : State.Turns R G c s (s.takeRequest i x f) := by
  unfold State.takeRequest
  split
  · exact .refl s
  · split
    · exact .refl s
    · exact s.processTap_turns _ _ _ hi hG
    · exact s.processTap_turns _ _ _ hi hG
    · exact s.processTap_turns _ _ _ hi hG
    · exact s.processRestart_turns _ hi

/-! ### Arrival -/

theorem State.startWatch_turns (s : State) {i : Lane} {x : Side} (hi : s.InScope c i)
    (h : s.laneState i x = .tune ∨ s.laneState i x = .ready) : State.Turns R G c s (s.startWatch i x) :=
  s.modExch_turns hi (.watches _ h)

theorem State.recordHandover_turns (s : State) {i : Lane} {x : Side} (f : TuneFields) (hi : s.InScope c i) :
    State.Turns R G c s (s.recordHandover i x f) := s.modExch_turns hi (.hears _ _)

theorem State.handoverMove_turns (s : State) (n : LegId) {i : Lane} {x : Side} (v : Verdict) (hi : s.InScope c i) :
    State.Turns R G c s (s.handoverMove n i x v) := by
  unfold State.handoverMove
  split
  · next h =>
    split
    · next hm => exact s.modExch_turns hi (.readies h hm)
    · exact .refl s
  · next h =>
    split
    · exact s.modExch_turns hi (.opensCount h)
    · exact .refl s
  · next h => exact s.returnToTune_turns _ hi (.inl h)
  · exact .refl s

theorem State.returnToTune_serviceMoves (s : State) (i : Lane) (x : Side) (cause : ReturnCause) :
    s.ServiceMoves (s.returnToTune i x cause) := by
  have h := (s.serviceMoves_outOfService i x).trans (State.serviceMoves_modExch _ i x fun e =>
    { e with lane := .tune, ownCount := 15, zeroSeen := false, countEnded := false, returnCause := some cause })
  show s.ServiceMoves (if s.laneState i x = .ready then _ else _)
  split
  · exact h
  · exact h.trans (State.serviceMoves_modExch _ i x _)

theorem State.handoverMove_serviceMoves (s : State) (n : LegId) (i : Lane) (x : Side) (v : Verdict) :
    s.ServiceMoves (s.handoverMove n i x v) := by
  unfold State.handoverMove
  split
  · split
    · exact s.serviceMoves_modExch i x _
    · exact .refl s
  · split
    · exact s.serviceMoves_modExch i x _
    · exact .refl s
  · exact s.returnToTune_serviceMoves i x _
  · exact .refl s

theorem State.returnToTune_tx (s : State) (i : Lane) (x : Side) (cause : ReturnCause) :
    (s.returnToTune i x cause).tx = (s.outOfService i x).tx := by
  show (if s.laneState i x = .ready then _ else _ : State).tx = _
  split <;> rfl

/-- A move of the handover keeps the sets of every path (R80). -/
theorem State.handoverMove_path (s : State) (n : LegId) (i : Lane) (x : Side) (v : Verdict) (k : Lane) (y : Side) :
    TxPath.StaysOn (s.txAt k y) ((s.handoverMove n i x v).txAt k y) := by
  unfold State.handoverMove
  split
  · split <;> exact ⟨rfl, id⟩
  · split <;> exact ⟨rfl, id⟩
  · rw [State.txAt_congr (s.returnToTune_tx i x _)]
    exact s.outOfService_path i x k y
  · exact ⟨rfl, id⟩

theorem State.ServiceMoves.profileAt {s t : State} (h : s.ServiceMoves t) (i : Lane) : t.profileAt i = s.profileAt i := by
  unfold State.profileAt
  rw [h.owner i]
  split
  · exact h.profile _
  · rfl

theorem State.InUseFits.handoverMove {s : State} {i : Lane} {x : Side} (h : s.InUseFits i x) (n : LegId) (v : Verdict) :
    (s.handoverMove n i x v).InUseFits i x := by
  have hm := s.handoverMove_serviceMoves n i x v
  unfold State.InUseFits
  rw [hm.profileAt, State.txPath_eq_txAt hm.lanes.slices, (s.handoverMove_path n i x v _ x).1]
  exact h

theorem State.takeAnswer_turns (s : State) {i : Lane} {x : Side} (f : TuneFields) (hi : s.InScope c i) :
    State.Turns R G c s (s.takeAnswer i x f) := s.modExch_turns hi (.reads f)

theorem State.takeRequest_slices (s : State) (i : Lane) (x : Side) (f : TuneFields) :
    (s.takeRequest i x f).slices = s.slices := by
  unfold State.takeRequest
  split
  · rfl
  · split <;> rfl

theorem State.tuneInTraining_turns (s : State) (n : LegId) {i : Lane} {x : Side} (f : TuneFields) (hi : s.InScope c i)
    (h : s.laneState i x = .tune ∨ s.laneState i x = .ready) (hG : R → s.InUseFits i x ∧ -3 ≤ f.delta ∧ f.delta ≤ 3) :
    State.Turns R G c s (s.tuneInTraining n i x f) := by
  have hj : (((s.startWatch i x).recordHandover i x f).handoverMove n i x f.verdict).InScope c i :=
    hi.slices (State.handoverMove_serviceMoves _ n i x f.verdict).lanes.slices
  have hfit : s.InUseFits i x → ((s.startWatch i x).recordHandover i x f).InUseFits i x := fun k => k
  exact .after (State.takeAnswer_turns _ f (hj.slices (State.takeRequest_slices _ i x f)))
    (.after (State.takeRequest_turns _ f hj fun g => ⟨(hfit (hG g).1).handoverMove n f.verdict, (hG g).2⟩)
      (.after (State.handoverMove_turns _ n _ hi) (.after (State.recordHandover_turns _ f hi) (s.startWatch_turns hi h))))

theorem State.partnerRevert_turns (s : State) {n : LegId} {i : Lane} {x : Side} (hc : Covers c n) (hi : s.InScope c i)
    (h : s.laneState i x = .count ∨ s.laneState i x = .data) : State.Turns R G c s (s.partnerRevert n i x) :=
  .after (State.revertLeg_turns _ x hc) (s.returnToTune_turns _ hi (.inr h))

theorem State.countArrived_turns (s : State) {i : Lane} {x : Side} (hi : s.InScope c i) (h : s.laneState i x = .count) :
    State.Turns R G c s (s.countArrived i x) := by
  unfold State.countArrived
  refine .after (State.dataIfBoth_turns _ hi ?_) (s.modExch_turns hi (.seesZero _ h))
  exact (congrArg Exchange.lane (s.exch_modExch_same i x _)).trans h

theorem State.takeTune_turns (s : State) {n : LegId} {i : Lane} {x : Side} (f : TuneFields) (hc : Covers c n)
    (hi : s.InScope c i) (hG : R → (s.laneState i x ≠ .quiet → s.InUseFits i x) ∧ -3 ≤ f.delta ∧ f.delta ≤ 3) :
    State.Turns R G c s (s.takeTune n i x f) := by
  have hheard (l : LaneState) (h : s.laneState i x = l) : (s.recordHandover i x f).laneState i x = l :=
    (congrArg Exchange.lane (s.exch_modExch_same i x _)).trans h
  have hfits (l : LaneState) (h : s.laneState i x = l) (hl : l ≠ .quiet) (g : R) :
      s.InUseFits i x ∧ -3 ≤ f.delta ∧ f.delta ≤ 3 := ⟨(hG g).1 (h ▸ hl), (hG g).2⟩
  unfold State.takeTune
  split
  · exact .refl s
  · next h =>
    split
    · have ht : (s.enterTune i x).laneState i x = .tune := by
        simp [State.laneState, State.enterTune, State.startWatch]
      exact .after (State.tuneInTraining_turns _ n f hi (.inl ht) (hfits _ h (by simp))) (s.enterTune_turns hi h)
    · exact .refl s
  · next h => exact s.tuneInTraining_turns n f hi (.inl h) (hfits _ h (by simp))
  · next h => exact s.tuneInTraining_turns n f hi (.inr h) (hfits _ h (by simp))
  · next h =>
    split
    · exact .after (State.countArrived_turns _ hi (hheard _ h)) (s.recordHandover_turns f hi)
    · exact .after (State.partnerRevert_turns _ hc hi (.inl (hheard _ h))) (s.recordHandover_turns f hi)
  · next h =>
    split
    · exact s.recordHandover_turns f hi
    · exact .after (State.partnerRevert_turns _ hc hi (.inr (hheard _ h))) (s.recordHandover_turns f hi)

theorem State.takeFill_turns (s : State) {i : Lane} {x : Side} (hi : s.InScope c i) :
    State.Turns R G c s (s.takeFill i x) := by
  unfold State.takeFill
  split
  · exact .refl s
  · exact .refl s
  · next h => exact .after (State.modExch_turns _ hi (.hears _ _)) (s.startWatch_turns hi (.inl h))
  · next h =>
    refine .after (State.returnToTune_turns _ _ hi (.inl ?_))
      (.after (State.modExch_turns _ hi (.hears _ _)) (s.startWatch_turns hi (.inr h)))
    simpa [State.laneState, State.startWatch] using h
  · next h =>
    refine .after (State.countArrived_turns _ hi ?_) (s.modExch_turns hi (.hears _ _))
    exact (congrArg Exchange.lane (s.exch_modExch_same i x _)).trans h
  · exact s.modExch_turns hi (.hears _ _)

/-- What the laws say of a lane on which a frame arrives or a record is delivered: its set in use fits its leg's profile, whose
band is one of R97's. -/
def State.LaneFits (s : State) (i : Lane) (x : Side) : Prop :=
  ∀ n : LegId, s.owner i = some n → (s.laneState i x ≠ .quiet → s.InUseFits i x) ∧ 1 ≤ (s.leg n).profile.band

theorem State.arrive_turns (s : State) {i : Lane} {x : Side} (w : ControlWord) (hi : s.InScope c i)
    (hG : R → s.LaneFits i x) : State.Turns R G c s (s.arrive i x w) := by
  unfold State.arrive
  split
  · exact .refl s
  · next n hn =>
    have hc : Covers c n := fun m hm => Option.some.inj ((hi m hm).symm.trans hn)
    split
    · unfold State.takeInvalid
      split
      · exact .refl s
      · exact s.modExch_turns hi .badFrame
    · next f hf =>
      exact State.reportIfMoved_turns hc i x (s.takeTune_turns f hc hi fun g => ⟨(hG g n hn).1, readWord_delta hf⟩)
    · exact State.reportIfMoved_turns hc i x (s.takeFill_turns hi)

/-! ### Frame intervals -/

theorem LineOut.wordOk_fill (r : FillReason) : (LineOut.frame (fillWord r)).wordOk = true := by cases r <;> decide

theorem State.sendTuning_turns (s : State) {i : Lane} {x : Side} (hi : s.InScope c i) :
    State.Turns R G c s (s.sendTuning i x) := by
  have ht : State.Turns R G c s (s.modExch i x fun e => { e with req := e.req.frameStarts s.now }) :=
    s.modExch_turns hi (.frameStarts _)
  have hj : (s.modExch i x fun e => { e with req := e.req.frameStarts s.now }).InScope c i := hi
  unfold State.sendTuning
  generalize (s.modExch i x fun e => { e with req := e.req.frameStarts s.now }) = t at ht hj
  exact ht.trans (State.Turn.tuning i x _ hj).run

theorem State.serve_turns (s : State) {i : Lane} {x : Side} (hi : s.InScope c i) : State.Turns R G c s (s.serve i x) := by
  unfold State.serve State.beginFrame
  split
  · exact s.modTx_turns hi fun _ => .inr (LineOut.wordOk_fill _)
  · exact s.modTx_turns hi fun _ => .inr (LineOut.wordOk_fill _)
  · exact s.modTx_turns hi fun _ => .inr (LineOut.wordOk_fill _)
  · exact s.modTx_turns hi fun _ => .inr rfl
  · exact s.modTx_turns hi fun _ => .inr rfl

theorem State.endCountZero_turns (s : State) {i : Lane} {x : Side} (hi : s.InScope c i) :
    State.Turns R G c s (s.endCountZero i x) := by
  unfold State.endCountZero
  split
  · exact .refl s
  · next n hn =>
    have hc : Covers c n := fun m hm => Option.some.inj ((hi m hm).symm.trans hn)
    dsimp only
    split
    · next h =>
      refine State.reportIfMoved_turns hc i x (.after (State.dataIfBoth_turns _ hi ?_) (.after
        (State.modTx_turns _ hi fun p => .inr ?_) (s.modExch_turns hi (.endsCount h.1 h.2.1))))
      · simpa [State.laneState] using h.1
      · cases (s.exch i x).order <;> rfl
    · exact .refl s

theorem State.endCountZero_inScope (s : State) {i : Lane} {x : Side} (hi : s.InScope c i) :
    (s.endCountZero i x).InScope c i := by
  refine hi.slices ?_
  unfold State.endCountZero
  split
  · rfl
  · dsimp only
    split
    · unfold State.reportIfMoved
      have hd (t : State) : (t.dataIfBoth i x).slices = t.slices := (t.dataIfBoth_moves i x).slices
      split
      · exact hd _
      · rename_i n _ _ _
        have hl (t : State) : (t.laneReport n).slices = t.slices := by
          have hu (u : State) : (u.trainingTest n).slices = u.slices := by
            unfold State.trainingTest
            split
            · exact (State.zeroRestarts_moves _ n).slices
            · rfl
          have hv (u : State) : (u.upTest n).slices = u.slices := by
            unfold State.upTest
            split
            · exact (State.endAttemptConditions_moves _ n).slices
            · rfl
          exact (State.marginCheck_moves _ n).slices.trans ((State.deriveOrders_moves _ n).slices.trans
            ((hv _).trans ((State.releaseTest_moves _ n).slices.trans (hu t))))
        exact (hl _).trans (hd _)
    · rfl

theorem State.startInterval_turns (s : State) {i : Lane} {x : Side} (hi : s.InScope c i) :
    State.Turns R G c s (s.startInterval i x) := by
  have hj := s.endCountZero_inScope (x := x) hi
  refine (s.endCountZero_turns (x := x) hi).trans ?_
  unfold State.startInterval
  dsimp only
  split
  · exact .refl _
  · exact State.sendTuning_turns _ hj
  · exact State.sendTuning_turns _ hj
  · exact State.sendTuning_turns _ hj
  · next h =>
    split
    · exact State.serve_turns _ hj
    · next hk => exact .after (State.sendTuning_turns _ hj) (State.modExch_turns _ hj (.countsOn h (by simpa using hk)))
  · exact State.serve_turns _ hj

/-! ### Measurement records -/

theorem State.becomeContent_turns (s : State) (n : LegId) {i : Lane} {x : Side} (low : Bool) (eye : Nat) (hi : s.InScope c i)
    (h : (s.exch i x).req.phase = .idle) : State.Turns R G c s (s.becomeContent n i x low eye) := by
  have ht : State.Turns R G c s ((s.modExch i x fun e => { e with req := { e.req with mode := .content } }).queueEvent (some n)
      (.laneTuned x i low eye (s.exch i x).req.taps)) := .after (State.queueEvent_turns _ _ _) (s.modExch_turns hi (.contents h))
  unfold State.becomeContent
  dsimp only
  split
  · next hk =>
    refine .after (State.modExch_turns _ hi (.readies ?_ ?_)) ht
    · simpa [State.laneState] using hk.2
    · simp
  · exact ht

theorem State.policyTake_turns (s : State) {n : LegId} {i : Lane} {x : Side} (eye : Nat) (rp rq : Int) (hc : Covers c n)
    (hi : s.InScope c i) (h : s.laneState i x = .tune ∨ s.laneState i x = .ready) (hp : (s.exch i x).req.phase = .idle)
    (hm : (s.exch i x).req.mode = .seeking) (hG : R → 1 ≤ (s.leg n).profile.band) :
    State.Turns R G c s (s.policyTake n i x eye rp rq) := by
  unfold State.policyTake
  split
  · next tap delta hq =>
    exact s.modExch_turns hi (.requests tap delta h hp hm fun g => policy_request_ok (hG g) hq _)
  · exact s.becomeContent_turns n _ _ hi hp
  · exact s.laneFailure_turns hc x _ hi

/-- A change of the exchange that leaves the lane where it is may come before or after the lane leaves its service. -/
theorem State.outOfService_modExch (s : State) (i : Lane) (x : Side) (f : Exchange → Exchange)
    (hf : ∀ e : Exchange, (f e).lane = e.lane) :
    (s.modExch i x f).outOfService i x = (s.outOfService i x).modExch i x f := by
  have hl : (s.modExch i x f).laneState i x = s.laneState i x :=
    (congrArg Exchange.lane (s.exch_modExch_same i x f)).trans (hf _)
  have he : (s.outOfService i x).exch i x = s.exch i x := s.outOfService_exch i i x x
  show _ = (s.outOfService i x).setExch i x (f ((s.outOfService i x).exch i x))
  rw [he]
  unfold State.outOfService State.leaveService State.leaveData
  rw [hl]
  by_cases hd : s.laneState i x = .data
  · simp only [if_pos hd]
    unfold State.clearRelease State.clearKept
    cases ho : s.owner i <;> simp [ho] <;> rfl
  · simp only [if_neg hd]
    unfold State.clearRelease
    cases ho : s.owner i <;> simp [ho] <;> rfl

/-- The end of contentment is one change of the exchange, beside the lane's leaving service (R72, R80). -/
theorem State.endContentment_eq (s : State) (i : Lane) (x : Side) :
    s.endContentment i x =
      (if s.laneState i x = .ready then s.outOfService i x else s).modExch i x Exchange.discontent := by
  have hl : (s.modExch i x fun e => { e with req := { e.req with mode := .seeking } }).laneState i x = s.laneState i x :=
    (congrArg Exchange.lane (s.exch_modExch_same i x _)).trans rfl
  have heq (t : State) (he : t.exch i x = s.exch i x) (g : Exchange → Exchange) (hg : g (s.exch i x) = (s.exch i x).discontent) :
      t.modExch i x g = t.modExch i x Exchange.discontent := by
    unfold State.modExch
    rw [he, hg]
  unfold State.endContentment
  dsimp only
  by_cases hr : s.laneState i x = .ready
  · rw [if_pos hr, if_pos hr]
    show (if _ = LaneState.ready then _ else _ : State) = _
    rw [hl, if_pos hr]
    show ((s.modExch i x fun e => { e with req := { e.req with mode := .seeking } }).outOfService i x).modExch i x _ = _
    rw [s.outOfService_modExch i x (fun e => { e with req := { e.req with mode := .seeking } }) fun _ => rfl,
      State.modExch_modExch]
    refine heq _ (s.outOfService_exch i i x x) _ ?_
    have hlane : (s.exch i x).lane = .ready := hr
    simp [Exchange.discontent, hlane]
  · rw [if_neg hr, if_neg hr]
    refine heq s rfl _ ?_
    have hlane : ¬(s.exch i x).lane = .ready := hr
    simp [Exchange.discontent, hlane]

theorem State.endContentment_turns (s : State) {i : Lane} {x : Side} (hi : s.InScope c i)
    (h : s.laneState i x = .tune ∨ s.laneState i x = .ready) (k : (s.exch i x).req.phase = .idle) :
    State.Turns R G c s (s.endContentment i x) := by
  rw [s.endContentment_eq]
  split
  · refine .after (State.modExch_turns _ (hi.slices (s.outOfService_slices i x)) ?_) (s.outOfService_turns hi)
    rw [s.outOfService_exch i i x x]
    exact .discontents h k
  · exact s.modExch_turns hi (.discontents h k)

theorem State.endContentment_serviceMoves (s : State) (i : Lane) (x : Side) : s.ServiceMoves (s.endContentment i x) := by
  rw [s.endContentment_eq]
  split
  · exact (s.serviceMoves_outOfService i x).trans (State.serviceMoves_modExch _ i x _)
  · exact s.serviceMoves_modExch i x _

theorem State.endContentment_exch (s : State) (i : Lane) (x : Side) :
    (s.endContentment i x).exch i x = (s.exch i x).discontent := by
  rw [s.endContentment_eq, State.exch_modExch_same]
  split
  · rw [s.outOfService_exch i i x x]
  · rfl

theorem Exchange.discontent_lane {e : Exchange} (h : e.lane = .tune ∨ e.lane = .ready) : e.discontent.lane = .tune := by
  unfold Exchange.discontent
  split
  · rfl
  · next hr => exact h.resolve_right hr

theorem Exchange.discontent_req (e : Exchange) : e.discontent.req = { e.req with mode := .seeking } := by
  unfold Exchange.discontent
  split <;> rfl

theorem State.requesterRecord_turns (s : State) {n : LegId} {i : Lane} {x : Side} (eye : Nat) (rp rq : Int) (hc : Covers c n)
    (hi : s.InScope c i) (h : s.laneState i x = .tune ∨ s.laneState i x = .ready) (hG : R → 1 ≤ (s.leg n).profile.band) :
    State.Turns R G c s (s.requesterRecord n i x eye rp rq) := by
  unfold State.requesterRecord
  dsimp only
  split
  · exact .refl s
  · next hp =>
    have hidle : (s.exch i x).req.phase = .idle := not_not.1 hp
    split
    · exact s.modExch_turns hi .unmarks
    · split
      · next hm => exact s.policyTake_turns _ _ _ hc hi h hidle hm hG
      · split
        · exact .refl s
        · have hm := s.endContentment_serviceMoves i x
          have he := s.endContentment_exch i x
          refine .after (State.policyTake_turns _ eye rp rq hc (hi.slices hm.lanes.slices) (.inl ?_) ?_ ?_ ?_)
            (s.endContentment_turns hi h hidle)
          · exact (congrArg Exchange.lane he).trans (Exchange.discontent_lane h)
          · rw [he, Exchange.discontent_req]
            exact hidle
          · rw [he, Exchange.discontent_req]
          · rw [hm.profile n]
            exact hG

theorem State.eyeRecord_turns (s : State) {n : LegId} {i : Lane} {x : Side} {eye : Nat} (hc : Covers c n)
    (hi : s.InScope c i) (h : eye ≤ 127) : State.Turns R G c s (s.eyeRecord n i x eye) :=
  .after (State.marginCheck_turns _ hc) (s.modRx_turns hi fun _ => .takes _ _ h)

theorem seen_le (signal : Bool) (v : BitVec 7) : (seen signal v).toNat ≤ 127 := by
  have := (seen signal v).isLt
  omega

theorem State.takeRecord_turns (s : State) {i : Lane} {x : Side} (eye rp rq : BitVec 7) (hi : s.InScope c i)
    (hG : R → s.LaneFits i x) : State.Turns R G c s (s.takeRecord i x eye rp rq) := by
  unfold State.takeRecord
  split
  · exact .refl s
  · next n hn =>
    have hc : Covers c n := fun m hm => Option.some.inj ((hi m hm).symm.trans hn)
    dsimp only
    split
    · next h =>
      exact State.reportIfMoved_turns hc i x (s.requesterRecord_turns _ _ _ hc hi (.inl h) fun g => (hG g n hn).2)
    · next h =>
      exact State.reportIfMoved_turns hc i x (s.requesterRecord_turns _ _ _ hc hi (.inr h) fun g => (hG g n hn).2)
    · exact s.eyeRecord_turns hc hi (seen_le _ _)
    · exact .refl s

/-! ### Signals and timers of an exchange -/

theorem State.setSignal_turns (s : State) {i : Lane} {x : Side} (present : Bool) (hi : s.InScope c i) :
    State.Turns R G c s (s.setSignal i x present) := s.modRx_turns hi fun _ => .same

theorem State.lossInData_turns (s : State) {n : LegId} {i : Lane} (x : Side) (hc : Covers c n) (hi : s.InScope c i) :
    State.Turns R G c s (s.lossInData n i x) := by
  unfold State.lossInData
  split
  · exact .after (State.laneReport_turns _ hc) (s.enterListen_turns hi)
  · exact s.enterHeld_turns hc
  · exact s.deriveOrders_turns hc
  · exact .after (State.laneReport_turns _ hc) (s.startSide_turns x hc)
  · exact .refl s

theorem State.loseSignal_turns (s : State) {i : Lane} (x : Side) (hi : s.InScope c i) :
    State.Turns R G c s (s.loseSignal i x) := by
  have ht : State.Turns R G c s (s.setSignal i x false) := s.setSignal_turns false hi
  have hj : (s.setSignal i x false).InScope c i := hi
  unfold State.loseSignal
  dsimp only
  split
  · exact ht
  · next n hn =>
    have hc : Covers c n := fun m hm => Option.some.inj ((hi m hm).symm.trans hn)
    split
    · exact ht
    · exact ht
    · exact .after (State.laneReport_turns _ hc) (ht.trans (State.enterListen_turns _ hj))
    · exact .after (State.laneReport_turns _ hc) (ht.trans (State.enterListen_turns _ hj))
    · exact .after (State.laneReport_turns _ hc) (ht.trans (State.enterListen_turns _ hj))
    · exact ht.trans (State.lossInData_turns _ x hc hj)

theorem State.regainSignal_turns (s : State) {i : Lane} (x : Side) (hi : s.InScope c i) :
    State.Turns R G c s (s.regainSignal i x) := by
  have ht : State.Turns R G c s (s.setSignal i x true) := s.setSignal_turns true hi
  unfold State.regainSignal
  dsimp only
  split
  · exact ht
  · next n hn =>
    have hc : Covers c n := fun m hm => Option.some.inj ((hi m hm).symm.trans hn)
    split
    · exact ht
    · exact ht
    · refine ht.trans ?_
      unfold State.restoreReported
      split
      · split
        · exact State.deriveOrders_turns _ hc
        · exact State.endGlitch_turns _ hc
      · exact .refl _

theorem State.reach_turns (s : State) (instant : Nat) : State.Turns R G c s (s.reach instant) := (State.Turn.notes _ _).run

theorem State.silence_turns (s : State) {n : LegId} {i : Lane} (x : Side) (hc : Covers c n) (hi : s.InScope c i) :
    State.Turns R G c s (s.silence n i x) := by
  unfold State.silence
  split
  · exact State.reportIfMoved_turns hc i x (s.laneFailure_turns hc x _ hi)
  · next h =>
    have ht : State.Turns R G c s (s.enterListen i x) := s.enterListen_turns hi
    unfold State.restartExchange
    dsimp only
    refine .after (State.laneReport_turns _ hc) ?_
    split
    · next hs =>
      obtain ⟨warm, he⟩ := s.enterListen_exch i x
      have hr : ((s.enterListen i x).exch i x).restarts = (s.exch i x).restarts := by rw [he]; rfl
      refine .after (State.modExch_turns _ (hi.slices (s.enterListen_moves i x).slices) (.restarts _ ?_)) ht
      rw [hr]
      have : ¬3 ≤ (s.exch i x).restarts := fun k => h ⟨hs, k⟩
      omega
    · exact ht

end Sys2Proof.Machine
end

section
/-! SUPPORT. Every command is a run of elementary turns: boundaries, leg commands, the live window, the switch transaction, the
load and the failure records, and so every command of the table. -/

namespace Sys2Proof.Machine

variable {R G : Prop} {c : Option LegId}

/-! ### Boundaries (R99, R101) -/

/-- The lane map keeps to the lanes of leg `n`, in either direction (R4, R8). -/
def State.GroupClosed (s : State) (n : LegId) : Prop :=
  ∀ l : Leg, l.first = (s.leg n).first → l.width = (s.leg n).width →
    ∀ i : Lane, s.owner i = some n → s.owner (pairedLane l i) = some n

theorem State.GroupClosed.congr {s t : State} {n : LegId} (h : s.GroupClosed n) (ho : ∀ j, t.owner j = s.owner j)
    (hf : (t.leg n).first = (s.leg n).first) (hw : (t.leg n).width = (s.leg n).width) : t.GroupClosed n :=
  fun l hlf hlw i hi => (ho _).trans (h l (hlf.trans hf) (hlw.trans hw) i ((ho i).symm.trans hi))

/-- Under a plan in force every leg's group is closed under its lane map (R4, R8). -/
theorem State.PlanOk.groupClosed {s : State} (h : s.PlanOk) (n : LegId) : s.GroupClosed n := by
  obtain ⟨hg, ho, _⟩ := h
  intro l hf hw i hi
  obtain ⟨hrun, hlo, hhi⟩ := (ho i n).1 hi
  have hfit : (s.leg n).first + (s.leg n).width ≤ 8 := by
    rcases hg n with hz | ⟨_, _, hz⟩
    · omega
    · exact hz
  unfold pairedLane
  split
  · refine (ho _ n).2 ⟨hrun, ?_⟩
    have hm : (l.first + (l.width - 1 - (i.val - l.first))) % 8 = l.first + (l.width - 1 - (i.val - l.first)) :=
      Nat.mod_eq_of_lt (by omega)
    show (s.leg n).first ≤ (l.first + (l.width - 1 - (i.val - l.first))) % 8
      ∧ (l.first + (l.width - 1 - (i.val - l.first))) % 8 < _
    omega
  · exact hi

/-- A loop over lanes whose turns keep what each of them needs. -/
theorem State.onLanes_turns_of {P : State → Prop} (s : State) (lanes : List Lane) (f : Lane → State → State) (hs : P s)
    (hf : ∀ i ∈ lanes, ∀ t : State, P t → State.Turns R G c t (f i t) ∧ P (f i t)) :
    State.Turns R G c s (s.onLanes lanes f) := by
  have run : ∀ rest : List Lane, rest ⊆ lanes → ∀ t : State, P t → State.Turns R G c t (t.onLanes rest f) := by
    intro rest
    induction rest with
    | nil => exact fun _ t _ => .refl t
    | cons i rest ih =>
      intro hsub t ht
      obtain ⟨h1, h2⟩ := hf i (hsub List.mem_cons_self) t ht
      exact h1.trans (ih (fun k hk => hsub (List.mem_cons_of_mem i hk)) _ h2)
  exact run lanes (fun _ h => h) s hs

theorem State.applyMap_turns (s : State) {n : LegId} (hc : Covers c n) (hg : ∀ m ∈ c, G → s.GroupClosed n) :
    State.Turns R G c s (s.applyMap n) := by
  refine State.onLanes_turns_of (P := fun t => ∀ j, t.owner j = s.owner j) s _ _ (fun _ => rfl) fun i hi t ht => ?_
  have hown := (s.mem_legLanes n i).1 hi
  refine ⟨(State.Turn.maps i ((s.leg n).mapSlice i (t.slice i)) ((State.inScope_of_owner hc hown).congr (ht i)) rfl
    fun m hm g => ?_).run, fun j => ?_⟩
  · obtain rfl := hc m hm
    exact (ht _).trans (hg m hm g (s.leg m) rfl rfl i hown)
  · by_cases hj : j = i
    · subst hj
      exact (congrArg Slice.owner (t.slice_setSlice_same j _)).trans (ht j)
    · exact (congrArg Slice.owner (t.slice_setSlice_ne _ hj)).trans (ht j)

theorem State.giveStarts_turns (s : State) (n : LegId) {i : Lane} {x : Side} (hi : s.InScope c i) :
    State.Turns R G c s (s.giveStarts n i x) := by
  unfold State.giveStarts
  exact s.modTx_turns hi fun _ => .inl rfl

theorem State.forgetLearned_turns (s : State) {i : Lane} {x : Side} (hi : s.InScope c i) :
    State.Turns R G c s (s.forgetLearned i x) := s.modTx_turns (f := TxPath.forget) hi fun _ => .inl rfl

theorem State.installProfile_turns (s : State) {n : LegId} (hc : Covers c n) (hg : ∀ m ∈ c, G → s.GroupClosed n) :
    State.Turns R G c s (s.installProfile n) := by
  unfold State.installProfile
  dsimp only
  exact .after (State.onLeg_turns _ hc _ (fun _ _ t ht => .after (State.forgetLearned_turns _ ht) (t.giveStarts_turns n ht))
    fun _ _ _ => rfl) (s.applyMap_turns hc hg)

theorem State.refreshDiffers_turns (s : State) {n : LegId} (hc : Covers c n) : State.Turns R G c s (s.refreshDiffers n) :=
  s.modLeg_turns hc fun _ => ⟨rfl, rfl, rfl, rfl⟩

/-- A change of a leg record that keeps the group keeps it closed. -/
theorem State.GroupClosed.modLeg {s : State} {n : LegId} {f : Leg → Leg} (h : s.GroupClosed n)
    (hf : ∀ l : Leg, (f l).first = l.first ∧ (f l).width = l.width) : (s.modLeg n f).GroupClosed n :=
  h.congr (fun _ => rfl) (by rw [State.leg_modLeg_same]; exact (hf _).1) (by rw [State.leg_modLeg_same]; exact (hf _).2)

theorem State.makeActive_turns (s : State) {n : LegId} (hc : Covers c n) (hg : ∀ m ∈ c, G → s.GroupClosed n) :
    State.Turns R G c s (s.makeActive n) := by
  unfold State.makeActive
  refine .after (State.refreshDiffers_turns _ hc) (.after (State.installProfile_turns _ hc fun m hm g => ?_)
    (s.modLeg_turns hc fun _ => ⟨rfl, rfl, rfl, rfl⟩))
  exact (hg m hm g).modLeg fun _ => ⟨rfl, rfl⟩

theorem State.take_turns (s : State) {n : LegId} (hc : Covers c n) (hg : ∀ m ∈ c, G → s.GroupClosed n) :
    State.Turns R G c s (s.take n) := by
  unfold State.take
  split
  · exact s.makeActive_turns hc hg
  · exact .after (State.refreshDiffers_turns _ hc) (s.applyMap_turns hc hg)
  · exact .after (State.refreshDiffers_turns _ hc) (s.applyMap_turns hc hg)

theorem State.boundary_turns (s : State) {n : LegId} (cause : LegCause) (hc : Covers c n)
    (hg : ∀ m ∈ c, G → s.GroupClosed n) : State.Turns R G c s (s.boundary n cause) := by
  unfold State.boundary
  refine .after (State.marginCheck_turns _ hc) (.after (State.reportTake_turns _ hc _) (.after (State.queueEvent_turns _ _ _)
    (.after (State.deriveOrders_turns _ hc) (.after (State.startLeg_turns _ hc) (.after (State.take_turns _ hc fun m hm g => ?_)
    (.after (State.modLeg_turns _ hc fun _ => ⟨rfl, rfl, rfl, rfl⟩) (s.legLeavesService_turns hc)))))))
  have hm := s.serviceMoves_legLeavesService n
  exact State.GroupClosed.modLeg ((hg m ‹_› g).congr hm.owner (by rw [hm.legs n]) (by rw [hm.legs n])) fun _ => ⟨rfl, rfl⟩

/-! ### Leg commands (R108 to R111) -/

theorem State.retrainLeg_turns (s : State) {n : LegId} (hc : Covers c n) (hg : ∀ m ∈ c, G → s.GroupClosed n) :
    State.Turns R G c s (s.retrainLeg n) := by
  unfold State.retrainLeg
  split
  · exact .refl s
  · have ht : State.Turns R G c s ((s.countRetrain n).modLeg n fun l => { l with retry := 0 }) :=
      .after (State.modLeg_turns _ hc fun _ => ⟨rfl, rfl, rfl, rfl⟩) (s.countTurns hc _ fun _ => rfl)
    have hk : ∀ m ∈ c, G → ((s.countRetrain n).modLeg n fun l => { l with retry := 0 }).GroupClosed n :=
      fun m hm g => State.GroupClosed.modLeg (State.GroupClosed.congr ((hg m hm g).modLeg (f := fun l =>
        { l with retrain := l.retrain + 1, rollRetrain := l.rollRetrain || l.retrain == 0xFFFF }) fun _ => ⟨rfl, rfl⟩)
        (fun _ => rfl) rfl rfl) fun _ => ⟨rfl, rfl⟩
    dsimp only
    generalize ((s.countRetrain n).modLeg n fun l => { l with retry := 0 }) = t at ht hk
    split
    · have he := t.endCondition_condsMove (some n) .retryOut
      refine .after (State.boundary_turns _ _ hc fun m hm g => ?_) (ht.trans (t.end_turns hc _ (by simp) (by simp)))
      exact (hk m hm g).congr (fun j => State.owner_congr he.fabric.1 j) (by rw [he.legs n]) (by rw [he.legs n])
    · exact ht.trans (t.boundary_turns _ hc hk)

theorem State.parkLeg_turns (s : State) {n : LegId} (cause : LegCause) (hc : Covers c n) :
    State.Turns R G c s (s.parkLeg n cause) := by
  unfold State.parkLeg
  split
  · exact .refl s
  · have ht : State.Turns R G c s
        ((((s.quietLeg n).modLeg n fun l => { l.standDown with state := .parked, retry := 0 }).deriveOrders n).endAttemptConditions
          n) := .after (State.endAttemptConditions_turns _ hc) (.after (State.deriveOrders_turns _ hc)
      (.after (State.modLeg_turns _ hc fun _ => ⟨rfl, rfl, rfl, rfl⟩) (s.quietLeg_turns hc)))
    dsimp only
    generalize ((((s.quietLeg n).modLeg n fun l => { l.standDown with state := .parked, retry := 0 }).deriveOrders
      n).endAttemptConditions n) = t at ht
    refine .after (State.marginCheck_turns _ hc) (.after (State.queueEvent_turns _ _ _) ?_)
    split
    · exact ht.trans (t.end_turns hc _ (by simp) (by simp))
    · exact ht

theorem State.unparkLeg_turns (s : State) {n : LegId} (hc : Covers c n) (hg : ∀ m ∈ c, G → s.GroupClosed n) :
    State.Turns R G c s (s.unparkLeg n) := by
  unfold State.unparkLeg
  split
  · exact s.boundary_turns _ hc hg
  · exact .refl s

theorem State.clearLeg_turns (s : State) {n : LegId} (hc : Covers c n) : State.Turns R G c s (s.clearLeg n (s.legLanes n)) :=
  (State.Turn.clears n _ hc (s.legLanes_inScope hc)).run

theorem State.whenOpen_turns (s : State) {f : State → State} (h : State.Turns R G c s (f s)) :
    State.Turns R G c s (s.whenOpen f) := by
  unfold State.whenOpen
  split
  · exact h
  · exact .refl s

theorem State.legCommand_turns (s : State) (n : LegId) {f : State → State} (h : State.Turns R G c s (f s)) :
    State.Turns R G c s (s.legCommand n f) := by
  refine s.whenOpen_turns ?_
  split
  · exact h
  · exact .refl s

/-! ### The live window (R143, R148 to R157) -/

theorem State.groupClosed_none (s : State) (n : LegId) : ∀ m ∈ (none : Option LegId), G → s.GroupClosed n :=
  fun _ h => nomatch h

/-- A command byte that stores what stands there derives the attention line afresh. -/
theorem State.deriveAttention_turns (s : State) : State.Turns R G none s s.deriveAttention :=
  (State.Turn.stores s.report.faultMask s.report.eventMode s.report.rolloverEnable s.report.overrun rfl).run

theorem State.lapsePlan_only_slices (s : State) : s.lapsePlan = { s with slices := s.lapsePlan.slices } :=
  State.onLanes_induct (P := fun t => t = { s with slices := t.slices }) _ (fun i t h => by rw [h]; rfl) _ rfl

theorem State.lapsePlan_turns (s : State) : State.Turns R G none s s.lapsePlan :=
  State.Apart.run (by rw [s.lapsePlan_only_slices]; exact ⟨rfl, rfl, rfl, rfl, rfl, rfl⟩)

theorem State.idleLane_turns (s : State) (i : Lane) (x : Side) : State.Turns R G none s (s.idleLane i x) :=
  have hi (t : State) : t.InScope none i := t.inScope_none i
  .after (State.modRx_turns _ (hi _) fun _ => .zeroed) (.after (State.modExch_turns _ (hi _) (.orders _))
    (s.enterQuiet_turns (hi s)))

theorem State.idleLane_slices (s : State) (i : Lane) (x : Side) : (s.idleLane i x).slices = s.slices :=
  (s.enterQuiet_moves i x).slices

theorem State.parkAll_turns (s : State) : State.Turns R G none s s.parkAll := by
  refine State.onLegs_turns _ (fun t n => ?_) allLegs s
  split
  · exact t.parkLeg_turns _ (covers_none n)
  · exact .refl t

theorem State.onAll_turns (s : State) (lanes : List Lane) (f : Lane → Side → State → State)
    (hf : ∀ (i : Lane) (x : Side) (t : State), State.Turns R G none t (f i x t)) :
    State.Turns R G none s (s.onExchanges lanes f) :=
  s.onLanes_turns_of (P := fun _ => True) lanes _ trivial fun i _ t _ => ⟨(hf i .s t).trans (hf i .c _), trivial⟩

theorem State.reloadHead_turns (s : State) : State.Turns R G none s s.reloadHead := by
  unfold State.reloadHead
  split
  · have ht : State.Turns R G none s (s.parkAll.onExchanges allLanes fun i x u => u.idleLane i x).lapsePlan :=
      .after (State.lapsePlan_turns _) (.after (State.onAll_turns _ _ _ fun i x t => t.idleLane_turns i x) s.parkAll_turns)
    dsimp only
    generalize (s.parkAll.onExchanges allLanes fun i x u => u.idleLane i x).lapsePlan = t at ht
    exact .after (State.deriveAttention_turns _) (ht.trans (State.Apart.run ⟨rfl, rfl, rfl, rfl, rfl, rfl⟩))
  · exact .refl s

theorem State.clearQueue_turns (s : State) : State.Turns R G none s s.clearQueue := by
  have h := State.Turn.drops (R := R) (G := G) (c := none) (s := s) s.report.events.length rfl
  rw [List.drop_length] at h
  exact h.run

theorem State.advanceQueue_turns (s : State) : State.Turns R G none s s.advanceQueue := by
  have h := State.Turn.drops (R := R) (G := G) (c := none) (s := s) 1 rfl
  rw [List.drop_one] at h
  exact h.run

theorem State.storeReport_turns (s : State) (faultMask : Byte) (eventMode : EventMode) (rolloverEnable overrun : Bool) :
    State.Turns R G none s
      (State.deriveAttention { s with report := { s.report with faultMask, eventMode, rolloverEnable, overrun } }) :=
  (State.Turn.stores faultMask eventMode rolloverEnable overrun rfl).run

theorem State.dropOverrun_turns (s : State) : State.Turns R G none s s.dropOverrun :=
  s.storeReport_turns s.report.faultMask s.report.eventMode s.report.rolloverEnable false

theorem State.storeFaultMask_turns (s : State) (v : Byte) : State.Turns R G none s (s.storeFaultMask v) :=
  s.storeReport_turns v s.report.eventMode s.report.rolloverEnable s.report.overrun

theorem State.storeEventMode_turns (s : State) (v : Byte) : State.Turns R G none s (s.storeEventMode v) := by
  unfold State.storeEventMode
  split
  · exact s.storeReport_turns s.report.faultMask _ s.report.rolloverEnable s.report.overrun
  · exact .refl s

theorem State.storeRollover_turns (s : State) (v : Byte) : State.Turns R G none s (s.storeRollover v) := by
  unfold State.storeRollover
  split
  · exact s.storeReport_turns s.report.faultMask s.report.eventMode false s.report.overrun
  · split
    · exact s.storeReport_turns s.report.faultMask s.report.eventMode true s.report.overrun
    · exact .refl s

theorem State.storeViewMode_turns (s : State) (v : Byte) : State.Turns R G none s (s.storeViewMode v) := by
  unfold State.storeViewMode
  split
  · exact State.Apart.run ⟨rfl, rfl, rfl, rfl, rfl, rfl⟩
  · split
    · exact State.Apart.run ⟨rfl, rfl, rfl, rfl, rfl, rfl⟩
    · exact .refl s

theorem State.storeViewLeg_turns (s : State) (v : Byte) : State.Turns R G none s (s.storeViewLeg v) :=
  State.Apart.run ⟨rfl, rfl, rfl, rfl, rfl, rfl⟩

theorem State.legCommandByte_turns (s : State) (n : LegId) (v : Byte) : State.Turns R G none s (s.legCommandByte n v) := by
  have hc := covers_none n
  unfold State.legCommandByte
  split
  · exact s.legCommand_turns n (s.retrainLeg_turns hc (s.groupClosed_none n))
  · split
    · exact s.legCommand_turns n (s.parkLeg_turns _ hc)
    · split
      · exact s.legCommand_turns n (s.unparkLeg_turns hc (s.groupClosed_none n))
      · split
        · exact s.legCommand_turns n (s.clearLeg_turns hc)
        · exact .refl s

theorem State.clearAll_turns (s : State) : State.Turns R G none s s.clearAll := (State.Turn.clearsAll rfl).run

theorem State.acknowledgeShown_turns (s : State) : State.Turns R G none s s.acknowledgeShown :=
  (State.Turn.acknowledges rfl).run

theorem State.headCommandByte_turns (s : State) (v : Byte) : State.Turns R G none s (s.headCommandByte v) := by
  unfold State.headCommandByte
  split
  · exact s.reloadHead_turns
  · split
    · exact s.whenOpen_turns s.clearQueue_turns
    · split
      · exact s.whenOpen_turns s.dropOverrun_turns
      · split
        · exact s.whenOpen_turns s.clearAll_turns
        · exact .refl s

theorem State.applyByte_turns (s : State) (a : BusAddr) (v : Byte) : State.Turns R G none s (s.applyByte a v) := by
  unfold State.applyByte
  split
  · exact s.headCommandByte_turns v
  · exact s.whenOpen_turns (s.storeViewMode_turns v)
  · exact s.whenOpen_turns (s.storeViewLeg_turns v)
  · exact s.whenOpen_turns (s.storeFaultMask_turns v)
  · exact s.whenOpen_turns (s.storeEventMode_turns v)
  · exact s.whenOpen_turns (s.storeRollover_turns v)
  · exact s.legCommandByte_turns _ v
  · exact s.whenOpen_turns s.advanceQueue_turns
  · exact s.whenOpen_turns s.dropOverrun_turns
  · exact s.whenOpen_turns s.acknowledgeShown_turns
  · exact .refl s

theorem State.applyBytes_turns (s : State) (bytes : List (BusAddr × Byte)) : State.Turns R G none s (s.applyBytes bytes) := by
  unfold State.applyBytes
  induction bytes generalizing s with
  | nil => exact .refl s
  | cons b rest ih => exact (s.applyByte_turns b.1 b.2).trans (ih _)

/-! ### The switch transaction -/

theorem State.snoop_turns (s : State) (a : BusAddr) (v : Byte) : State.Turns R G none s (s.snoop a v) := by
  unfold State.snoop
  split
  · exact State.Apart.run ⟨rfl, rfl, rfl, rfl, rfl, rfl⟩
  · exact .after (State.refreshDiffers_turns _ (covers_none _)) (State.Apart.run ⟨rfl, rfl, rfl, rfl, rfl, rfl⟩)
  · exact .refl s

theorem State.writtenByte_turns (s : State) (phase : TxnPhase) {take : State → State} (h : State.Turns R G none s (take s)) :
    State.Turns R G none s (s.writtenByte phase take) := by
  unfold State.writtenByte
  split
  · exact State.BridgeMoves.run rfl
  · split
    · exact h
    · exact State.BridgeMoves.run rfl

theorem State.memoryByte_turns (s : State) (v : Byte) (memAck : Bool) : State.Turns R G none s (s.memoryByte v memAck) := by
  refine s.writtenByte_turns _ ?_
  unfold State.takeMemoryByte
  split
  · split
    · have hb : State.Turns R G none (s.snoop s.bridge.combined v) (s.forwardByte v) := State.BridgeMoves.run rfl
      exact (s.snoop_turns _ v).trans hb
    · exact (s.endAbnormally_moves _).run
  · exact State.BridgeMoves.run rfl

theorem State.leaveWordAddress_moves (s : State) : s.BridgeMoves s.leaveWordAddress := by
  unfold State.leaveWordAddress
  split <;> rfl

theorem State.dropSnapshot_moves (s : State) (target : RestartTarget) : s.BridgeMoves (s.dropSnapshot target) := by
  unfold State.dropSnapshot
  split <;> rfl

theorem State.restartRunOn_moves (s : State) (target : RestartTarget) : s.BridgeMoves (s.restartRunOn target) := by
  cases target <;> rfl

theorem State.restartTo_moves (s : State) (target : RestartTarget) (answer : MemAnswer) :
    s.BridgeMoves (s.restartTo target answer) := by
  cases target
  · exact s.beginRead_moves answer
  · exact s.beginWrite_moves _
  · rfl

theorem State.applyBuffer_turns (s : State) : State.Turns R G none s s.applyBuffer :=
  .after (State.applyBytes_turns _ _) (State.BridgeMoves.run rfl)

theorem State.repeatStart_turns (s : State) (target : RestartTarget) (answer : MemAnswer) :
    State.Turns R G none s (s.repeatStart target answer) := by
  unfold State.repeatStart
  split
  · have ht : State.Turns R G none s (s.leaveWordAddress.applyBuffer.dropSnapshot target) :=
      .after (State.dropSnapshot_moves _ target).run (.after (State.applyBuffer_turns _) s.leaveWordAddress_moves.run)
    dsimp only
    split
    · exact ht.trans (State.restartRunOn_moves _ target).run
    · exact ht.trans (State.restartTo_moves _ target answer).run
  · exact State.BridgeMoves.run rfl

theorem State.stopTxn_turns (s : State) : State.Turns R G none s s.stopTxn := by
  have ht : State.Turns R G none s ((s.leaveWordAddress.endTxn s.closing .nothing).applyBytes s.bridge.txn.buffer) :=
    .after (State.applyBytes_turns _ _) (.after (State.BridgeMoves.run rfl) s.leaveWordAddress_moves.run)
  unfold State.stopTxn
  dsimp only
  split
  · exact .refl s
  · exact .refl s
  · exact ht

theorem State.servedByte_moves (s : State) (switchAck : Bool) : s.BridgeMoves (s.servedByte switchAck) := by
  unfold State.servedByte
  split <;> rfl

theorem State.chunkRefused_turns (s : State) (job : AgentJob) (at_ : NackAt) :
    State.Turns R G none s (s.chunkRefused job at_) := by
  refine State.Apart.run ?_
  unfold State.chunkRefused
  dsimp only
  cases job <;> dsimp only
  · exact ⟨rfl, rfl, rfl, rfl, rfl, rfl⟩
  · split <;> exact ⟨rfl, rfl, rfl, rfl, rfl, rfl⟩
  · split <;> exact ⟨rfl, rfl, rfl, rfl, rfl, rfl⟩

theorem State.abnormal_turns (s : State) : State.Turns R G none s s.abnormal := by
  unfold State.abnormal
  split
  · exact s.chunkRefused_turns _ _
  · exact (s.endAbnormally_moves _).run
  · exact .refl s

/-! ### The load and the failure records -/

theorem State.endHead_turns (s : State) (code : FaultCode) (h : code = .planBad ∨ code = .memoryFault) :
    State.Turns R G none s (s.endCondition none code) :=
  (State.Turn.ends (c := none) _ _ ⟨fun _ => h, fun _ => rfl⟩ (by simp)).run

theorem State.raiseHead_turns (s : State) (code : FaultCode) (detail : Byte) (h : code = .planBad ∨ code = .memoryFault) :
    State.Turns R G none s (s.raiseFault none code detail) :=
  (State.Turn.raises (c := none) _ _ _ ⟨fun _ => h, fun _ => rfl⟩ (by simp)).run

theorem State.chunkRead_turns (s : State) (a : BusAddr) : State.Turns R G none s (s.chunkRead a) :=
  .after (State.endHead_turns _ _ (.inr rfl)) (State.BridgeMoves.run rfl)

theorem State.noPlan_turns (s : State) : State.Turns R G none s s.noPlan := by
  unfold State.noPlan
  dsimp only
  exact .after (State.onAll_turns _ _ _ fun i _ t => t.forgetLearned_turns (t.inScope_none i))
    (.after (State.onLegs_turns _ (fun t n => t.modLeg_turns (f := Leg.absent) (covers_none n) fun _ => ⟨rfl, rfl, rfl, rfl⟩) _ _)
      s.lapsePlan_turns)

theorem State.endProfileBads_turns (s : State) : State.Turns R G none s s.endProfileBads :=
  State.onLegs_turns _ (fun t n => t.end_turns (covers_none n) _ (by simp) (by simp)) _ _

theorem State.countLoad_turns (s : State) : State.Turns R G none s s.countLoad :=
  .after (State.queueEvent_turns _ _ _) (State.Apart.run ⟨rfl, rfl, rfl, rfl, rfl, rfl⟩)

theorem State.closeLoad_turns (s : State) (head : HeadState) : State.Turns R G none s (s.closeLoad head) :=
  State.Apart.run ⟨rfl, rfl, rfl, rfl, rfl, rfl⟩

theorem State.endNoMemory_turns (s : State) : State.Turns R G none s s.endNoMemory := by
  have ht : State.Turns R G none s (s.closeLoad .noMemory).noPlan := .after (State.noPlan_turns _) (s.closeLoad_turns _)
  unfold State.endNoMemory
  dsimp only
  generalize (s.closeLoad .noMemory).noPlan = t at ht
  have hu : State.Turns R G none s { t with bridge := { t.bridge with mirror := none } } :=
    ht.trans (State.BridgeMoves.run rfl)
  refine .after (State.countLoad_turns _) (.after (State.endProfileBads_turns _) (hu.trans ?_))
  split
  · exact State.inEitherOrder_turns _ _ _ (fun t => t.raiseHead_turns _ _ (.inr rfl)) fun t => t.endHead_turns _ (.inl rfl)
  · exact State.raiseHead_turns _ _ _ (.inr rfl)

theorem State.endPlanBad_turns (s : State) : State.Turns R G none s s.endPlanBad :=
  .after (State.countLoad_turns _) (.after (State.endProfileBads_turns _) (.after (State.raiseHead_turns _ _ _ (.inl rfl))
    (.after (State.noPlan_turns _) (s.closeLoad_turns _))))

theorem State.setSlice_turns (s : State) (i : Lane) (d : Slice) : State.Turns R G none s (s.setSlice i d) :=
  State.Apart.run ⟨rfl, rfl, rfl, rfl, rfl, rfl⟩

theorem State.installPlan_turns (s : State) : State.Turns R G none s s.installPlan := by
  unfold State.installPlan
  dsimp only
  refine .after (State.onLanes_turns_of (P := fun _ => True) _ _ _ trivial fun i _ u _ => ⟨u.setSlice_turns i _, trivial⟩)
    (.after (State.onLegs_turns _ (fun t n => ?_) _ _) s.lapsePlan_turns)
  exact t.modLeg_turns (f := fun l => { l.standDown with state := .parked, width := headerWidth s.pendingHeader n
                                                         first := if headerWidth s.pendingHeader n = 0 then 0
                                                           else dealtFirst s.pendingHeader n })
    (covers_none n) fun _ => ⟨rfl, rfl, rfl, rfl⟩

theorem State.loadTake_turns (s : State) {n : LegId} (hc : Covers c n) (hg : ∀ m ∈ c, G → s.GroupClosed n)
    (result : TakeResult) (changed : List Lane) : State.Turns R G c s (s.loadTake n result changed) := by
  cases result with
  | taken => exact s.makeActive_turns hc hg
  | skipped =>
    have hlanes : ∀ i ∈ (s.legLanes n).filter fun i => changed.contains i, s.InScope c i :=
      fun i hi => s.legLanes_inScope hc i (List.mem_of_mem_filter hi)
    have hframe := State.onExchanges_induct (P := fun u => u.slices = s.slices ∧ u.legs = s.legs)
      (fun i x u => u.giveStarts n i x) (fun _ _ _ h => h) ((s.legLanes n).filter fun i => changed.contains i) ⟨rfl, rfl⟩
    exact .after (State.refreshDiffers_turns _ hc) (.after
      (State.applyMap_turns _ hc fun m hm g => (hg m hm g).congr (State.owner_congr hframe.1)
        (by rw [State.leg_congr hframe.2]) (by rw [State.leg_congr hframe.2]))
      (s.onExchanges_turns _ _ hlanes (fun i _ u hi => u.giveStarts_turns n hi) fun _ _ _ => rfl))
  | refused =>
    exact .after (State.refreshDiffers_turns _ hc) (.after
      (State.installProfile_turns _ hc fun m hm g => (hg m hm g).modLeg fun _ => ⟨rfl, rfl⟩)
      (s.modLeg_turns hc fun _ => ⟨rfl, rfl, rfl, rfl⟩))

theorem State.reportLoadTake_turns (s : State) {n : LegId} (hc : Covers c n) (result : TakeResult) :
    State.Turns R G c s (s.reportLoadTake n result) := by
  cases result with
  | taken => exact s.reportTake_turns hc .taken
  | skipped => exact s.reportTake_turns hc .skipped
  | refused => exact s.raise_turns hc _ _ (by simp) (by simp)

theorem State.settleLeg_turns (changed : List Lane) (s : State) {n : LegId} (hc : Covers c n)
    (hg : ∀ m ∈ c, G → s.GroupClosed n) : State.Turns R G c s (s.settleLeg changed n) := by
  unfold State.settleLeg
  split
  · exact s.end_turns hc _ (by simp) (by simp)
  · have ht := s.loadTake_turns (R := R) hc hg (s.takeCase n) changed
    unfold State.loadBoundary
    dsimp only
    split
    · exact .after (State.reportLoadTake_turns _ hc _) (.after (State.queueEvent_turns _ _ _)
        (.after (State.deriveOrders_turns _ hc) (.after (State.startLeg_turns _ hc)
          (.after (State.modLeg_turns _ hc fun _ => ⟨rfl, rfl, rfl, rfl⟩) ht))))
    · exact .after (State.reportLoadTake_turns _ hc _) (.after (State.deriveOrders_turns _ hc)
        (.after (State.quietLeg_turns _ hc) ht))

theorem State.endRunning_turns (s : State) : State.Turns R G none s s.endRunning := by
  unfold State.endRunning
  dsimp only
  exact .after (State.countLoad_turns _) (.after (State.onLegs_turns _ (fun t n => t.settleLeg_turns _ (covers_none n) (t.groupClosed_none n)) _ _)
    (.after (State.endHead_turns _ _ (.inl rfl)) (.after
      (State.onAll_turns _ _ _ fun i _ t => t.forgetLearned_turns (t.inScope_none i))
      (.after (State.installPlan_turns _) (s.closeLoad_turns _)))))

theorem State.endLoad_turns (s : State) : State.Turns R G none s s.endLoad := by
  unfold State.endLoad
  split
  · exact s.endRunning_turns
  · exact s.endPlanBad_turns

theorem State.slotRead_turns (s : State) (l : Load) (k : Fin 8) (bytes : Page) :
    State.Turns R G none s (s.slotRead l k bytes) := by
  have ht := s.chunkRead_turns (R := R) (G := G) (slotAddress k)
  unfold State.slotRead
  dsimp only
  split
  · exact .after (State.endLoad_turns _) (ht.trans (State.Apart.run ⟨rfl, rfl, rfl, rfl, rfl, rfl⟩))
  · exact ht.trans (State.Apart.run ⟨rfl, rfl, rfl, rfl, rfl, rfl⟩)

theorem State.legRead_turns (s : State) (l : Load) (n : LegId) (bytes : Page) :
    State.Turns R G none s (s.legRead l n bytes) := by
  have ht := s.chunkRead_turns (R := R) (G := G) (BitVec.ofNat 16 (0x0040 + 64 * n.val))
  unfold State.legRead State.loadPending
  generalize s.chunkRead (BitVec.ofNat 16 (0x0040 + 64 * n.val)) = t at ht
  have hu : State.Turns R G none s { t with pendingLegs := t.pendingLegs.set n.val bytes n.isLt } :=
    ht.trans (State.Apart.run ⟨rfl, rfl, rfl, rfl, rfl, rfl⟩)
  exact (hu.trans (State.refreshDiffers_turns _ (covers_none n))).trans (State.Apart.run ⟨rfl, rfl, rfl, rfl, rfl, rfl⟩)

theorem State.headerRead_turns (s : State) (l : Load) (bytes : Page) : State.Turns R G none s (s.headerRead l bytes) :=
  (s.chunkRead_turns 0x0000).trans (State.Apart.run ⟨rfl, rfl, rfl, rfl, rfl, rfl⟩)

theorem State.dropJob_moves (s : State) (job : AgentJob) : s.BridgeMoves (s.dropJob job) := by
  unfold State.dropJob
  split <;> rfl

theorem State.loadGivenUp_turns (s : State) (instant : Nat) :
    State.Turns R G none s (((s.reach instant).dropJob .loadChunk).endNoMemory) := by
  have ht := (s.reach_turns (R := R) (G := G) (c := none) instant).trans ((s.reach instant).dropJob_moves .loadChunk).run
  generalize (s.reach instant).dropJob .loadChunk = t at ht
  exact ht.trans t.endNoMemory_turns

theorem State.recordDone_turns (s : State) (r : FailureRecord) (rest : List FailureRecord) :
    State.Turns R G none s (s.recordDone r rest) := by
  have ht : State.Turns R G none s
      ((s.releasePort (recordActs s.agent.nextSlot (r.bytes s.agent.nextSerial) ++ [.stop])).moveMirror
        (memoryPointer (slotAddress s.agent.nextSlot))) := State.Apart.run ⟨rfl, rfl, rfl, rfl, rfl, rfl⟩
  unfold State.recordDone
  dsimp only
  generalize ((s.releasePort (recordActs s.agent.nextSlot (r.bytes s.agent.nextSerial) ++ [.stop])).moveMirror
    (memoryPointer (slotAddress s.agent.nextSlot))) = t at ht
  have hu : State.Turns R G none s { t with agent := { t.agent with
      records := rest, nextSlot := s.agent.nextSlot + 1, nextSerial := min 65535 (s.agent.nextSerial + 1), skipped := 0 } } :=
    ht.trans (State.Apart.run ⟨rfl, rfl, rfl, rfl, rfl, rfl⟩)
  refine hu.trans ?_
  split
  · exact State.inEitherOrder_turns _ _ _ (fun t => t.queueEvent_turns _ _) fun t => t.endHead_turns _ (.inr rfl)
  · exact State.queueEvent_turns _ _ _

theorem State.dropRecord_turns (s : State) (rest : List FailureRecord) : State.Turns R G none s (s.dropRecord rest) := by
  have ht : State.Turns R G none s (s.dropJob .record) := (s.dropJob_moves _).run
  unfold State.dropRecord
  dsimp only
  generalize s.dropJob .record = t at ht
  have hu : State.Turns R G none s { t with agent := { t.agent with records := rest } } :=
    ht.trans (State.Apart.run ⟨rfl, rfl, rfl, rfl, rfl, rfl⟩)
  exact hu.trans (State.raiseHead_turns _ _ _ (.inr rfl))

theorem State.agentTakes_turns (s : State) : State.Turns R G none s s.agentTakes := by
  unfold State.agentTakes
  split
  · split
    · exact State.Apart.run ⟨rfl, rfl, rfl, rfl, rfl, rfl⟩
    · exact .refl s
  · exact .refl s

/-! ### The commands that wait for something that runs -/

theorem execFrameSilenceExpiry_turns {s t : State} {i : Lane} {x : Side} (hi : s.InScope c i)
    (h : execFrameSilenceExpiry i x s = .next t) : State.Turns R G c s t := by
  unfold execFrameSilenceExpiry at h
  split at h
  · next n w hr =>
    cases h
    have ho : s.owner i = some n := by
      unfold State.watchRunning at hr
      split at hr
      · split at hr
        · next ho _ => cases hr; exact ho
        · cases hr
      · cases hr
    exact (s.reach_turns w).trans (State.silence_turns _ x (fun m hm => Option.some.inj ((hi m hm).symm.trans ho)) hi)
  · cases h; exact .refl s

theorem execAnswerTimerExpiry_turns {s t : State} {i : Lane} {x : Side} (hi : s.InScope c i)
    (h : execAnswerTimerExpiry i x s = .next t) : State.Turns R G c s t := by
  unfold execAnswerTimerExpiry at h
  split at h
  · next n w hr =>
    cases h
    have ho : s.owner i = some n := by
      unfold State.answerRunning at hr
      split at hr
      · split at hr
        · next ho _ => cases hr; exact ho
        · cases hr
      · cases hr
    have hcov : Covers c n := fun m hm => Option.some.inj ((hi m hm).symm.trans ho)
    exact (s.reach_turns w).trans (State.reportIfMoved_turns hcov i x (State.laneFailure_turns _ hcov x _ hi))
  · cases h; exact .refl s

theorem execTrainingBudgetExpiry_turns {s t : State} {n : LegId} (hc : Covers c n)
    (h : execTrainingBudgetExpiry n s = .next t) : State.Turns R G c s t := by
  unfold execTrainingBudgetExpiry at h
  split at h
  · cases h; exact (s.reach_turns _).trans (State.failAttempt_turns _ hc _ _ (by simp) (by simp))
  · cases h; exact .refl s

theorem execBackoffExpiry_turns {s t : State} {n : LegId} (hc : Covers c n) (hg : ∀ m ∈ c, G → s.GroupClosed n)
    (h : execBackoffExpiry n s = .next t) : State.Turns R G c s t := by
  unfold execBackoffExpiry at h
  split at h
  · cases h
    exact (s.reach_turns _).trans (State.boundary_turns _ _ hc fun m hm g =>
      (hg m hm g).congr (fun _ => rfl) rfl rfl)
  · cases h; exact .refl s

theorem execBridgeExpiry_turns {s t : State} {n : LegId} (hc : Covers c n)
    (h : execBridgeExpiry n s = .next t) : State.Turns R G c s t := by
  unfold execBridgeExpiry at h
  split at h
  · cases h; exact (s.reach_turns _).trans (State.enterLost_turns _ hc)
  · cases h; exact .refl s

theorem execCutExpiry_turns {s t : State} {n : LegId} (hc : Covers c n)
    (h : execCutExpiry n s = .next t) : State.Turns R G c s t := by
  unfold execCutExpiry at h
  split at h
  · cases h; exact (s.reach_turns _).trans (State.failAttempt_turns _ hc _ _ (by simp) (by simp))
  · cases h; exact .refl s

theorem execBusRecovery_turns {s t : State} (h : execBusRecovery s = .next t) : State.Turns R G none s t := by
  unfold execBusRecovery at h
  split at h
  · cases h
    split
    · exact State.Apart.run ⟨rfl, rfl, rfl, rfl, rfl, rfl⟩
    · exact .refl s
  · cases h; exact .refl s

theorem execHeaderChunk_turns {s t : State} (bytes : Page)
    (h : execHeaderChunk bytes s = .next t) : State.Turns R G none s t := by
  unfold execHeaderChunk at h
  split at h
  · split at h
    · cases h; exact s.headerRead_turns _ bytes
    · cases h; exact .refl s
  · cases h; exact .refl s

theorem execLegRecordChunk_turns {s t : State} (bytes : Page)
    (h : execLegRecordChunk bytes s = .next t) : State.Turns R G none s t := by
  unfold execLegRecordChunk at h
  split at h
  · split at h
    · cases h; exact s.legRead_turns _ _ bytes
    · cases h; exact .refl s
  · cases h; exact .refl s

theorem execRingSlotRead_turns {s t : State} (bytes : Page)
    (h : execRingSlotRead bytes s = .next t) : State.Turns R G none s t := by
  unfold execRingSlotRead at h
  split at h
  · split at h
    · cases h; exact s.slotRead_turns _ _ bytes
    · cases h; exact .refl s
  · cases h; exact .refl s

theorem execLoadChunkTimeout_turns {s t : State} (h : execLoadChunkTimeout s = .next t) : State.Turns R G none s t := by
  unfold execLoadChunkTimeout at h
  split at h
  · rw [← Host.Outcome.next.inj h]
    exact s.loadGivenUp_turns _
  · cases h; exact .refl s

theorem execReloadLoadStart_turns {s t : State} (h : execReloadLoadStart s = .next t) : State.Turns R G none s t := by
  unfold execReloadLoadStart at h
  split at h
  · cases h
    split
    · exact State.Apart.run ⟨rfl, rfl, rfl, rfl, rfl, rfl⟩
    · exact .refl s
  · cases h; exact .refl s

theorem execRecordWritten_turns {s t : State} (h : execRecordWritten s = .next t) : State.Turns R G none s t := by
  unfold execRecordWritten at h
  split at h
  · cases h; exact s.recordDone_turns _ _
  · cases h; exact .refl s

theorem execFailureRecordRetry_turns {s t : State}
    (h : execFailureRecordRetry s = .next t) : State.Turns R G none s t := by
  unfold execFailureRecordRetry at h
  split at h
  · cases h; exact State.Apart.run ⟨rfl, rfl, rfl, rfl, rfl, rfl⟩
  · cases h; exact .refl s

theorem execFailureRecordTimeout_turns {s t : State}
    (h : execFailureRecordTimeout s = .next t) : State.Turns R G none s t := by
  unfold execFailureRecordTimeout at h
  split at h
  · split at h
    · cases h
      split
      · exact (s.reach_turns _).trans (State.dropRecord_turns _ _)
      · exact .refl s
    · cases h; exact .refl s
  · cases h; exact .refl s

theorem execChunkNotAcknowledged_turns {s t : State} (nackAt : NackAt)
    (h : execChunkNotAcknowledged nackAt s = .next t) : State.Turns R G none s t := by
  unfold execChunkNotAcknowledged at h
  split at h
  · cases h; exact s.chunkRefused_turns _ _
  · cases h; exact .refl s

/-! ### Every command -/

/-- A command that concerns a leg, and any command, is a run of turns. -/
theorem exec_turns (cmd : Instr) {s t : State} (h : exec cmd s = .next t) (hc : c = s.concerned cmd ∨ c = none)
    (hfits : R → ∀ (i : Lane) (x : Side), s.LaneFits i x) (hclosed : ∀ n ∈ c, G → s.GroupClosed n) :
    State.Turns R G c s t := by
  have lane {i : Lane} (k : c = s.owner i ∨ c = none) : s.InScope c i := by
    rcases k with rfl | rfl
    · exact fun n hn => hn
    · exact s.inScope_none i
  have leg {n : LegId} (k : c = some n ∨ c = none) : Covers c n := by
    rcases k with rfl | rfl
    · exact covers_self n
    · exact covers_none n
  have closed {n : LegId} (k : c = some n ∨ c = none) : ∀ m ∈ c, G → s.GroupClosed n :=
    fun m hm g => leg k m hm ▸ hclosed m hm g
  have bridge {u : State} (k : c = none) (hm : s.BridgeMoves u) : State.Turns R G c s u := by subst k; exact hm.run
  have none' : s.concerned cmd = none → c = none := fun k => by simpa [k] using hc
  cases cmd
  case signalLost i x a =>
    cases h
    split
    · exact .refl s
    · exact (s.reach_turns a).trans (State.loseSignal_turns _ x (lane hc))
  case signalRestored i x a =>
    cases h
    split
    · exact .refl s
    · exact (s.reach_turns a).trans (State.regainSignal_turns _ x (lane hc))
  case measurementRecord i x eye rp rq => cases h; exact s.takeRecord_turns eye rp rq (lane hc) fun g => hfits g i x
  case tuneFrameArrives i x w => cases h; exact s.arrive_turns w (lane hc) fun g => hfits g i x
  case fillFrameArrives i x w => cases h; exact s.arrive_turns w (lane hc) fun g => hfits g i x
  case invalidFrame i x w => cases h; exact s.arrive_turns w (lane hc) fun g => hfits g i x
  case frameIntervalStart i x => cases h; exact s.startInterval_turns (lane hc)
  case countZeroFrameEnd i x => cases h; exact s.endCountZero_turns (lane hc)
  case frameSilenceExpiry i x => exact execFrameSilenceExpiry_turns (lane hc) h
  case answerTimerExpiry i x => exact execAnswerTimerExpiry_turns (lane hc) h
  case trainingBudgetExpiry n => exact execTrainingBudgetExpiry_turns (leg hc) h
  case backoffExpiry n => exact execBackoffExpiry_turns (leg hc) (closed hc) h
  case bridgeExpiry n => exact execBridgeExpiry_turns (leg hc) h
  case cutExpiry n => exact execCutExpiry_turns (leg hc) h
  case retrain n => cases h; exact s.legCommand_turns n (s.retrainLeg_turns (leg hc) (closed hc))
  case park n => cases h; exact s.legCommand_turns n (s.parkLeg_turns _ (leg hc))
  case unpark n => cases h; exact s.legCommand_turns n (s.unparkLeg_turns (leg hc) (closed hc))
  case clear n => cases h; exact s.legCommand_turns n (s.clearLeg_turns (leg hc))
  all_goals obtain rfl := none' rfl
  case powerOn => cases h; exact State.Turn.run (by refine State.Turn.resets _ rfl ?_ ?_ ?_ ?_ ?_ ?_ <;> rfl)
  case resetLineAssert => cases h; exact State.Turn.run (by refine State.Turn.resets _ rfl ?_ ?_ ?_ ?_ ?_ ?_ <;> rfl)
  case resetLineRelease =>
    cases h
    unfold State.releaseReset
    split
    · exact State.Apart.run ⟨rfl, rfl, rfl, rfl, rfl, rfl⟩
    · exact .refl s
  case headClockTick =>
    cases h
    split
    · exact .refl s
    · exact State.Apart.run ⟨rfl, rfl, rfl, rfl, rfl, rfl⟩
  case reload => cases h; exact s.reloadHead_turns
  case clearEventQueue => cases h; exact s.whenOpen_turns s.clearQueue_turns
  case clearOverrun => cases h; exact s.whenOpen_turns s.dropOverrun_turns
  case clearAllLegCounters => cases h; exact s.whenOpen_turns s.clearAll_turns
  case advance => cases h; exact s.whenOpen_turns s.advanceQueue_turns
  case queueClearOverrun => cases h; exact s.whenOpen_turns s.dropOverrun_turns
  case acknowledge => cases h; exact s.whenOpen_turns s.acknowledgeShown_turns
  case setViewMode v => cases h; exact s.whenOpen_turns (s.storeViewMode_turns v)
  case setViewLeg v => cases h; exact s.whenOpen_turns (s.storeViewLeg_turns v)
  case setFaultAttentionMask v => cases h; exact s.whenOpen_turns (s.storeFaultMask_turns v)
  case setEventAttentionMode v => cases h; exact s.whenOpen_turns (s.storeEventMode_turns v)
  case setRolloverAttentionEnable v => cases h; exact s.whenOpen_turns (s.storeRollover_turns v)
  case liveWindowOtherWrite a v => cases h; exact .refl s
  case switchStart => cases h; exact s.switchStarts_moves.run
  case bridgeTakesPort => cases h; exact s.givePort_moves.run
  case writeAddressPhase memAck =>
    cases h
    unfold State.writeAddress
    split
    · exact (s.beginWrite_moves memAck).run
    · exact State.BridgeMoves.run rfl
  case addressNotForMemory => cases h; exact s.otherAddress_moves.run
  case wordAddress high low => cases h; exact (s.wordArrives_moves high low).run
  case memoryWriteByte v memAck => cases h; exact s.memoryByte_turns v memAck
  case liveWindowWriteByte v => cases h; exact (s.liveByte_moves v).run
  case voidWriteByte v => cases h; exact s.voidByte_moves.run
  case currentAddressRead answer =>
    cases h
    unfold State.readAddress
    split
    · exact (s.beginRead_moves answer).run
    · exact State.BridgeMoves.run rfl
  case forwardedReadByte v switchAck => cases h; exact (s.forwardedByte_moves v switchAck).run
  case servedReadByte switchAck => cases h; exact (s.servedByte_moves switchAck).run
  case repeatedStart target answer => cases h; exact s.repeatStart_turns target answer
  case transactionStop => cases h; exact s.stopTxn_turns
  case abnormalEnd => cases h; exact s.abnormal_turns
  case busRecovery => exact execBusRecovery_turns h
  case agentTakesPort => cases h; exact s.agentTakes_turns
  case headerChunk bytes => exact execHeaderChunk_turns _ h
  case legRecordChunk bytes => exact execLegRecordChunk_turns _ h
  case ringSlotRead bytes => exact execRingSlotRead_turns _ h
  case chunkRetry => cases h; exact State.Apart.run ⟨rfl, rfl, rfl, rfl, rfl, rfl⟩
  case loadChunkTimeout => exact execLoadChunkTimeout_turns h
  case reloadLoadStart => exact execReloadLoadStart_turns h
  case recordWritten => exact execRecordWritten_turns h
  case failureRecordRetry => exact execFailureRecordRetry_turns h
  case failureRecordTimeout => exact execFailureRecordTimeout_turns h
  case chunkNotAcknowledged nackAt => exact execChunkNotAcknowledged_turns _ h

/-- Every command is a run of turns, whatever the state. -/
theorem exec_runs (cmd : Instr) {s t : State} (h : exec cmd s = .next t) : State.Turns False False none s t :=
  exec_turns cmd h (.inr rfl) (fun g => g.elim) fun _ h => nomatch h

end Sys2Proof.Machine
end

section
/-! PROOF. The laws of the report unit and of the eye monitors, kept by every step (R128 to R132, R153, R154, R156, R159), and
that every command completes. -/

namespace Sys2Proof.Machine

variable {R G : Prop} {c : Option LegId}

/-! ### Steps -/

/-- What popping the queue and every turn keep, every step keeps. -/
theorem step_keeps {P : State → Prop} {s t : State} (hpop : P s → P s.popped)
    (hP : ∀ u v : State, P u → State.Turn False False none u v → P v) (h : step s = .next t) (hs : P s) : P t := by
  unfold step at h
  split at h
  · cases h; exact hs
  · exact (exec_runs _ h).keeps hP (hpop hs)

/-! ### What a turn is to the report unit -/

/-- A turn as the report unit sees it. -/
inductive State.ReportTurn (s : State) : State → Prop
  | still (t : State) (h : s.Unreported t) (k : s.AttentionOk → t.AttentionOk) : State.ReportTurn s t
  | queues (leg : Option LegId) (kind : EventKind) : State.ReportTurn s (s.queueEvent leg kind)
  | raises (owner : Option LegId) (code : FaultCode) (detail : Byte) (ho : OwnsCode owner code) :
      State.ReportTurn s (s.raiseFault owner code detail)
  | ends (owner : Option LegId) (code : FaultCode) (ho : OwnsCode owner code) :
      State.ReportTurn s (s.endCondition owner code)
  | apart (t : State) (h : s.Apart t) : State.ReportTurn s t
  | acknowledges : State.ReportTurn s s.acknowledgeShown
  | drops (k : Nat) :
      State.ReportTurn s (State.deriveAttention { s with report := { s.report with events := s.report.events.drop k } })
  | stores (faultMask : Byte) (eventMode : EventMode) (rolloverEnable overrun : Bool) :
      State.ReportTurn s
        (State.deriveAttention { s with report := { s.report with faultMask, eventMode, rolloverEnable, overrun } })
  | resets (t : State) (h : t.report = .initial) : State.ReportTurn s t

/-- The attention line depends on list, queue, control bytes and rollover flags alone (R159). -/
theorem State.AttentionOk.congr {s t : State} (h : s.AttentionOk) (hr : t.report.faults = s.report.faults)
    (he : t.report.events = s.report.events) (ho : t.report.overrun = s.report.overrun)
    (hm : t.report.faultMask = s.report.faultMask) (hv : t.report.eventMode = s.report.eventMode)
    (hn : t.report.rolloverEnable = s.report.rolloverEnable) (ha : t.report.attention = s.report.attention)
    (hl : ∀ m : LegId, (t.leg m).anyRollover = (s.leg m).anyRollover) : t.AttentionOk := by
  unfold State.AttentionOk State.attentionDue Report.masked Report.half at *
  simp only [hr, he, ho, hm, hv, hn, ha, hl]
  exact h

theorem State.setLeg_unreported (s : State) (n : LegId) {l : Leg} (h : l.conds = (s.leg n).conds) :
    s.Unreported (s.setLeg n l) := by
  refine ⟨rfl, fun m => ?_⟩
  by_cases hm : m = n
  · rw [hm, State.leg_setLeg_same, h]
  · rw [State.leg_setLeg_ne _ _ hm]

theorem State.deriveAttention_unreported (s : State) : s.Unreported s.deriveAttention := ⟨rfl, fun _ => rfl⟩

theorem State.deriveAttention_attentionOk (s : State) : s.deriveAttention.AttentionOk := rfl

theorem State.clearLeg_attentionOk (s : State) (n : LegId) (lanes : List Lane) : (s.clearLeg n lanes).AttentionOk := by
  unfold State.clearLeg
  exact State.deriveAttention_attentionOk _

theorem State.clearAll_attentionOk (s : State) : s.clearAll.AttentionOk := by
  unfold State.clearAll
  exact State.deriveAttention_attentionOk _

theorem State.clearExchange_unreported (s : State) (i : Lane) (x : Side) : s.Unreported (s.clearExchange i x) :=
  ⟨rfl, fun _ => rfl⟩

theorem State.onExchanges_unreported (s : State) (lanes : List Lane) :
    s.Unreported (s.onExchanges lanes fun i x t => t.clearExchange i x) :=
  State.onExchanges_induct _ (fun i x t h => h.trans (t.clearExchange_unreported i x)) lanes ⟨rfl, fun _ => rfl⟩

theorem State.clearLeg_unreported (s : State) (n : LegId) (lanes : List Lane) : s.Unreported (s.clearLeg n lanes) :=
  ((s.modLeg_unreported n Leg.cleared fun _ => rfl).trans (State.onExchanges_unreported _ lanes)).trans
    (State.deriveAttention_unreported _)

theorem State.clearAll_unreported (s : State) : s.Unreported s.clearAll := by
  have hl : ∀ (legs : List LegId) (t : State), t.Unreported (legs.foldl (fun u n => u.modLeg n Leg.cleared) t) := by
    intro legs
    induction legs with
    | nil => exact fun t => ⟨rfl, fun _ => rfl⟩
    | cons n rest ih => exact fun t => (t.modLeg_unreported n Leg.cleared fun _ => rfl).trans (ih _)
  exact ((hl allLegs s).trans (State.onExchanges_unreported _ allLanes)).trans (State.deriveAttention_unreported _)

theorem Leg.SameFlags.anyRollover {l k : Leg} (h : l.SameFlags k) : l.anyRollover = k.anyRollover := by
  obtain ⟨-, h1, h2, h3⟩ := h
  simp only [Leg.anyRollover, h1, h2, h3]

theorem State.Turn.report {s t : State} (h : State.Turn R G c s t) : s.ReportTurn t := by
  cases h with
  | exch i x e _ _ => exact .still _ ⟨rfl, fun _ => rfl⟩ id
  | tx i x p _ _ => exact .still _ ⟨rfl, fun _ => rfl⟩ id
  | tuning i x b _ => exact .still _ ⟨rfl, fun _ => rfl⟩ id
  | rx i x r _ _ => exact .still _ ⟨rfl, fun _ => rfl⟩ id
  | leg n l _ hl =>
    refine .still _ (s.setLeg_unreported n hl.1) fun ha => ha.congr rfl rfl rfl rfl rfl rfl rfl fun m => ?_
    by_cases hm : m = n
    · rw [hm, State.leg_setLeg_same, hl.anyRollover]
    · rw [State.leg_setLeg_ne _ _ hm]
  | counts n l _ hl =>
    exact .still _ ((s.setLeg_unreported n hl).trans (State.deriveAttention_unreported _))
      fun _ => State.deriveAttention_attentionOk _
  | clears n lanes _ _ => exact .still _ (s.clearLeg_unreported n lanes) fun _ => s.clearLeg_attentionOk n lanes
  | queues leg kind => exact .queues leg kind
  | raises owner code detail ho _ => exact .raises owner code detail ho
  | ends owner code ho _ => exact .ends owner code ho
  | notes now freeCount => exact .still _ ⟨rfl, fun _ => rfl⟩ id
  | asks r => exact .still _ ⟨rfl, fun _ => rfl⟩ id
  | skips => exact .still _ ⟨rfl, fun _ => rfl⟩ id
  | maps i d _ _ _ => exact .still _ ⟨rfl, fun _ => rfl⟩ id
  | apart _ _ ha => exact .apart _ ha
  | clearsAll _ => exact .still _ s.clearAll_unreported fun _ => s.clearAll_attentionOk
  | acknowledges _ => exact .acknowledges
  | drops k _ => exact .drops k
  | stores m e r o _ => exact .stores m e r o
  | resets _ _ hr _ _ _ _ _ => exact .resets _ hr

/-! ### The event queue (R156) -/

theorem sequencesRunTo_drop (events : List EventRecord) (next : Byte) (k : Nat) (h : sequencesRunTo events next) :
    sequencesRunTo (events.drop k) next := by
  induction k generalizing events with
  | zero => exact h
  | succ k ih =>
    cases events with
    | nil => exact h
    | cons r rest => exact ih rest (sequencesRunTo_tail _ _ h)

theorem State.acknowledgeShown_eventsOk (s : State) (h : s.EventsOk) : s.acknowledgeShown.EventsOk := by
  unfold State.acknowledgeShown
  split
  · exact h
  · dsimp only
    split
    · exact h
    · exact State.queueEvent_eventsOk _ _ _ h

theorem State.ReportTurn.eventsOk {s t : State} (h : s.ReportTurn t) (hs : s.EventsOk) : t.EventsOk := by
  cases h with
  | still _ hu _ => exact State.eventsOk_congr (by rw [hu.report]) (by rw [hu.report]) hs
  | queues leg kind => exact s.queueEvent_eventsOk leg kind hs
  | raises owner code detail _ => exact s.raiseFault_eventsOk owner code detail hs
  | ends owner code _ => exact s.endCondition_eventsOk owner code hs
  | apart _ ha => exact State.eventsOk_congr (by rw [ha.report]) (by rw [ha.report]) hs
  | acknowledges => exact s.acknowledgeShown_eventsOk hs
  | drops k =>
    exact ⟨(List.drop_sublist k _).length_le.trans hs.1, sequencesRunTo_drop _ _ k hs.2⟩
  | stores _ _ _ _ => exact hs
  | resets _ hr =>
    unfold State.EventsOk
    rw [hr]
    exact ⟨Nat.zero_le _, trivial⟩

/-- Settles O8: every command is a run of turns, and no turn breaks the queue's law. -/
theorem eventQueueKept : Obligations.EventQueueKept :=
  fun _ _ hs h => step_keeps (P := State.EventsOk) id (fun _ _ hu hv => hv.report.eventsOk hu) h hs

/-! ### The attention line (R159) -/

theorem State.setCondition_attentionOk (s : State) (owner : Option LegId) (code : FaultCode) (b : Bool)
    (h : s.AttentionOk) : (s.setCondition owner code b).AttentionOk := by
  cases owner with
  | none => cases code <;> exact h
  | some n =>
    refine h.congr rfl rfl rfl rfl rfl rfl rfl fun m => ?_
    by_cases hm : m = n
    · rw [hm]
      exact (congrArg Leg.anyRollover (s.leg_modLeg_same n _)).trans rfl
    · exact congrArg Leg.anyRollover (s.leg_modLeg_ne _ hm)

theorem State.endCondition_attentionOk (s : State) (owner : Option LegId) (code : FaultCode) (h : s.AttentionOk) :
    (s.endCondition owner code).AttentionOk := by
  unfold State.endCondition
  dsimp only
  split
  · split
    · exact s.setCondition_attentionOk owner code false h
    · split <;> rfl
  · exact h

theorem State.acknowledgeShown_attentionOk (s : State) (h : s.AttentionOk) : s.acknowledgeShown.AttentionOk := by
  unfold State.acknowledgeShown
  split
  · exact h
  · dsimp only
    split <;> rfl

theorem State.ReportTurn.attentionOk {s t : State} (h : s.ReportTurn t) (hs : s.AttentionOk) : t.AttentionOk := by
  cases h with
  | still _ _ hk => exact hk hs
  | queues leg kind => rfl
  | raises owner code detail _ => rfl
  | ends owner code _ => exact s.endCondition_attentionOk owner code hs
  | apart _ ha =>
    exact hs.congr (by rw [ha.report]) (by rw [ha.report]) (by rw [ha.report]) (by rw [ha.report]) (by rw [ha.report])
      (by rw [ha.report]) (by rw [ha.report]) fun m => congrArg Leg.anyRollover (State.leg_congr ha.legs m)
  | acknowledges => exact s.acknowledgeShown_attentionOk hs
  | drops k => rfl
  | stores _ _ _ _ => rfl
  | resets _ hr => simp [State.AttentionOk, State.attentionDue, hr, Report.initial]

/-- Settles O10: every command is a run of turns, and each of them leaves the line as it is due. -/
theorem attentionKept : Obligations.AttentionKept :=
  fun _ _ hs h => step_keeps (P := State.AttentionOk) id (fun _ _ hu hv => hv.report.attentionOk hu) h hs

/-! ### The standing fault list (R153, R154) -/

/-- The law of the list over the conditions that hold. -/
def FaultListOk (faults : List FaultEntry) (listFull : Bool) (holds : Option LegId → FaultCode → Bool) : Prop :=
  faults.length ≤ 16 ∧ (faults.map fun e => (e.owner, e.code)).Nodup
    ∧ (∀ e ∈ faults, 1 ≤ e.occurrences ∧ e.occurrences ≤ 255 ∧ e.active = holds e.owner e.code)
    ∧ (listFull = true → faults.length = 16)

theorem State.faultsOk_iff (s : State) :
    s.FaultsOk ↔ FaultListOk s.report.faults s.report.listFull s.condition := Iff.rfl

/-- The conditions with one of them set. -/
def holdsWith (holds : Option LegId → FaultCode → Bool) (owner : Option LegId) (code : FaultCode) (b : Bool) :
    Option LegId → FaultCode → Bool := fun o c => if o = owner ∧ c = code then b else holds o c

theorem State.condition_setCondition_eq (s : State) {owner : Option LegId} {code : FaultCode} (b : Bool)
    (h : OwnsCode owner code) : (s.setCondition owner code b).condition = holdsWith s.condition owner code b :=
  funext fun o => funext fun c => s.condition_setCondition b h o c

/-- A condition without an entry is free to change. -/
theorem FaultListOk.hold {faults : List FaultEntry} {full : Bool} {holds : Option LegId → FaultCode → Bool}
    (h : FaultListOk faults full holds) (owner : Option LegId) (code : FaultCode) (b : Bool)
    (hn : ∀ e ∈ faults, ¬(e.owner = owner ∧ e.code = code)) : FaultListOk faults full (holdsWith holds owner code b) := by
  obtain ⟨hlen, hnd, he, hf⟩ := h
  refine ⟨hlen, hnd, fun e hm => ?_, hf⟩
  rw [holdsWith, if_neg (hn e hm)]
  exact he e hm

/-- A list whose entries keep owner and code keeps its length and the one entry for each. -/
theorem FaultListOk.map {faults : List FaultEntry} {full full' : Bool} {holds holds' : Option LegId → FaultCode → Bool}
    (h : FaultListOk faults full holds) {f : FaultEntry → FaultEntry} (hk : ∀ e, (f e).owner = e.owner ∧ (f e).code = e.code)
    (hfull : full' = true → full = true)
    (hf : ∀ e ∈ faults, 1 ≤ (f e).occurrences ∧ (f e).occurrences ≤ 255 ∧ (f e).active = holds' e.owner e.code) :
    FaultListOk (faults.map f) full' holds' := by
  obtain ⟨hlen, hnd, he, hl⟩ := h
  refine ⟨by rwa [List.length_map], ?_, fun e hm => ?_, fun hb => by rw [List.length_map]; exact hl (hfull hb)⟩
  · rw [List.map_map]
    have : ((fun e : FaultEntry => (e.owner, e.code)) ∘ f) = fun e => (e.owner, e.code) := by
      funext e
      exact Prod.ext (hk e).1 (hk e).2
    rwa [this]
  · obtain ⟨e', hm', rfl⟩ := List.mem_map.1 hm
    rw [(hk e').1, (hk e').2]
    exact hf e' hm'

/-- Entries may leave a list whose flag is clear. -/
theorem FaultListOk.filter {faults : List FaultEntry} {full : Bool} {holds : Option LegId → FaultCode → Bool}
    (h : FaultListOk faults full holds) (p : FaultEntry → Bool) : FaultListOk (faults.filter p) false holds := by
  obtain ⟨hlen, hnd, he, _⟩ := h
  exact ⟨(List.length_filter_le _ _).trans hlen, hnd.sublist (List.filter_sublist.map _),
    fun e hm => he e (List.mem_of_mem_filter hm), fun hb => nomatch hb⟩

theorem FaultListOk.raise {faults : List FaultEntry} {full : Bool} {holds : Option LegId → FaultCode → Bool}
    (h : FaultListOk faults full holds) (owner : Option LegId) (code : FaultCode) (detail : Byte) (time : BitVec 32) :
    FaultListOk (raiseIn faults owner code detail time) (full || notListed faults owner code)
      (holdsWith holds owner code true) := by
  have hany : (faults.any (·.isOf owner code) = true) ↔ ∃ e ∈ faults, e.owner = owner ∧ e.code = code := by
    simp [FaultEntry.isOf_iff]
  unfold raiseIn notListed
  by_cases hin : faults.any (·.isOf owner code) = true
  · rw [if_pos hin, hin]
    refine h.map (fun e => by split <;> exact ⟨rfl, rfl⟩) (by simp) fun e hm => ?_
    obtain ⟨h1, h2, h3⟩ := h.2.2.1 e hm
    by_cases hk : e.isOf owner code = true
    · rw [if_pos hk, holdsWith, if_pos ((e.isOf_iff owner code).1 hk)]
      refine ⟨?_, ?_, rfl⟩ <;> simp only [FaultEntry.reraised] <;> omega
    · rw [if_neg hk, holdsWith, if_neg fun q => hk ((e.isOf_iff owner code).2 q)]
      exact ⟨h1, h2, h3⟩
  · have hnone : ∀ e ∈ faults, ¬(e.owner = owner ∧ e.code = code) := fun e hm q => hin (hany.2 ⟨e, hm, q⟩)
    have hheld := h.hold owner code true hnone
    obtain ⟨hlen, hnd, he, hf⟩ := hheld
    rw [if_neg hin, Bool.eq_false_iff.2 hin]
    by_cases hroom : faults.length < Config.faultCapacity
    · have hlt : faults.length < 16 := hroom
      rw [if_pos hroom]
      refine ⟨by rw [List.length_append]; exact hlt, ?_, fun e hm => ?_, fun hb => ?_⟩
      · rw [List.map_append, List.nodup_append]
        refine ⟨hnd, by simp, ?_⟩
        rintro a ha b hb rfl
        obtain ⟨e, hm, heq⟩ := List.mem_map.1 ha
        simp only [List.map_cons, List.map_nil, List.mem_singleton, FaultEntry.fresh] at hb
        rw [hb] at heq
        exact hnone e hm ⟨congrArg Prod.fst heq, congrArg Prod.snd heq⟩
      · rcases List.mem_append.1 hm with hm | hm
        · exact he e hm
        · obtain rfl := List.mem_singleton.1 hm
          exact ⟨Nat.le_refl 1, by show 1 ≤ 255; omega, (if_pos ⟨rfl, rfl⟩).symm⟩
      · have : full = true := by simpa [Nat.not_le.2 hroom] using hb
        have := hf this
        omega
    · have h16 : faults.length = 16 := Nat.le_antisymm hlen (Nat.le_of_not_lt hroom)
      rw [if_neg hroom]
      exact ⟨hlen, hnd, he, fun _ => h16⟩

/-- No two entries of one owner and code. -/
theorem FaultListOk.unique {faults : List FaultEntry} {full : Bool} {holds : Option LegId → FaultCode → Bool}
    (h : FaultListOk faults full holds) {e f : FaultEntry} (he : e ∈ faults) (hf : f ∈ faults) (ho : e.owner = f.owner)
    (hc : e.code = f.code) : e = f :=
  List.inj_on_of_nodup_map h.2.1 he hf (Prod.ext ho hc)

theorem FaultListOk.ends {faults : List FaultEntry} {full : Bool} {holds : Option LegId → FaultCode → Bool}
    (h : FaultListOk faults full holds) {owner : Option LegId} {code : FaultCode} {e : FaultEntry}
    (he : faults.find? (·.isOf owner code) = some e) :
    FaultListOk (endIn faults owner code) (full && !e.acked) (holdsWith holds owner code false) := by
  obtain ⟨hkey, hmem⟩ := And.intro (List.find?_some he) (List.mem_of_find?_eq_some he)
  obtain ⟨ho, hc⟩ := (e.isOf_iff owner code).1 hkey
  have hkeep : FaultListOk (faults.filter fun e => !(e.isOf owner code && e.acked)) (full && !e.acked) holds := by
    cases ha : e.acked with
    | true => rw [Bool.not_true, Bool.and_false]; exact h.filter _
    | false =>
      have hall : (faults.filter fun e => !(e.isOf owner code && e.acked)) = faults := by
        refine List.filter_eq_self.2 fun f hf => ?_
        cases hk : f.isOf owner code with
        | false => rfl
        | true =>
          obtain ⟨ho', hc'⟩ := (f.isOf_iff owner code).1 hk
          rw [h.unique hf hmem (ho'.trans ho.symm) (hc'.trans hc.symm), ha]
          rfl
      rw [hall]
      simpa using h
  unfold endIn
  refine hkeep.map (fun f => by split <;> exact ⟨rfl, rfl⟩) id fun f hf => ?_
  obtain ⟨h1, h2, h3⟩ := hkeep.2.2.1 f hf
  by_cases hk : f.isOf owner code = true
  · rw [if_pos hk, holdsWith, if_pos ((f.isOf_iff owner code).1 hk)]
    exact ⟨h1, h2, rfl⟩
  · rw [if_neg hk, holdsWith, if_neg fun q => hk ((f.isOf_iff owner code).2 q)]
    exact ⟨h1, h2, h3⟩

theorem FaultListOk.acknowledge {faults : List FaultEntry} {full : Bool} {holds : Option LegId → FaultCode → Bool}
    (h : FaultListOk faults full holds) (e : FaultEntry) : FaultListOk (acknowledgeIn faults e) (full && e.active) holds := by
  unfold acknowledgeIn
  cases e.active with
  | true =>
    refine h.map (fun f => by split <;> exact ⟨rfl, rfl⟩) (by simp) fun f hf => ?_
    have hk := h.2.2.1 f hf
    split <;> exact hk
  | false => rw [Bool.and_false]; exact h.filter _

theorem State.raiseFault_faultsOk (s : State) {owner : Option LegId} {code : FaultCode} (detail : Byte)
    (ho : OwnsCode owner code) (h : s.FaultsOk) : (s.raiseFault owner code detail).FaultsOk := by
  obtain ⟨hf, hl, -, -, -, -⟩ := s.setCondition_report owner code true
  have hr := FaultListOk.raise h owner code detail (s.setCondition owner code true).report.headClock
  rw [← s.condition_setCondition_eq true ho, ← hf, ← hl] at hr
  exact hr

theorem State.endCondition_faultsOk (s : State) {owner : Option LegId} {code : FaultCode} (ho : OwnsCode owner code)
    (h : s.FaultsOk) : (s.endCondition owner code).FaultsOk := by
  obtain ⟨hf, hl, -, -, -, -⟩ := s.setCondition_report owner code false
  have hcond := s.condition_setCondition_eq false ho
  unfold State.endCondition
  dsimp only
  split
  · split
    · next hnone =>
      rw [hf] at hnone
      have hh := FaultListOk.hold h owner code false fun e hm q =>
        List.find?_eq_none.1 hnone e hm ((e.isOf_iff owner code).2 q)
      rw [← hcond, ← hf, ← hl] at hh
      exact hh
    · next e he =>
      rw [hf] at he
      have hh := FaultListOk.ends h he
      rw [← hcond, ← hf, ← hl] at hh
      split <;> exact hh
  · exact h

theorem State.acknowledgeShown_faultsOk (s : State) (h : s.FaultsOk) : s.acknowledgeShown.FaultsOk := by
  unfold State.acknowledgeShown
  split
  · exact h
  · next e _ =>
    have hh := FaultListOk.acknowledge h e
    dsimp only
    split <;> exact hh

theorem State.ReportTurn.faultsOk {s t : State} (h : s.ReportTurn t) (hs : s.FaultsOk) : t.FaultsOk := by
  cases h with
  | still _ hu _ =>
    have hc : t.condition = s.condition := funext fun o => funext fun c => hu.condition o c
    rw [State.faultsOk_iff, hc, hu.report]
    exact hs
  | queues leg kind => exact hs
  | raises owner code detail ho => exact s.raiseFault_faultsOk detail ho hs
  | ends owner code ho => exact s.endCondition_faultsOk ho hs
  | apart _ ha =>
    have hc : t.condition = s.condition := funext fun o => funext fun c =>
      State.condition_congr ha.legs (by rw [ha.report]) (by rw [ha.report]) o c
    rw [State.faultsOk_iff, hc, ha.report]
    exact hs
  | acknowledges => exact s.acknowledgeShown_faultsOk hs
  | drops k => exact hs
  | stores _ _ _ _ => exact hs
  | resets _ hr =>
    rw [State.faultsOk_iff, hr]
    exact ⟨Nat.zero_le _, List.nodup_nil, by simp [Report.initial], by simp [Report.initial]⟩

/-- Settles O9: every command is a run of turns, and no turn breaks the law of the fault list. -/
theorem faultListKept : Obligations.FaultListKept :=
  fun _ _ hs h => step_keeps (P := State.FaultsOk) id (fun _ _ hu hv => hv.report.faultsOk hu) h hs

/-! ### The eye monitors (R128 to R132) -/

theorem EyeMonitor.alarmTest_ok {m : EyeMonitor} (level : Nat) (h : m.Ok) (hp : m.phase = .running) : (m.alarmTest level).Ok := by
  obtain ⟨h1, h2, h3, h4, h5, h6, _, h8⟩ := h
  unfold EyeMonitor.alarmTest
  dsimp only
  generalize (if m.alarm then decide (level + 4 ≤ m.current) else decide (m.current < level)) = counts
  split
  · split
    · exact ⟨h1, h2, h3, h4, Nat.zero_le _, h6, fun _ => by simp [hp], h8⟩
    · next hr =>
      exact ⟨h1, h2, h3, h4, by show m.run + 1 ≤ 7; omega, h6, fun _ => by simp [hp], h8⟩
  · exact ⟨h1, h2, h3, h4, Nat.zero_le _, h6, fun _ => by simp [hp], h8⟩

theorem EyeMonitor.prime_ok {m : EyeMonitor} {eye : Nat} (h : m.Ok) (he : eye ≤ 127) : (m.prime eye).Ok := by
  obtain ⟨_, _, _, _, h5, _, _, _⟩ := h
  refine ⟨by show 8 * eye ≤ 1023; omega, he, he, he, h5, ⟨fun _ => rfl, fun _ => rfl⟩, fun _ => by simp [EyeMonitor.prime],
    fun _ => ⟨by show eye = 8 * eye / 8; omega, Nat.le_refl _, Nat.le_refl _⟩⟩

theorem EyeMonitor.update_ok {m : EyeMonitor} {eye : Nat} (h : m.Ok) (he : eye ≤ 127) : (m.update eye).Ok := by
  obtain ⟨h1, h2, h3, h4, h5, h6, h7, h8⟩ := h
  have hacc : m.acc - m.acc / 8 + eye ≤ 1023 := by omega
  refine ⟨hacc, ?_, ?_, ?_, h5, h6, h7, fun _ => ⟨rfl, ?_, ?_⟩⟩ <;> simp only [EyeMonitor.update] <;> omega

theorem EyeMove.ok {m m' : EyeMonitor} (h : EyeMove m m') (hm : m.Ok) : m'.Ok := by
  cases h with
  | same => exact hm
  | leaves =>
    obtain ⟨h1, h2, h3, h4, _, _, _, _⟩ := hm
    exact ⟨h1, h2, h3, h4, Nat.zero_le _, by simp [EyeMonitor.leave], by simp [EyeMonitor.leave], by simp [EyeMonitor.leave]⟩
  | primes =>
    obtain ⟨h1, h2, h3, h4, _, _, _, _⟩ := hm
    exact ⟨h1, h2, h3, h4, Nat.zero_le _, by simp, by simp, by simp⟩
  | takes level eye he =>
    unfold EyeMonitor.take
    split
    · exact hm
    · exact EyeMonitor.alarmTest_ok level (EyeMonitor.prime_ok hm he) rfl
    · next hp => exact EyeMonitor.alarmTest_ok level (EyeMonitor.update_ok hm he) hp
  | zeroed => exact ⟨by decide, by decide, by decide, by decide, by decide, by decide, by decide, by decide⟩

theorem EyeMonitor.cleared_ok {m : EyeMonitor} (h : m.Ok) : m.cleared.Ok := by
  obtain ⟨h1, h2, _, _, h5, h6, h7, h8⟩ := h
  exact ⟨h1, h2, h2, h2, h5, h6, h7, fun hp => ⟨(h8 hp).1, Nat.le_refl _, Nat.le_refl _⟩⟩

theorem State.setRxAt_eyesOk (s : State) {k : Lane} {x : Side} {r : RxPath} (h : s.EyesOk) (hr : r.eye.Ok) :
    (s.setRxAt k x r).EyesOk := by
  intro j y
  by_cases hk : (j, y) = (k, x)
  · obtain ⟨rfl, rfl⟩ := Prod.mk.inj hk
    rw [State.rx_setRxAt_same]
    exact hr
  · rw [State.rx_setRxAt_ne _ _ hk]
    exact h j y

theorem State.eyesOk_congr {s t : State} (h : t.rx = s.rx) (hs : s.EyesOk) : t.EyesOk := by
  unfold State.EyesOk
  rw [h]
  exact hs

theorem State.clearExchanges_eyesOk (s : State) (lanes : List Lane) (h : s.EyesOk) :
    (s.onExchanges lanes fun i x t => t.clearExchange i x).EyesOk :=
  State.onExchanges_induct (P := State.EyesOk) _
    (fun i x t ht => State.setRxAt_eyesOk (t.modExch i x Exchange.cleared) ht (EyeMonitor.cleared_ok (ht (t.phys i x) x))) lanes h

theorem State.clearLegs_rx (legs : List LegId) (s : State) : (legs.foldl (fun u n => u.modLeg n Leg.cleared) s).rx = s.rx := by
  induction legs generalizing s with
  | nil => rfl
  | cons n rest ih => exact ih _

theorem State.Turn.eyesOk {s t : State} (h : State.Turn R G c s t) (hs : s.EyesOk) : t.EyesOk := by
  cases h with
  | rx i x r _ hr => exact s.setRxAt_eyesOk hs (hr.ok (hs (s.phys i x) x))
  | clears n lanes _ _ => exact State.clearExchanges_eyesOk (s.modLeg n Leg.cleared) lanes hs
  | clearsAll _ => exact State.clearExchanges_eyesOk _ _ (State.eyesOk_congr (State.clearLegs_rx allLegs s) hs)
  | raises owner code detail _ _ =>
    have hm := (s.raiseFault_condsMove owner code detail).fabric
    exact State.eyesOk_congr hm.2.2.1 hs
  | ends owner code _ _ =>
    have hm := (s.endCondition_condsMove owner code).fabric
    exact State.eyesOk_congr hm.2.2.1 hs
  | apart _ _ ha => exact State.eyesOk_congr ha.rx hs
  | acknowledges _ =>
    have hm := s.acknowledgeShown_moves
    unfold State.ReportMoves at hm
    exact State.eyesOk_congr (by rw [hm]) hs
  | resets _ _ _ _ hrx _ _ _ =>
    have hinit : State.reset.EyesOk := by
      intro j y
      have : ((State.reset.rx)[j]).get y = .initial := by
        simp only [State.reset, Fin.getElem_fin, Vector.getElem_replicate]
        cases y <;> rfl
      rw [this]
      exact ⟨by decide, by decide, by decide, by decide, by decide, by decide, by decide, by decide⟩
    exact State.eyesOk_congr hrx hinit
  | _ => exact hs

/-- Settles O14: every command is a run of turns, and no turn breaks the law of an eye monitor. -/
theorem eyeLawKept : Obligations.EyeLawKept :=
  fun _ _ hs h => step_keeps (P := State.EyesOk) id (fun _ _ hu hv => hv.eyesOk hu) h hs

/-! ### Every command completes -/

theorem State.Turn.pending {s t : State} (h : State.Turn R G c s t) : t.pending = s.pending := by
  cases h with
  | raises owner code detail _ _ =>
    have hm := s.raiseFault_moves owner code detail
    unfold State.ReportMoves at hm
    rw [hm]
  | ends owner code _ _ =>
    have hm := s.endCondition_moves owner code
    unfold State.ReportMoves at hm
    rw [hm]
  | clears n lanes _ _ =>
    have hm := s.clearLeg_moves n lanes
    unfold State.SupervisorMoves at hm
    rw [hm]
  | clearsAll _ =>
    have hm := s.clearAll_moves
    unfold State.SupervisorMoves at hm
    rw [hm]
  | acknowledges _ =>
    have hm := s.acknowledgeShown_moves
    unfold State.ReportMoves at hm
    rw [hm]
  | apart _ _ ha => exact ha.pending
  | resets _ _ _ _ _ _ _ hp => exact hp
  | _ => rfl

/-- Every command answers a next state: no arm faults or refuses. -/
theorem exec_next (cmd : Instr) (s : State) : ∃ t, exec cmd s = .next t := by
  cases cmd
  case frameSilenceExpiry i x => show ∃ t, execFrameSilenceExpiry i x s = _; unfold execFrameSilenceExpiry; split <;> exact ⟨_, rfl⟩
  case answerTimerExpiry i x => show ∃ t, execAnswerTimerExpiry i x s = _; unfold execAnswerTimerExpiry; split <;> exact ⟨_, rfl⟩
  case trainingBudgetExpiry n =>
    show ∃ t, execTrainingBudgetExpiry n s = _; unfold execTrainingBudgetExpiry; split <;> exact ⟨_, rfl⟩
  case backoffExpiry n => show ∃ t, execBackoffExpiry n s = _; unfold execBackoffExpiry; split <;> exact ⟨_, rfl⟩
  case bridgeExpiry n => show ∃ t, execBridgeExpiry n s = _; unfold execBridgeExpiry; split <;> exact ⟨_, rfl⟩
  case cutExpiry n => show ∃ t, execCutExpiry n s = _; unfold execCutExpiry; split <;> exact ⟨_, rfl⟩
  case busRecovery => show ∃ t, execBusRecovery s = _; unfold execBusRecovery; split <;> exact ⟨_, rfl⟩
  case headerChunk p =>
    show ∃ t, execHeaderChunk p s = _
    unfold execHeaderChunk
    split
    · split <;> exact ⟨_, rfl⟩
    · exact ⟨_, rfl⟩
  case legRecordChunk p =>
    show ∃ t, execLegRecordChunk p s = _
    unfold execLegRecordChunk
    split
    · split <;> exact ⟨_, rfl⟩
    · exact ⟨_, rfl⟩
  case ringSlotRead p =>
    show ∃ t, execRingSlotRead p s = _
    unfold execRingSlotRead
    split
    · split <;> exact ⟨_, rfl⟩
    · exact ⟨_, rfl⟩
  case loadChunkTimeout => show ∃ t, execLoadChunkTimeout s = _; unfold execLoadChunkTimeout; split <;> exact ⟨_, rfl⟩
  case reloadLoadStart => show ∃ t, execReloadLoadStart s = _; unfold execReloadLoadStart; split <;> exact ⟨_, rfl⟩
  case recordWritten => show ∃ t, execRecordWritten s = _; unfold execRecordWritten; split <;> exact ⟨_, rfl⟩
  case failureRecordRetry => show ∃ t, execFailureRecordRetry s = _; unfold execFailureRecordRetry; split <;> exact ⟨_, rfl⟩
  case failureRecordTimeout =>
    show ∃ t, execFailureRecordTimeout s = _
    unfold execFailureRecordTimeout
    split
    · split <;> exact ⟨_, rfl⟩
    · exact ⟨_, rfl⟩
  case chunkNotAcknowledged k =>
    show ∃ t, execChunkNotAcknowledged k s = _; unfold execChunkNotAcknowledged; split <;> exact ⟨_, rfl⟩
  all_goals exact ⟨_, rfl⟩

/-- Settles O2: every arm answers a next state, and no turn of it touches the waiting commands. -/
theorem everyCommandCompletes : Obligations.EveryCommandCompletes := by
  intro cmd s
  obtain ⟨t, h⟩ := exec_next cmd s
  exact ⟨t, h, (exec_runs cmd h).keeps (P := fun u => u.pending = s.pending) (fun _ _ hu hv => hv.pending.trans hu) rfl⟩

/-- Settles O1: by the definition of a step. -/
theorem stepRunsFrontCommand : Obligations.StepRunsFrontCommand := by
  intro cmd rest s
  refine ⟨fun h => ?_, fun h => ?_⟩
  · simp [step, h, State.popped]
  · simp [step, h]

end Sys2Proof.Machine
end

section
/-! PROOF. The commands and stored values of the live window: what a clear zeroes, which bytes have an effect, what the control
bytes and the queue commands store, and the acknowledge (R111, R148, R149, R151, R155, R157). -/

namespace Sys2Proof.Machine

/-! ### Loops in which each turn changes its own lane and side alone -/

theorem State.onExchanges_each {α : Type} {P : State → Prop} {f : Lane → Side → State → State} (obs : State → α) (g : α → α)
    {lanes : List Lane} {i : Lane} {x : Side} (hn : lanes.Nodup) (hP : ∀ j ∈ lanes, ∀ y t, P t → P (f j y t))
    (hit : ∀ t, P t → obs (f i x t) = g (obs t))
    (hne : ∀ j ∈ lanes, ∀ y t, (j, y) ≠ (i, x) → P t → obs (f j y t) = obs t) {s : State} (hs : P s) :
    obs (s.onExchanges lanes f) = if i ∈ lanes then g (obs s) else obs s := by
  induction lanes generalizing s with
  | nil => rfl
  | cons j rest ih =>
    obtain ⟨hj, hrest⟩ := List.nodup_cons.1 hn
    have hmem := List.mem_cons_self (a := j) (l := rest)
    have hs1 := hP j hmem .s s hs
    have hs2 := hP j hmem .c _ hs1
    have hi := ih hrest (fun k hk => hP k (List.mem_cons_of_mem j hk)) (fun k hk => hne k (List.mem_cons_of_mem j hk)) hs2
    refine hi.trans ?_
    by_cases hji : i = j
    · subst hji
      rw [if_neg hj, if_pos hmem]
      cases x with
      | s => rw [hne i hmem .c _ (by simp) hs1, hit s hs]
      | c => rw [hit _ hs1, hne i hmem .s s (by simp) hs]
    · have hkeep : obs (f j .c (f j .s s)) = obs s := by
        rw [hne j hmem .c _ (by simp [Ne.symm hji]) hs1, hne j hmem .s s (by simp [Ne.symm hji]) hs]
      rw [hkeep]
      simp [hji]

theorem allLanes_nodup : allLanes.Nodup := by decide

theorem allLegs_nodup : allLegs.Nodup := by decide

theorem State.legLanes_nodup (s : State) (n : LegId) : (s.legLanes n).Nodup := allLanes_nodup.filter _

/-- What each turn does to its own leg record alone, the loop over all legs does to every one. -/
theorem State.onLegs_each (f : Leg → Leg) {legs : List LegId} (hn : legs.Nodup) (s : State) (m : LegId) :
    (legs.foldl (fun t n => t.modLeg n f) s).leg m = if m ∈ legs then f (s.leg m) else s.leg m := by
  induction legs generalizing s with
  | nil => rfl
  | cons n rest ih =>
    obtain ⟨hnr, hrest⟩ := List.nodup_cons.1 hn
    rw [List.foldl_cons, ih hrest]
    by_cases hm : m = n
    · subst hm
      simp [hnr]
    · simp [hm, State.leg_modLeg_ne _ _ hm]

/-! ### Clears (R35, R111, R131, R151) -/

/-- The pairing that stands is one-to-one (R8). -/
def State.PairsApart (s : State) : Prop := ∀ j k : Lane, (s.slice j).pair = (s.slice k).pair → j = k

theorem State.PlanOk.pairsApart {s : State} (h : s.PlanOk) : s.PairsApart := h.2.2.2.2.1

theorem State.PairsApart.congr {s t : State} (h : s.PairsApart) (hs : t.slices = s.slices) : t.PairsApart := by
  unfold State.PairsApart State.slice at *
  rw [hs]
  exact h

theorem State.exch_clearExchange_same (s : State) (i : Lane) (x : Side) :
    (s.clearExchange i x).exch i x = (s.exch i x).cleared := s.exch_modExch_same i x _

theorem State.exch_clearExchange_ne (s : State) {i j : Lane} {x y : Side} (h : (j, y) ≠ (i, x)) :
    (s.clearExchange i x).exch j y = s.exch j y := s.exch_modExch_ne _ h

theorem State.rxPath_clearExchange_same (s : State) (i : Lane) (x : Side) :
    (s.clearExchange i x).rxPath i x = { s.rxPath i x with eye := (s.rxPath i x).eye.cleared } :=
  (s.modExch i x Exchange.cleared).rxPath_modRx_same i x _

theorem State.rxPath_clearExchange_ne (s : State) (hp : s.PairsApart) {i j : Lane} {x y : Side} (h : (j, y) ≠ (i, x)) :
    (s.clearExchange i x).rxPath j y = s.rxPath j y :=
  (s.modExch i x Exchange.cleared).rxPath_modRx_ne (hp.congr rfl) _ h

theorem State.clearExchanges_exch (s : State) {lanes : List Lane} (hn : lanes.Nodup) (i : Lane) (x : Side) :
    (s.onExchanges lanes fun j y t => t.clearExchange j y).exch i x
      = if i ∈ lanes then (s.exch i x).cleared else s.exch i x :=
  State.onExchanges_each (P := fun _ => True) (f := fun j y t => t.clearExchange j y) (fun t => t.exch i x) Exchange.cleared hn
    (fun _ _ _ _ _ => trivial) (fun t _ => t.exch_clearExchange_same i x)
    (fun _ _ _ t hne _ => t.exch_clearExchange_ne (Ne.symm hne)) trivial

theorem State.clearExchanges_rxPath (s : State) (hp : s.PairsApart) {lanes : List Lane} (hn : lanes.Nodup) (i : Lane) (x : Side) :
    (s.onExchanges lanes fun j y t => t.clearExchange j y).rxPath i x
      = if i ∈ lanes then { s.rxPath i x with eye := (s.rxPath i x).eye.cleared } else s.rxPath i x :=
  State.onExchanges_each (P := State.PairsApart) (f := fun j y t => t.clearExchange j y) (fun t => t.rxPath i x)
    (fun r => { r with eye := r.eye.cleared }) hn (fun _ _ _ _ ht => ht.congr rfl)
    (fun t _ => t.rxPath_clearExchange_same i x) (fun _ _ _ t hne ht => t.rxPath_clearExchange_ne ht (Ne.symm hne)) hp

/-- Everything but legs, exchanges, receive paths and report stands through the clears of exchanges. -/
theorem State.clearExchanges_frame (s : State) (lanes : List Lane) :
    s.onExchanges lanes (fun j y t => t.clearExchange j y)
      = { s with ex := (s.onExchanges lanes fun j y t => t.clearExchange j y).ex
                 rx := (s.onExchanges lanes fun j y t => t.clearExchange j y).rx } :=
  State.onExchanges_induct (P := fun t => t = { s with ex := t.ex, rx := t.rx }) _
    (fun i x t ht => by
      have h : t.clearExchange i x = { t with ex := (t.clearExchange i x).ex, rx := (t.clearExchange i x).rx } := rfl
      refine h.trans ?_
      generalize (t.clearExchange i x).ex = ex
      generalize (t.clearExchange i x).rx = rx
      rw [ht]) lanes rfl

theorem State.clearLegs_frame (s : State) (legs : List LegId) (f : Leg → Leg) :
    legs.foldl (fun t n => t.modLeg n f) s = { s with legs := (legs.foldl (fun t n => t.modLeg n f) s).legs } := by
  induction legs generalizing s with
  | nil => rfl
  | cons n rest ih =>
    rw [List.foldl_cons]
    exact (ih _).trans rfl

/-- A change of leg records, exchanges and receive paths followed by the attention line afresh is that and the line alone. -/
theorem State.deriveAttention_onlyReport {s t : State} (h : t = { s with legs := t.legs, ex := t.ex, rx := t.rx }) :
    { s with legs := t.deriveAttention.legs, ex := t.deriveAttention.ex, rx := t.deriveAttention.rx }.OnlyReport
      t.deriveAttention s.report := by
  refine ⟨?_, rfl⟩
  show ({ t with report := { t.report with attention := t.attentionDue } } : State)
    = { s with legs := t.legs, ex := t.ex, rx := t.rx, report := { s.report with attention := t.attentionDue } }
  generalize t.attentionDue = due
  generalize t.legs = legs at h ⊢
  generalize t.ex = ex at h ⊢
  generalize t.rx = rx at h ⊢
  rw [h]

theorem State.clearLeg_spec (s : State) (n : LegId) (hp : s.PairsApart) :
    { s with legs := (s.clearLeg n (s.legLanes n)).legs, ex := (s.clearLeg n (s.legLanes n)).ex
             rx := (s.clearLeg n (s.legLanes n)).rx }.OnlyReport (s.clearLeg n (s.legLanes n)) s.report
      ∧ (∀ m : LegId, (s.clearLeg n (s.legLanes n)).leg m = if m = n then (s.leg m).cleared else s.leg m)
      ∧ ∀ (j : Lane) (y : Side),
          (s.clearLeg n (s.legLanes n)).exch j y = (if s.owner j = some n then (s.exch j y).cleared else s.exch j y)
            ∧ (s.clearLeg n (s.legLanes n)).rxPath j y = { s.rxPath j y with
                eye := if s.owner j = some n then (s.rxPath j y).eye.cleared else (s.rxPath j y).eye } := by
  have hl := State.clearExchanges_frame (s.modLeg n Leg.cleared) (s.legLanes n)
  have hex := (s.modLeg n Leg.cleared).clearExchanges_exch (s.legLanes_nodup n)
  have hrx := (s.modLeg n Leg.cleared).clearExchanges_rxPath (hp.congr rfl) (s.legLanes_nodup n)
  unfold State.clearLeg
  generalize (s.modLeg n Leg.cleared).onExchanges (s.legLanes n) (fun i x t => t.clearExchange i x) = t at hl hex hrx
  refine ⟨State.deriveAttention_onlyReport ?_, fun m => ?_, fun j y => ⟨?_, ?_⟩⟩
  · rw [show t.legs = (s.modLeg n Leg.cleared).legs from (congrArg State.legs hl).trans rfl]
    exact hl
  · have : t.leg m = (s.modLeg n Leg.cleared).leg m := State.leg_congr ((congrArg State.legs hl).trans rfl) m
    rw [State.leg_of_deriveAttention, this]
    split
    · next h => rw [h]; exact s.leg_modLeg_same n _
    · next h => exact s.leg_modLeg_ne _ h
  · rw [State.exch_of_deriveAttention, hex]
    simp only [State.mem_legLanes]
    rfl
  · rw [State.rxPath_of_deriveAttention, hrx]
    simp only [State.mem_legLanes]
    split <;> rfl

theorem State.clearAll_spec (s : State) (hp : s.PairsApart) :
    { s with legs := s.clearAll.legs, ex := s.clearAll.ex, rx := s.clearAll.rx }.OnlyReport s.clearAll s.report
      ∧ (∀ m : LegId, s.clearAll.leg m = (s.leg m).cleared)
      ∧ ∀ (j : Lane) (y : Side), s.clearAll.exch j y = (s.exch j y).cleared
          ∧ s.clearAll.rxPath j y = { s.rxPath j y with eye := (s.rxPath j y).eye.cleared } := by
  have hlegs := s.clearLegs_frame allLegs Leg.cleared
  have hleg := State.onLegs_each Leg.cleared allLegs_nodup s
  unfold State.clearAll
  generalize allLegs.foldl (fun t n => t.modLeg n Leg.cleared) s = u at hlegs hleg
  have hu : u.slices = s.slices := (congrArg State.slices hlegs).trans rfl
  have hl := u.clearExchanges_frame allLanes
  have hex := u.clearExchanges_exch allLanes_nodup
  have hrx := u.clearExchanges_rxPath (hp.congr hu) allLanes_nodup
  generalize u.onExchanges allLanes (fun i x t => t.clearExchange i x) = t at hl hex hrx
  refine ⟨State.deriveAttention_onlyReport ?_, fun m => ?_, fun j y => ⟨?_, ?_⟩⟩
  · rw [show t.legs = u.legs from (congrArg State.legs hl).trans rfl]
    refine hl.trans ?_
    generalize t.ex = ex
    generalize t.rx = rx
    generalize u.legs = legs at hlegs ⊢
    rw [hlegs]
  · have : t.leg m = u.leg m := State.leg_congr ((congrArg State.legs hl).trans rfl) m
    rw [State.leg_of_deriveAttention, this, hleg, if_pos (mem_allLegs m)]
  · rw [State.exch_of_deriveAttention, hex, if_pos (mem_allLanes j), State.exch_congr ((congrArg State.ex hlegs).trans rfl)]
    rfl
  · rw [State.rxPath_of_deriveAttention, hrx, if_pos (mem_allLanes j),
      State.rxPath_congr ((congrArg State.rx hlegs).trans rfl) hu]
    rfl

theorem State.whenOpen_of_open {s : State} (h : s.windowOpen = true) (f : State → State) : s.whenOpen f = f s := if_pos h

theorem State.whenOpen_of_closed {s : State} (h : s.windowOpen = false) (f : State → State) : s.whenOpen f = s := by
  simp [State.whenOpen, h]

/-- Settles O42. -/
theorem clearZeroesCounters : Obligations.ClearZeroesCounters := by
  intro s n k ke km hw hplan hk hke hkm
  obtain rfl : k = Leg.cleared := hk
  obtain rfl : ke = Exchange.cleared := hke
  obtain rfl : km = EyeMonitor.cleared := hkm
  refine ⟨fun hex => ⟨s.clearLeg n (s.legLanes n), ?_, s.clearLeg_spec n hplan.pairsApart⟩, s.clearAll, ?_,
    s.clearAll_spec hplan.pairsApart⟩
  · exact congrArg Host.Outcome.next (s.legCommand_of_open _ hw hex)
  · exact congrArg Host.Outcome.next (State.whenOpen_of_open hw _)

/-! ### What a byte of the live window is (sections 10.1 and 10.2) -/

/-- The command byte of a leg row (section 10.1). -/
def legCommandAddr (n : LegId) : BusAddr := 0x402F + 16 * BitVec.ofNat 16 n.val

theorem legCommandAddr_toNat (n : LegId) : (legCommandAddr n).toNat = 0x402F + 16 * n.val := by revert n; decide

theorem writeKind_legCommandAddr (n : LegId) : writeKind (legCommandAddr n) = .legCommand n := by revert n; decide

theorem eq_legCommandAddr_iff (a : BusAddr) (n : LegId) : a = legCommandAddr n ↔ a.toNat = 0x402F + 16 * n.val := by
  rw [← legCommandAddr_toNat, BitVec.toNat_inj]

/-- The writable and command bytes of rows 0x4010 and 0x4020 on, and of the queue and list rows, and no other byte. -/
theorem writeKind_cases (a : BusAddr) :
    (a.toNat = 0x4010 ∧ writeKind a = .headCommand)
      ∨ ((0x4011 ≤ a.toNat ∧ a.toNat ≤ 0x4015)
        ∧ writeKind a ∈ [WriteKind.viewMode, .viewLeg, .faultMask, .eventMode, .rolloverEnable])
      ∨ (∃ n : LegId, a = legCommandAddr n ∧ writeKind a = .legCommand n)
      ∨ (a.toNat = 0x4214 ∧ writeKind a = .advance) ∨ (a.toNat = 0x4215 ∧ writeKind a = .clearOverrun)
      ∨ (a.toNat = 0x422F ∧ writeKind a = .acknowledge)
      ∨ ((a.toNat < 0x4010 ∨ 0x4015 < a.toNat) ∧ a.toNat ≠ 0x4214 ∧ a.toNat ≠ 0x4215 ∧ a.toNat ≠ 0x422F
        ∧ (∀ n : LegId, a ≠ legCommandAddr n) ∧ writeKind a = .noEffect) := by
  by_cases hleg : ∃ n : LegId, a = legCommandAddr n
  · obtain ⟨n, rfl⟩ := hleg
    exact .inr (.inr (.inl ⟨n, rfl, writeKind_legCommandAddr n⟩))
  · have hno : ¬(a.toNat % 16 = 15 ∧ 0x402 ≤ a.toNat / 16 ∧ a.toNat / 16 - 0x402 < 8) := fun ⟨h1, h2, h3⟩ =>
      hleg ⟨⟨a.toNat / 16 - 0x402, h3⟩, (eq_legCommandAddr_iff _ _).2 (by show a.toNat = _ + 16 * (a.toNat / 16 - 0x402); omega)⟩
    have hne : ∀ n : LegId, a ≠ legCommandAddr n := fun n h => hleg ⟨n, h⟩
    unfold writeKind
    dsimp only
    rw [dif_neg hno]
    split_ifs <;> simp [*]
    all_goals omega

theorem writeHasNoEffect_iff (a : BusAddr) (v : Byte) :
    writeHasNoEffect a v = true ↔
      ¬(a = 0x4010 ∧ 1 ≤ v.toNat ∧ v.toNat ≤ 4) ∧ ¬(0x4011 ≤ a.toNat ∧ a.toNat ≤ 0x4015)
        ∧ (∀ m : LegId, ¬(a = legCommandAddr m ∧ 1 ≤ v.toNat ∧ v.toNat ≤ 4))
        ∧ a ≠ 0x4214 ∧ a ≠ 0x4215 ∧ a ≠ 0x422F := by
  have hv : v = 0 ↔ v.toNat = 0 := by rw [← BitVec.toNat_inj]; rfl
  have ha (k : Nat) (hk : k < 2 ^ 16) : a = BitVec.ofNat 16 k ↔ a.toNat = k := by
    rw [← BitVec.toNat_inj, BitVec.toNat_ofNat, Nat.mod_eq_of_lt hk]
  have h1 : a = 0x4010 ↔ a.toNat = 0x4010 := ha _ (by decide)
  have h2 : a = 0x4214 ↔ a.toNat = 0x4214 := ha _ (by decide)
  have h3 : a = 0x4215 ↔ a.toNat = 0x4215 := ha _ (by decide)
  have h4 : a = 0x422F ↔ a.toNat = 0x422F := ha _ (by decide)
  have hval : decide (v = 0 ∨ 4 < v.toNat) = true ↔ ¬(1 ≤ v.toNat ∧ v.toNat ≤ 4) := by
    rw [decide_eq_true_iff, hv]; omega
  have hfree (hne : a.toNat < 0x402F ∨ 0x402F + 16 * 7 < a.toNat) (m : LegId) : a ≠ legCommandAddr m := fun h => by
    have := (eq_legCommandAddr_iff a m).1 h
    omega
  rw [ne_eq, ne_eq, ne_eq, h1, h2, h3, h4]
  unfold writeHasNoEffect
  rcases writeKind_cases a with ⟨hk, h⟩ | ⟨hk, h⟩ | ⟨n, hn, h⟩ | ⟨hk, h⟩ | ⟨hk, h⟩ | ⟨hk, h⟩ | ⟨hk, k1, k2, k3, hall, h⟩
  · rw [h]
    exact hval.trans ⟨fun hc => ⟨fun hm => hc hm.2, by omega, fun m hm => hfree (.inl (by omega)) m hm.1, by omega, by omega,
      by omega⟩, fun hc hm => hc.1 ⟨hk, hm⟩⟩
  · refine ⟨fun hc => ?_, fun hc => absurd hk hc.2.1⟩
    simp only [List.mem_cons, List.not_mem_nil, or_false] at h
    rcases h with h | h | h | h | h <;> rw [h] at hc <;> cases hc
  · have hnat := (eq_legCommandAddr_iff a n).1 hn
    rw [h]
    exact hval.trans ⟨fun hc => ⟨fun hm => hc hm.2, by omega, fun _ hm => hc hm.2, by omega, by omega, by omega⟩,
      fun hc hm => hc.2.2.1 n ⟨hn, hm⟩⟩
  · rw [h]; simp [hk]
  · rw [h]; simp [hk]
  · rw [h]; simp [hk]
  · rw [h]
    exact ⟨fun _ => ⟨by omega, by omega, fun m hm => hall m hm.1, k1, k2, k3⟩, fun _ => rfl⟩

/-- A byte without an effect leaves the state (R148). -/
theorem State.applyByte_noEffect (s : State) {a : BusAddr} {v : Byte} (h : writeHasNoEffect a v = true) : s.applyByte a v = s := by
  have hval : v = 0 ∨ 4 < v.toNat → v ≠ 1 ∧ v ≠ 2 ∧ v ≠ 3 ∧ v ≠ 4 := by
    rintro (rfl | hv)
    · decide
    · refine ⟨?_, ?_, ?_, ?_⟩ <;> rintro rfl <;> exact absurd hv (by decide)
  unfold writeHasNoEffect at h
  unfold State.applyByte
  split at h
  · next hk => rw [hk]
  · next hk =>
    obtain ⟨h1, h2, h3, h4⟩ := hval (of_decide_eq_true h)
    rw [hk]
    exact (if_neg h1).trans ((if_neg h2).trans ((if_neg h3).trans (if_neg h4)))
  · next hk =>
    obtain ⟨h1, h2, h3, h4⟩ := hval (of_decide_eq_true h)
    rw [hk]
    exact (if_neg h1).trans ((if_neg h2).trans ((if_neg h3).trans (if_neg h4)))
  · cases h

/-! ### Commands without an effect -/

theorem State.legCommand_closed {s : State} (h : s.windowOpen = false) (n : LegId) (f : State → State) : s.legCommand n f = s :=
  State.whenOpen_of_closed h _

theorem State.legCommand_absent {s : State} {n : LegId} (h : s.legExists n = false) (f : State → State) : s.legCommand n f = s := by
  simp [State.legCommand, State.whenOpen, h]

theorem State.legCommand_still {s : State} (n : LegId) {f : State → State} (h : f s = s) : s.legCommand n f = s := by
  simp only [State.legCommand, State.whenOpen, h, ite_self]

theorem exec_windowCommand_closed (s : State) (c : Instr) (hc : isWindowCommand c = true) (hw : s.windowOpen = false) :
    exec c s = .next s := by
  have hopen (f : State → State) : Host.Outcome.next (s.whenOpen f) = (.next s : Host.Outcome State Fault Refusal) :=
    congrArg _ (State.whenOpen_of_closed hw f)
  have hleg (n : LegId) (f : State → State) : Host.Outcome.next (s.legCommand n f) = (.next s : Host.Outcome State Fault Refusal) :=
    congrArg _ (State.legCommand_closed hw n f)
  cases c with
  | retrain n => exact hleg n _
  | park n => exact hleg n _
  | unpark n => exact hleg n _
  | clear n => exact hleg n _
  | reload => exact congrArg Host.Outcome.next (by simp [State.reloadHead, hw])
  | clearEventQueue => exact hopen _
  | clearOverrun => exact hopen _
  | clearAllLegCounters => exact hopen _
  | advance => exact hopen _
  | queueClearOverrun => exact hopen _
  | acknowledge => exact hopen _
  | setViewMode v => exact hopen _
  | setViewLeg v => exact hopen _
  | setFaultAttentionMask v => exact hopen _
  | setEventAttentionMode v => exact hopen _
  | setRolloverAttentionEnable v => exact hopen _
  | liveWindowOtherWrite a v => rfl
  | _ => cases hc

/-- Settles O43. -/
theorem commandsIgnored : Obligations.CommandsIgnored := by
  intro s c n a v
  have hstill (f : State → State) (h : f s = s) : Host.Outcome.next (s.legCommand n f) = (.next s : Host.Outcome State Fault Refusal) :=
    congrArg _ (State.legCommand_still n h)
  refine ⟨exec_windowCommand_closed s c, fun h => ?_, fun h => ⟨hstill _ ?_, hstill _ ?_⟩, fun h => hstill _ ?_, rfl, ?_,
    writeHasNoEffect_iff a v, s.applyByte_noEffect⟩
  · have hnone (f : State → State) : Host.Outcome.next (s.legCommand n f) = (.next s : Host.Outcome State Fault Refusal) :=
      congrArg _ (State.legCommand_absent h f)
    exact ⟨hnone _, hnone _, hnone _, hnone _⟩
  · simp [State.retrainLeg, h]
  · simp [State.parkLeg, h]
  · simp [State.unparkLeg, h]
  · have hleg (w : Byte) : s.applyByte (0x402F + 16 * BitVec.ofNat 16 n.val) w = s.legCommandByte n w := by
      unfold State.applyByte
      rw [show writeKind (0x402F + 16 * BitVec.ofNat 16 n.val) = _ from writeKind_legCommandAddr n]
    simp only [hleg]
    exact ⟨rfl, rfl, rfl, rfl, rfl, rfl, rfl, rfl, rfl, rfl, rfl, rfl, rfl, rfl, rfl, rfl⟩

end Sys2Proof.Machine
end

section
/-! PROOF. What the queue commands, the control bytes, the acknowledge and the head clock change (R149, R155, R157 to R159), that a
read changes the bridge alone (R141), and that a spare lane keeps its signal flags alone (R6). -/

namespace Sys2Proof.Machine

/-! ### The report unit alone -/

/-- The report unit replaced and the attention line derived afresh. -/
theorem State.onlyReport_derive (s : State) (r : Report) : s.OnlyReport (State.deriveAttention { s with report := r }) r :=
  ⟨rfl, rfl⟩

theorem exec_whenOpen {s : State} (h : s.windowOpen = true) (f : State → State) :
    (Host.Outcome.next (s.whenOpen f) : Host.Outcome State Fault Refusal) = .next (f s) :=
  congrArg _ (State.whenOpen_of_open h f)

theorem legOnView_pinned {s : State} (h : s.report.viewPinned = true) : s.legOnView = s.report.viewLeg := by
  simp [State.legOnView, h]

theorem byte_small (v : Byte) {k : Nat} (hk : k < 256) : v = BitVec.ofNat 8 k ↔ v.toNat = k := by
  rw [← BitVec.toNat_inj, BitVec.toNat_ofNat, Nat.mod_eq_of_lt hk]

theorem eventModeOf_of_le {v : Byte} (h : v.toNat ≤ 2) :
    eventModeOf v = some (if v = 0 then .off else if v = 1 then .any else .half) := by
  have h2 : v ≠ 0 → v ≠ 1 → v = 2 := fun h0 h1 => (byte_small v (k := 2) (by decide)).2 (by
    have := mt (byte_small v (k := 0) (by decide)).2 h0
    have := mt (byte_small v (k := 1) (by decide)).2 h1
    omega)
  unfold eventModeOf
  split_ifs with h0 h1 k2
  · rfl
  · rfl
  · rfl
  · exact absurd (h2 h0 h1) k2

theorem eventModeOf_of_gt {v : Byte} (h : 2 < v.toNat) : eventModeOf v = none := by
  unfold eventModeOf
  split_ifs with h0 h1 h2
  · rw [h0] at h; exact absurd h (by decide)
  · rw [h1] at h; exact absurd h (by decide)
  · rw [h2] at h; exact absurd h (by decide)
  · rfl

theorem State.storeViewMode_eq (s : State) (v : Byte) : s.storeViewMode v =
    if v = 0 ∨ v = 1 then { s with report := { s.report with viewPinned := decide (v = 1) } } else s := by
  unfold State.storeViewMode
  by_cases h0 : v = 0
  · simp [h0]
  · by_cases h1 : v = 1
    · simp [h1]
    · rw [if_neg h0, if_neg h1, if_neg fun h => h.elim h0 h1]

theorem State.storeRollover_of_le (s : State) {v : Byte} (h : v.toNat ≤ 1) :
    s.storeRollover v = State.deriveAttention { s with report := { s.report with rolloverEnable := decide (v = 1) } } := by
  unfold State.storeRollover
  by_cases h0 : v = 0
  · simp [h0]
  · have h1 : v = 1 := (byte_small v (k := 1) (by decide)).2 (by
      have := mt (byte_small v (k := 0) (by decide)).2 h0
      omega)
    simp [h1]

theorem State.storeRollover_of_gt (s : State) {v : Byte} (h : 1 < v.toNat) : s.storeRollover v = s := by
  unfold State.storeRollover
  split_ifs with h0 h1
  · rw [h0] at h; exact absurd h (by decide)
  · rw [h1] at h; exact absurd h (by decide)
  · rfl

/-- Settles O46. -/
theorem queueCommandsAndStoredValues : Obligations.QueueCommandsAndStoredValues := by
  intro s v hw
  refine ⟨⟨_, exec_whenOpen hw _, s.onlyReport_derive _⟩, ⟨_, exec_whenOpen hw _, ?_⟩, ⟨_, exec_whenOpen hw _, s.onlyReport_derive _⟩,
    ⟨_, exec_whenOpen hw _, s.onlyReport_derive _⟩, ?_, ⟨_, exec_whenOpen hw _, ?_⟩, ⟨_, exec_whenOpen hw _, ?_, ?_, rfl⟩,
    ⟨_, exec_whenOpen hw _, s.onlyReport_derive _⟩, fun h => ⟨_, exec_whenOpen hw _, ?_⟩, fun h => ?_,
    fun h => ⟨_, exec_whenOpen hw _, ?_⟩, fun h => ?_⟩
  · rw [List.drop_one]
    exact s.onlyReport_derive _
  · exact (exec_whenOpen hw _).trans (congrArg _ (s.storeViewMode_eq v))
  · exact legOnView_pinned rfl
  · exact Nat.mod_eq_of_lt (by omega : min 7 v.toNat < 8)
  · exact fun hp => legOnView_pinned hp
  · simp only [State.storeEventMode, eventModeOf_of_le h]
    exact s.onlyReport_derive _
  · refine (exec_whenOpen hw _).trans (congrArg _ ?_)
    simp only [State.storeEventMode, eventModeOf_of_gt h]
  · rw [s.storeRollover_of_le h]
    exact s.onlyReport_derive _
  · exact (exec_whenOpen hw _).trans (congrArg _ (s.storeRollover_of_gt h))

/-! ### The acknowledge (R155) -/

/-- The shown entry is the first one that is not acknowledged. -/
theorem shownEntry_append {older younger : List FaultEntry} {e : FaultEntry} (ho : ∀ f ∈ older, f.acked = true)
    (he : e.acked = false) : shownEntry (older ++ e :: younger) = some e := by
  unfold shownEntry
  rw [List.find?_append, List.find?_eq_none.2 fun f hf => by simp [ho f hf]]
  simp [he]

theorem shownEntry_acked {older : List FaultEntry} (ho : ∀ f ∈ older, f.acked = true) : shownEntry older = none :=
  List.find?_eq_none.2 fun f hf => by simp [ho f hf]

/-- Among entries of which no two carry one owner and code, the one in the middle is found by them alone. -/
theorem isOf_of_nodup {older younger : List FaultEntry} {e : FaultEntry}
    (h : ((older ++ e :: younger).map fun f => (f.owner, f.code)).Nodup) :
    (∀ f ∈ older, f.isOf e.owner e.code = false) ∧ ∀ f ∈ younger, f.isOf e.owner e.code = false := by
  rw [List.map_append, List.map_cons] at h
  obtain ⟨-, h2, h3⟩ := List.nodup_append.1 h
  obtain ⟨hy, -⟩ := List.nodup_cons.1 h2
  refine ⟨fun f hf => Bool.eq_false_iff.2 fun hk => ?_, fun f hf => Bool.eq_false_iff.2 fun hk => hy ?_⟩ <;>
    obtain ⟨ko, kc⟩ := (f.isOf_iff _ _).1 hk
  · exact h3 _ (List.mem_map.2 ⟨f, hf, rfl⟩) _ List.mem_cons_self (Prod.ext ko kc)
  · exact List.mem_map.2 ⟨f, hf, Prod.ext ko kc⟩

theorem acknowledgeIn_active {older younger : List FaultEntry} {e : FaultEntry}
    (h : ((older ++ e :: younger).map fun f => (f.owner, f.code)).Nodup) (ha : e.active = true) :
    acknowledgeIn (older ++ e :: younger) e = older ++ { e with acked := true } :: younger := by
  obtain ⟨h1, h2⟩ := isOf_of_nodup h
  have hself : e.isOf e.owner e.code = true := (e.isOf_iff _ _).2 ⟨rfl, rfl⟩
  have hkeep : ∀ l : List FaultEntry, (∀ f ∈ l, f.isOf e.owner e.code = false) →
      l.map (fun f => if f.isOf e.owner e.code then { f with acked := true } else f) = l := fun l hl =>
    (List.map_congr_left fun f hf => by rw [hl f hf]; rfl).trans (List.map_id l)
  rw [acknowledgeIn, if_pos ha, List.map_append, List.map_cons, hkeep _ h1, hkeep _ h2, if_pos hself]

theorem acknowledgeIn_cleared {older younger : List FaultEntry} {e : FaultEntry}
    (h : ((older ++ e :: younger).map fun f => (f.owner, f.code)).Nodup) (ha : e.active = false) :
    acknowledgeIn (older ++ e :: younger) e = older ++ younger := by
  obtain ⟨h1, h2⟩ := isOf_of_nodup h
  have hself : e.isOf e.owner e.code = true := (e.isOf_iff _ _).2 ⟨rfl, rfl⟩
  have hkeep : ∀ l : List FaultEntry, (∀ f ∈ l, f.isOf e.owner e.code = false) →
      l.filter (fun f => !f.isOf e.owner e.code) = l := fun l hl => List.filter_eq_self.2 fun f hf => by rw [hl f hf]; rfl
  rw [acknowledgeIn, ha, if_neg (by simp), List.filter_append, List.filter_cons_of_neg (by simp [hself]), hkeep _ h1, hkeep _ h2]

/-- Settles O45. -/
theorem acknowledgeActsOnShownEntry : Obligations.AcknowledgeActsOnShownEntry := by
  intro s older younger e hw hok ho
  have hnd := hok.2.1
  refine ⟨fun hf => ?_, fun hf he ha => ⟨_, exec_whenOpen hw _, ?_⟩, fun hf he ha => ⟨_, exec_whenOpen hw _, ?_⟩⟩
  · refine (exec_whenOpen hw _).trans (congrArg _ ?_)
    unfold State.acknowledgeShown
    rw [hf, shownEntry_acked ho]
  · rw [hf] at hnd
    unfold State.acknowledgeShown
    simp only [hf, shownEntry_append ho he, ha, if_true, acknowledgeIn_active hnd ha, Bool.and_true]
    exact s.onlyReport_derive _
  · rw [hf] at hnd
    unfold State.acknowledgeShown
    simp only [hf, shownEntry_append ho he, ha, Bool.false_eq_true, if_false, acknowledgeIn_cleared hnd ha, Bool.and_false]
    refine ⟨rfl, rfl, ?_, rfl⟩
    exact List.mem_append_right _ (List.mem_singleton.2 rfl)

/-! ### The head clock (R158) -/

/-- Settles O39. -/
theorem headClockRises : Obligations.HeadClockRises := by
  intro s hr
  refine ⟨s.tick, ?_, ?_, rfl, ?_⟩
  · show Host.Outcome.next (if s.resetHeld then s else s.tick) = _
    rw [hr]
    rfl
  · exact BitVec.toNat_add _ _
  · show s.now < (s.now / 1000 + 1) * 1000
    omega

/-! ### Reads (R141) -/

/-- What moves in the bridge alone gives the state with another bridge. -/
theorem State.BridgeMoves.eq {s t : State} (h : s.BridgeMoves t) : t = { s with bridge := t.bridge } := h

/-- Settles O18. -/
theorem readsChangeTheBridgeAlone : Obligations.ReadsChangeTheBridgeAlone := by
  intro c s hc
  cases c with
  | currentAddressRead answer =>
    refine ⟨(s.readAddress answer).bridge, congrArg Host.Outcome.next (State.BridgeMoves.eq (t := s.readAddress answer) ?_)⟩
    unfold State.readAddress
    split
    · exact s.beginRead_moves answer
    · rfl
  | forwardedReadByte v ack => exact ⟨_, congrArg Host.Outcome.next (State.BridgeMoves.eq (s.forwardedByte_moves v ack))⟩
  | servedReadByte ack => exact ⟨_, congrArg Host.Outcome.next (State.BridgeMoves.eq (s.servedByte_moves ack))⟩
  | _ => cases hc

/-! ### Spare lanes (R6) -/

theorem State.takeRecord_spare (s : State) {i : Lane} (x : Side) (eye rp rq : BitVec 7) (h : s.owner i = none) :
    s.takeRecord i x eye rp rq = s := by
  unfold State.takeRecord
  rw [h]

theorem State.arrive_spare (s : State) {i : Lane} (x : Side) (w : ControlWord) (h : s.owner i = none) : s.arrive i x w = s := by
  unfold State.arrive
  rw [h]

theorem State.endCountZero_spare (s : State) {i : Lane} (x : Side) (h : s.owner i = none) : s.endCountZero i x = s := by
  unfold State.endCountZero
  rw [h]

/-- Settles O19. -/
theorem spareLaneDiscards : Obligations.SpareLaneDiscards := by
  intro s i x a w eye rp rq ho hq hr
  refine ⟨fun b => ?_, congrArg _ (s.takeRecord_spare x eye rp rq ho), congrArg _ (s.arrive_spare x w ho),
    congrArg _ (s.arrive_spare x w ho), congrArg _ (s.arrive_spare x w ho), ?_, ?_, ?_, ?_⟩
  · cases b
    · show Host.Outcome.next (if s.resetHeld then s else (s.reach a).loseSignal i x) = _
      rw [if_neg (by simp [hr])]
      simp only [State.loseSignal, State.owner_of_reach, ho]
      rfl
    · show Host.Outcome.next (if s.resetHeld then s else (s.reach a).regainSignal i x) = _
      rw [if_neg (by simp [hr])]
      simp only [State.regainSignal, State.owner_of_reach, ho]
      rfl
  · refine congrArg Host.Outcome.next ?_
    unfold State.startInterval
    simp only [s.endCountZero_spare x ho, hq]
  · exact congrArg Host.Outcome.next (s.endCountZero_spare x ho)
  · show execFrameSilenceExpiry i x s = _
    simp [execFrameSilenceExpiry, State.watchRunning, hq]
  · show execAnswerTimerExpiry i x s = _
    simp [execAnswerTimerExpiry, State.answerRunning, hq]

end Sys2Proof.Machine
end

section
/-! PROOF. The arbiter and the phases of a switch transaction (R137 to R145): who is given the port, what the address byte, the word
address, the written bytes and the STOP do. -/

namespace Sys2Proof.Machine

/-! ### The arbiter (R144) -/

theorem State.switchStarts_free {s : State} (hr : s.resetHeld = false) (hp : s.bridge.txn.phase = .none)
    (hb : s.bridge.port = .free) : s.switchStarts = s.beginTxn .bridge .address := by
  simp [State.switchStarts, hr, hp, hb]

theorem State.switchStarts_held {s : State} {job : AgentJob} (hr : s.resetHeld = false) (hp : s.bridge.txn.phase = .none)
    (hb : s.bridge.port = .agent job) : s.switchStarts = s.beginTxn (.agent job) .held := by
  simp [State.switchStarts, hr, hp, hb]

theorem State.givePort_free {s : State} (hr : s.resetHeld = false) (hp : s.bridge.txn.phase = .held)
    (hb : s.bridge.port = .free) : s.givePort = s.beginTxn .bridge .address := by
  simp [State.givePort, hr, hp, hb]

theorem State.givePort_taken {s : State} {job : AgentJob} (hp : s.bridge.txn.phase = .held)
    (hb : s.bridge.port = .agent job) : s.givePort = s := by
  simp [State.givePort, hp, hb]

/-- Settles O47. -/
theorem arbiterGrantsThePort : Obligations.ArbiterGrantsThePort := by
  intro s job hr
  refine ⟨fun hp hb => ⟨_, congrArg Host.Outcome.next (State.switchStarts_free hr hp hb), rfl, rfl, rfl⟩,
    fun hp hb => ⟨_, congrArg Host.Outcome.next (State.switchStarts_held hr hp hb), rfl, rfl, rfl⟩,
    fun hp hb => ⟨?_, _, congrArg Host.Outcome.next (State.givePort_free hr hp hb), rfl, rfl, rfl⟩,
    fun hp hb => congrArg Host.Outcome.next (State.givePort_taken hp hb), fun hp hb hj => ⟨s.startJob job, ?_, rfl, rfl, rfl, rfl⟩,
    fun hb => ?_⟩ <;> refine congrArg Host.Outcome.next ?_
  · simp [State.agentTakes, hp]
  · simp [State.agentTakes, hp, hb, hr, hj]
  · simp [State.agentTakes, hb]

/-! ### The address byte (R137, R139, R140, R145) -/

theorem State.beginWrite_loading {s : State} (h : s.head = .loading) (memAck : Bool) :
    s.beginWrite memAck = s.endTxn [] .nack := by
  simp [State.beginWrite, h]

theorem State.beginWrite_noMemory {s : State} (h : s.head = .noMemory) (memAck : Bool) :
    s.beginWrite memAck = ((s.setPhase .wordAddress).drive []).answer .ack := by
  simp [State.beginWrite, h]

/-- The memory acknowledges its address byte, and the word address is awaited. -/
def State.opensWrite (s : State) : State :=
  ((State.setPhase { s with bridge := { s.bridge with memOpen := true } } .wordAddress).drive [.start, .send 0xA8]).answer .ack

theorem State.beginWrite_memory {s : State} (h : s.head ≠ .loading) (k : s.head ≠ .noMemory) (memAck : Bool) :
    s.beginWrite memAck = if memAck then s.opensWrite else s.endTxn [.start, .send 0xA8, .stop] .nack := by
  unfold State.beginWrite
  split
  · next e => exact absurd e h
  · next e => exact absurd e k
  · rfl

/-- What a transaction that ends leaves where nothing stands open at the memory outside LOADING. -/
theorem State.endTxn_memOpen {s : State} (h : s.head ≠ .loading → s.bridge.memOpen = false) (acts : List MemAct) (a : SwitchAnswer) :
    (s.endTxn acts a).bridge.memOpen = s.bridge.memOpen := by
  show (s.bridge.memOpen && s.head == .loading) = s.bridge.memOpen
  by_cases hl : s.head = .loading
  · simp [hl]
  · simp [h hl]

theorem State.endTxn_port {s : State} (h : s.bridge.port = .bridge) (acts : List MemAct) (a : SwitchAnswer) :
    (s.endTxn acts a).bridge.port = .free := by
  show s.bridge.port.afterBridge = .free
  rw [h]
  rfl

/-- Settles O48. -/
theorem addressByteOfWrite : Obligations.AddressByteOfWrite := by
  intro s memAck hp hb hm
  have hw : exec (.writeAddressPhase memAck) s = .next (s.beginWrite memAck) :=
    congrArg Host.Outcome.next (if_pos hp)
  have ho : exec .addressNotForMemory s = .next (s.endTxn [] .nack) := congrArg Host.Outcome.next (if_pos hp)
  refine ⟨⟨_, hw, s.beginWrite_moves memAck, ?_⟩,
    _, ho, rfl, rfl, State.endTxn_port hb _ _, rfl, rfl, rfl, rfl, State.endTxn_memOpen hm _ _⟩
  by_cases hl : s.head = .loading
  · rw [State.beginWrite_loading hl, if_pos (.inl hl), if_pos (.inl hl)]
    exact ⟨fun _ => State.endTxn_memOpen hm _ _, rfl, rfl, ⟨rfl, State.endTxn_port hb _ _, rfl⟩, rfl⟩
  · by_cases hn : s.head = .noMemory
    · rw [State.beginWrite_noMemory hn, if_neg (by simp [hn]), if_pos (.inr hn)]
      exact ⟨fun h => absurd h hl, rfl, rfl, ⟨rfl, hb, rfl⟩, rfl⟩
    · rw [State.beginWrite_memory hl hn, if_neg (c := _ ∨ s.head = .noMemory) (by simp [hl, hn])]
      cases memAck with
      | true => exact ⟨fun h => absurd h hl, rfl, rfl, by simp [hl]; exact ⟨rfl, hb, rfl⟩, rfl⟩
      | false =>
        exact ⟨fun h => absurd h hl, rfl, rfl, by simp [hl, hn]; exact ⟨rfl, State.endTxn_port hb _ _, rfl⟩, rfl⟩

/-! ### The word address (R138, R139, R145) -/

/-- The data phase of a write in the space of an address, by the borders of the spaces. -/
theorem writePhase_spaceOf (a : BusAddr) : (spaceOf a).writePhase =
    if a.toNat < 0x4000 then .writeMemory else if a.toNat < 0x4400 then .writeLive else .writeVoid := by
  unfold spaceOf
  split_ifs <;> rfl

theorem toNat_append_bytes (high low : Byte) : (high ++ low : BusAddr).toNat = 256 * high.toNat + low.toNat := by
  rw [BitVec.toNat_append, ← Nat.shiftLeft_add_eq_or_of_lt low.isLt, Nat.shiftLeft_eq]
  omega

theorem wordBytes_append (high low : Byte) : wordBytes (high ++ low) = [.send high, .send low] := by
  have h1 : (high ++ low : BusAddr).extractLsb' 8 8 = high := by
    apply BitVec.eq_of_toNat_eq
    rw [BitVec.extractLsb'_toNat, toNat_append_bytes, Nat.shiftRight_eq_div_pow]
    have := high.isLt
    have := low.isLt
    omega
  have h2 : (high ++ low : BusAddr).extractLsb' 0 8 = low := by
    apply BitVec.eq_of_toNat_eq
    rw [BitVec.extractLsb'_toNat, toNat_append_bytes, Nat.shiftRight_eq_div_pow]
    have := low.isLt
    omega
  rw [wordBytes, h1, h2]

theorem memoryPointer_eq (a : BusAddr) : memoryPointer a = BitVec.ofNat 14 a.toNat := by
  apply BitVec.eq_of_toNat_eq
  simp [memoryPointer, BitVec.extractLsb'_toNat]

theorem memoryPointer_mod (a : BusAddr) : memoryPointer a = BitVec.ofNat 14 (a.toNat % 0x4000) := by
  rw [memoryPointer_eq]
  apply BitVec.eq_of_toNat_eq
  simp

theorem State.wordArrives_runOn {s : State} (hp : s.bridge.txn.phase = .wordAddress) (hr : s.bridge.txn.runOn = true)
    (high low : WordByte) :
    s.wordArrives high low = ((s.setPhase (spaceOf s.bridge.combined).writePhase).drive []).answer .ack := by
  simp [State.wordArrives, hp, hr]

theorem State.wordArrives_acked {s : State} (hp : s.bridge.txn.phase = .wordAddress) (hr : s.bridge.txn.runOn = false)
    (high low : Byte) : s.wordArrives ⟨high, true⟩ ⟨low, true⟩ = s.setPointers (high ++ low) := by
  simp [State.wordArrives, hp, hr]

theorem State.wordArrives_unforwarded {s : State} (hp : s.bridge.txn.phase = .wordAddress) (hr : s.bridge.txn.runOn = false)
    (hm : s.bridge.memOpen = false) (high low : WordByte) :
    s.wordArrives high low = s.setPointers (high.value ++ low.value) := by
  simp [State.wordArrives, hp, hr, hm]

theorem State.wordArrives_refused {s : State} (hp : s.bridge.txn.phase = .wordAddress) (hr : s.bridge.txn.runOn = false)
    (hm : s.bridge.memOpen = true) (high low : Byte) {ackHigh ackLow : Bool} (h : ackHigh = false ∨ ackLow = false) :
    s.wordArrives ⟨high, ackHigh⟩ ⟨low, ackLow⟩
      = s.endAbnormally ([.send high] ++ if ackHigh then [.send low] else []) := by
  cases ackHigh with
  | false => simp [State.wordArrives, hp, hr, hm]
  | true =>
    obtain rfl := h.resolve_left (by simp)
    simp [State.wordArrives, hp, hr, hm]

/-- An abnormal end while the memory side is open (R138): its STOP goes out, and the mirror is unknown. -/
theorem State.endAbnormally_open {s : State} (hm : s.bridge.memOpen = true) (hr : s.bridge.txn.runOn = false)
    (hh : s.head ≠ .loading) (acts : List MemAct) :
    s.endAbnormally acts = s.mirrorUnknown.endTxn (acts ++ [.stop]) .nack ∧ (s.endAbnormally acts).bridge.memOpen = false := by
  have h : s.endAbnormally acts = s.mirrorUnknown.endTxn (acts ++ [.stop]) .nack := by
    simp [State.endAbnormally, State.closing, hm, hr, hh]
  refine ⟨h, ?_⟩
  rw [h]
  show (s.bridge.memOpen && s.head == .loading) = false
  simp [hh]

theorem State.setPointers_closed {s : State} (hm : s.bridge.memOpen = false) (a : BusAddr) :
    s.setPointers a = (((State.setPhase { s with bridge := { s.bridge with combined := a } }
      (spaceOf a).writePhase).answer .ack).drive []) := by
  simp [State.setPointers, hm]

theorem State.setPointers_open {s : State} (hm : s.bridge.memOpen = true) (hn : s.head ≠ .noMemory) (a : BusAddr) :
    s.setPointers a = { s with bridge := { s.bridge with
      combined := a, mirror := some (memoryPointer a), memOpen := decide (a.toNat < 0x4000)
      txn := { s.bridge.txn with phase := (spaceOf a).writePhase }, toSwitch := .ack
      toMemory := if a.toNat < 0x4000 then wordBytes a else wordBytes a ++ [.stop] } } := by
  unfold State.setPointers State.moveMirror spaceOf
  by_cases ha : a.toNat < 0x4000
  · simp [hm, hn, ha, State.setPhase, State.answer, State.drive]
  · by_cases hb : a.toNat < 0x4400 <;> simp [hm, hn, ha, hb, State.setPhase, State.answer]

/-- Settles O49. -/
theorem wordAddressSetsPointers : Obligations.WordAddressSetsPointers := by
  intro s high low ackHigh ackLow a hp ha
  have hnat : (high ++ low : BusAddr).toNat = a := (toNat_append_bytes high low).trans ha.symm
  refine ⟨fun hr hm hn => ?_, fun hr hm hh hack => ?_, fun hr hm => ?_, fun hr => ?_⟩
  · refine ⟨_, congrArg Host.Outcome.next ((State.wordArrives_acked hp hr high low).trans (State.setPointers_open hm hn _)), rfl,
      hnat, ?_, rfl, ?_⟩
    · rw [← hnat]
      exact congrArg some (memoryPointer_mod _)
    · simp only [hnat, writePhase_spaceOf, wordBytes_append]
      by_cases h1 : a < 0x4000 <;> simp [h1]
  · obtain ⟨he, ho⟩ := State.endAbnormally_open hm hr hh ([.send high] ++ if ackHigh then [.send low] else [])
    have hw := State.wordArrives_refused hp hr hm high low hack
    refine ⟨_, congrArg Host.Outcome.next (hw.trans he), rfl, rfl, rfl, rfl, rfl, rfl, he ▸ ho, rfl⟩
  · refine ⟨_, congrArg Host.Outcome.next ((State.wordArrives_unforwarded hp hr hm _ _).trans (State.setPointers_closed hm _)),
      rfl, hnat, rfl, rfl, rfl⟩
  · refine ⟨_, congrArg Host.Outcome.next (State.wordArrives_runOn hp hr _ _), rfl, rfl, rfl, rfl, rfl, ?_⟩
    rw [← writePhase_spaceOf]
    rfl

/-! ### The STOP (R139, R143, R144) -/

theorem State.stopTxn_eq {s : State} (hp : s.bridge.txn.phase ≠ .none) (hh : s.bridge.txn.phase ≠ .held) :
    s.stopTxn = (s.leaveWordAddress.endTxn s.closing .nothing).applyBytes s.bridge.txn.buffer := by
  unfold State.stopTxn
  split
  · next e => exact absurd e hp
  · next e => exact absurd e hh
  · rfl

/-- Settles O54. -/
theorem stopAppliesBufferInOrder : Obligations.StopAppliesBufferInOrder := by
  intro s b rest u hb hu hp
  have hend : s.leaveWordAddress.endTxn s.closing .nothing = u := by
    rw [hu]
    unfold State.leaveWordAddress State.closing
    by_cases hw : s.bridge.txn.phase = .wordAddress ∧ s.bridge.memOpen = true
    · simp only [hw, and_self, if_true, State.endTxn, State.mirrorUnknown, hb]
      cases s.bridge.txn.runOn <;> by_cases hl : s.head = .loading <;> simp [hl, Port.afterBridge]
    · simp only [hw, if_false, State.endTxn, hb]
      cases s.bridge.memOpen <;> cases s.bridge.txn.runOn <;> by_cases hl : s.head = .loading <;> simp [hl, Port.afterBridge]
  have hstop : s.stopTxn = u.applyBytes s.bridge.txn.buffer := by
    rw [← hend]
    exact State.stopTxn_eq (by rcases hp with h | h | h | h | h | h | h <;> rw [h] <;> decide)
      (by rcases hp with h | h | h | h | h | h | h <;> rw [h] <;> decide)
  refine ⟨fun he => congrArg Host.Outcome.next (hstop.trans ?_), fun he => congrArg Host.Outcome.next (hstop.trans ?_)⟩
  · rw [he]
    rfl
  · rw [he]
    rfl

end Sys2Proof.Machine
end

section
/-! PROOF. The bytes that a switch transaction writes, by space (R138, R139, R142, R143, R145), and the current-address read (R140,
R145). -/

namespace Sys2Proof.Machine

/-! ### The snoop (R142) -/

theorem mirroredAt_header {a : BusAddr} (h : a.toNat < 0x40) :
    mirroredAt a = .header ⟨a.toNat % 64, Nat.mod_lt _ (by decide)⟩ := if_pos h

theorem mirroredAt_leg {a : BusAddr} (h : ¬a.toNat < 0x40) (k : a.toNat / 64 - 1 < 8) :
    mirroredAt a = .leg ⟨a.toNat / 64 - 1, k⟩ ⟨a.toNat % 64, Nat.mod_lt _ (by decide)⟩ := (if_neg h).trans (dif_pos k)

theorem mirroredAt_nowhere {a : BusAddr} (h : ¬a.toNat < 0x40) (k : ¬a.toNat / 64 - 1 < 8) : mirroredAt a = .nowhere :=
  (if_neg h).trans (dif_neg k)

theorem State.snoop_pendingHeader (s : State) (a : BusAddr) (v : Byte) (k : Fin 64) :
    (s.snoop a v).pendingHeader[k] = if a.toNat = k.val then v else s.pendingHeader[k] := by
  have hk := k.isLt
  unfold State.snoop
  by_cases h : a.toNat < 0x40
  · rw [mirroredAt_header h]
    simp only [Fin.getElem_fin, Vector.getElem_set, Nat.mod_eq_of_lt h]
  · have hne : a.toNat ≠ k.val := by omega
    rw [if_neg hne]
    by_cases h8 : a.toNat / 64 - 1 < 8
    · rw [mirroredAt_leg h h8]
      rfl
    · rw [mirroredAt_nowhere h h8]

theorem State.snoop_pendingLegs (s : State) (a : BusAddr) (v : Byte) (n : LegId) (k : Fin 64) :
    ((s.snoop a v).pendingLegs[n])[k] = if a.toNat = 64 + 64 * n.val + k.val then v else (s.pendingLegs[n])[k] := by
  have hk := k.isLt
  have hn := n.isLt
  unfold State.snoop
  by_cases h : a.toNat < 0x40
  · rw [mirroredAt_header h, if_neg (by omega)]
  · by_cases h8 : a.toNat / 64 - 1 < 8
    · rw [mirroredAt_leg h h8]
      show ((s.pendingLegs.set (a.toNat / 64 - 1) (s.pendingLegs[a.toNat / 64 - 1].set (a.toNat % 64) v _) h8)[n])[k] = _
      simp only [Fin.getElem_fin, Vector.getElem_set]
      by_cases hm : a.toNat / 64 - 1 = n.val
      · simp only [hm, if_true, Vector.getElem_set]
        have hiff : a.toNat % 64 = k.val ↔ a.toNat = 64 + 64 * n.val + k.val := by omega
        simp only [hiff]
      · simp only [hm, if_false]
        exact (if_neg (by omega)).symm
    · rw [mirroredAt_nowhere h h8, if_neg (by omega)]

/-- A byte copied into a leg's pending record derives that leg's pending-differs flag afresh, and touches no other (R98). -/
theorem State.snoop_leg (s : State) (a : BusAddr) (v : Byte) (n : LegId) :
    (∃ b : Bool, (s.snoop a v).leg n = { s.leg n with differs := b })
      ∧ (a.toNat / 64 = n.val + 1 →
          (((s.snoop a v).leg n).differs = true ↔ (s.leg n).source ≠ some (s.snoop a v).pendingLegs[n])) := by
  have hn := n.isLt
  unfold State.snoop
  by_cases h : a.toNat < 0x40
  · rw [mirroredAt_header h]
    exact ⟨⟨_, rfl⟩, fun hd => by omega⟩
  · by_cases h8 : a.toNat / 64 - 1 < 8
    · rw [mirroredAt_leg h h8]
      dsimp only
      generalize hu : ({ s with pendingLegs := _ } : State) = u
      have hl : u.leg n = s.leg n := by rw [← hu]; rfl
      by_cases hm : n = ⟨a.toNat / 64 - 1, h8⟩
      · rw [← hm]
        have he : (u.refreshDiffers n).leg n = { u.leg n with differs := pendingDiffers u.pendingLegs[n] (u.leg n).source } :=
          u.leg_modLeg_same n _
        rw [he, hl]
        refine ⟨⟨_, rfl⟩, fun _ => ?_⟩
        show (s.leg n).source != some u.pendingLegs[n] ↔ _
        exact bne_iff_ne
      · have he : (u.refreshDiffers ⟨a.toNat / 64 - 1, h8⟩).leg n = u.leg n := u.leg_modLeg_ne _ hm
        rw [he, hl]
        exact ⟨⟨_, rfl⟩, fun hd => absurd (Fin.ext (by show n.val = a.toNat / 64 - 1; omega)) hm⟩
    · rw [mirroredAt_nowhere h h8]
      exact ⟨⟨_, rfl⟩, fun hd => by omega⟩

/-- Only the pending copies and pending-differs flags differ after a snoop. -/
theorem State.snoop_bridge (s : State) (a : BusAddr) (v : Byte) : (s.snoop a v).bridge = s.bridge := by
  unfold State.snoop
  split <;> rfl

/-! ### Bytes written (R138, R139, R142, R143, R145) -/

theorem spaceOf_memory_iff (a : BusAddr) : spaceOf a = .memory ↔ a.toNat < 0x4000 := by
  unfold spaceOf
  split_ifs <;> simp [*]

theorem spaceOf_live_iff (a : BusAddr) : spaceOf a = .live ↔ 0x4000 ≤ a.toNat ∧ a.toNat < 0x4400 := by
  unfold spaceOf
  split_ifs <;> simp [*]
  all_goals omega

theorem spaceOf_void_iff (a : BusAddr) : spaceOf a = .void ↔ 0x4400 ≤ a.toNat := by
  unfold spaceOf
  split_ifs <;> simp [*]
  all_goals omega

theorem State.writtenByte_phase {s : State} {phase : TxnPhase} (hr : s.bridge.txn.runOn = false) (hp : s.bridge.txn.phase = phase)
    (take : State → State) : s.writtenByte phase take = take s := by
  rw [State.writtenByte_of_not_runOn s phase take hr, if_pos hp]

theorem nextWrite_memory {a : BusAddr} (h : spaceOf a = .memory) : (nextWrite a).toNat = a.toNat / 64 * 64 + (a.toNat + 1) % 64 := by
  rw [nextWrite_toNat, if_pos ((spaceOf_memory_iff a).1 h)]

theorem nextWrite_live {a : BusAddr} (h : spaceOf a = .live) :
    (nextWrite a).toNat = if a.toNat = 0x43FF then 0x4000 else a.toNat + 1 := by
  obtain ⟨h1, h2⟩ := (spaceOf_live_iff a).1 h
  rw [nextWrite_toNat, if_neg (by omega), if_neg (c := a.toNat = 0xFFFF) (by omega)]

theorem nextWrite_void {a : BusAddr} (h : spaceOf a = .void) :
    (nextWrite a).toNat = if a.toNat = 0xFFFF then 0x4400 else a.toNat + 1 := by
  have h1 := (spaceOf_void_iff a).1 h
  rw [nextWrite_toNat, if_neg (by omega), if_neg (c := a.toNat = 0x43FF) (by omega)]

/-- A forwarded byte is snooped, and both pointers move within their page. -/
theorem State.forwardByte_eq (s : State) (v : Byte) : s.forwardByte v = { s.snoop s.bridge.combined v with
    bridge := { s.bridge with combined := nextWrite s.bridge.combined, mirror := s.bridge.mirror.map pageNext
                              toMemory := [.send v], toSwitch := .ack } } := by
  have hb := s.snoop_bridge s.bridge.combined v
  unfold State.forwardByte
  generalize s.snoop s.bridge.combined v = u at hb
  rw [← hb]
  rfl

/-- Settles O50. -/
theorem writtenByteBySpace : Obligations.WrittenByteBySpace := by
  intro s v ack a ha hspace
  have hmem : s.bridge.txn.phase = .writeMemory → spaceOf s.bridge.combined = .memory := fun hp => by
    rcases hspace with h | h | h
    · exact h.1
    · exact absurd (h.2.symm.trans hp) (by decide)
    · exact absurd (h.2.symm.trans hp) (by decide)
  have hlive : s.bridge.txn.phase = .writeLive → spaceOf s.bridge.combined = .live := fun hp => by
    rcases hspace with h | h | h
    · exact absurd (h.2.symm.trans hp) (by decide)
    · exact h.1
    · exact absurd (h.2.symm.trans hp) (by decide)
  have hvoid : s.bridge.txn.phase = .writeVoid → spaceOf s.bridge.combined = .void := fun hp => by
    rcases hspace with h | h | h
    · exact absurd (h.2.symm.trans hp) (by decide)
    · exact absurd (h.2.symm.trans hp) (by decide)
    · exact h.1
  have hwrites : s.bridge.txn.phase.writes = true := by rcases hspace with h | h | h <;> rw [h.2] <;> rfl
  subst ha
  refine ⟨fun hr hp hm => ?_, fun hr hp hm hh => ?_, fun hr hp hn hm => ?_, fun hr hp => ?_, fun hr hp => ?_, fun hr c hc => ?_⟩
  · have hd : exec (.memoryWriteByte v true) s = .next (s.forwardByte v) :=
      congrArg Host.Outcome.next ((State.writtenByte_phase hr hp _).trans (by simp [State.takeMemoryByte, hm]))
    have hheader := s.snoop_pendingHeader s.bridge.combined v
    have hlegs := s.snoop_pendingLegs s.bridge.combined v
    have hleg := s.snoop_leg s.bridge.combined v
    rw [State.forwardByte_eq] at hd
    generalize s.snoop s.bridge.combined v = u at hd hheader hlegs hleg
    exact ⟨_, hd, rfl, rfl, nextWrite_memory (hmem hp), rfl, hheader, hlegs, fun n => (hleg n).2, fun n => (hleg n).1⟩
  · obtain ⟨he, ho⟩ := State.endAbnormally_open hm hr hh [.send v]
    refine ⟨_, congrArg Host.Outcome.next ((State.writtenByte_phase hr hp _).trans (.trans ?_ he)), rfl, rfl, rfl, rfl, rfl, rfl,
      rfl, he ▸ ho⟩
    simp [State.takeMemoryByte, hm]
  · refine ⟨s.discardByte, congrArg Host.Outcome.next ((State.writtenByte_phase hr hp _).trans ?_), rfl, rfl, rfl,
      nextWrite_memory (hmem hp), rfl, rfl⟩
    simp [State.takeMemoryByte, hm]
  · exact ⟨s.takeLiveByte v, congrArg Host.Outcome.next (State.writtenByte_phase hr hp _), rfl, rfl, nextWrite_live (hlive hp), rfl,
      rfl⟩
  · exact ⟨s.discardByte, congrArg Host.Outcome.next (State.writtenByte_phase hr hp _), rfl, rfl, nextWrite_void (hvoid hp), rfl, rfl⟩
  · refine ⟨s.discardByte, ?_, rfl, rfl, rfl, nextWrite_toNat _, rfl, rfl, rfl, rfl⟩
    have hrun (phase : TxnPhase) (take : State → State) := s.writtenByte_runOn phase take hr hwrites
    simp only [List.mem_cons, List.not_mem_nil, or_false] at hc
    rcases hc with rfl | rfl | rfl
    · exact congrArg Host.Outcome.next (hrun .writeMemory _)
    · exact congrArg Host.Outcome.next (hrun .writeLive _)
    · exact congrArg Host.Outcome.next (hrun .writeVoid _)

/-! ### The current-address read (R140, R145) -/

/-- What a read-addressed address byte sends to the memory, and where the resync stops that the memory refuses (R140). -/
def readAddressActs (a : BusAddr) (known : Bool) (answer : MemAnswer) : List MemAct :=
  if known then [.start, .send 0xA9]
  else
    [.start, .send 0xA8] ++ (if answer = .busy then [] else [.send (a.extractLsb' 8 8)])
      ++ (if answer = .busy ∨ answer = .highRefused then [] else [.send (a.extractLsb' 0 8)])
      ++ (if answer = .readAddressRefused then [.start, .send 0xA9] else [])

theorem State.beginRead_loading {s : State} (h : s.head = .loading) (answer : MemAnswer) :
    s.beginRead answer = s.endTxn [] .nack := by
  simp [State.beginRead, h]

theorem State.beginRead_served {s : State} (h : s.head ≠ .loading)
    (k : s.head = .noMemory ∨ spaceOf s.bridge.combined ≠ .memory) (answer : MemAnswer) :
    s.beginRead answer = s.beginServed := by
  unfold State.beginRead
  have hs : s.head ≠ .noMemory → spaceOf s.bridge.combined = .live ∨ spaceOf s.bridge.combined = .void := fun hn => by
    have hne := k.resolve_left hn
    cases e : spaceOf s.bridge.combined
    case memory => exact absurd e hne
    case live => exact .inl rfl
    case void => exact .inr rfl
  cases hh : s.head
  case loading => exact absurd hh h
  case noMemory => rfl
  case running => rcases hs (by simp [hh]) with e | e <;> rw [e]
  case planBad => rcases hs (by simp [hh]) with e | e <;> rw [e]

/-- A read in memory space is forwarded where the memory's pointer equals the combined one, and resynchronized otherwise; a
refused byte ends the transaction. -/
theorem State.beginRead_memory {s : State} (h : s.head ≠ .loading) (hn : s.head ≠ .noMemory)
    (hs : spaceOf s.bridge.combined = .memory) (answer : MemAnswer) {known : Bool}
    (hk : known = decide (s.bridge.mirror = some (memoryPointer s.bridge.combined))) :
    s.beginRead answer =
      if answer = .acknowledged ∨ (known = true ∧ answer ≠ .busy) then
        s.beginForwarded (if known then [.start, .send 0xA9] else resyncActs s.bridge.combined)
      else
        (if answer = .busy then s else s.mirrorUnknown).endTxn (readAddressActs s.bridge.combined known answer ++ [.stop]) .nack := by
  have hread : s.beginRead answer =
      if s.bridge.mirror = some (memoryPointer s.bridge.combined) then
        if answer = .busy then s.endTxn (addressActs Config.addressRead ++ [.stop]) .nack
        else s.beginForwarded (addressActs Config.addressRead)
      else
        match answer with
        | .acknowledged => s.beginForwarded (resyncActs s.bridge.combined)
        | .busy => s.endTxn (resyncRefused s.bridge.combined 0) .nack
        | .highRefused => s.mirrorUnknown.endTxn (resyncRefused s.bridge.combined 1) .nack
        | .lowRefused => s.mirrorUnknown.endTxn (resyncRefused s.bridge.combined 2) .nack
        | .readAddressRefused => s.mirrorUnknown.endTxn (resyncRefused s.bridge.combined 3) .nack := by
    unfold State.beginRead
    rw [hs]
    cases hh : s.head
    case loading => exact absurd hh h
    case noMemory => exact absurd hh hn
    all_goals rfl
  rw [hread]
  by_cases hm : s.bridge.mirror = some (memoryPointer s.bridge.combined)
  · obtain rfl : known = true := by simp [hk, hm]
    rw [if_pos hm]
    cases answer <;> rfl
  · obtain rfl : known = false := by simp [hk, hm]
    rw [if_neg hm]
    cases answer <;> rfl

/-- Settles O51. -/
theorem currentAddressReadClassified : Obligations.CurrentAddressReadClassified := by
  intro s answer known hp hb hm hk
  rw [← memoryPointer_eq] at hk ⊢
  refine ⟨s.beginRead answer, congrArg Host.Outcome.next (if_pos hp), ?_⟩
  by_cases hl : s.head = .loading
  · rw [State.beginRead_loading hl, if_pos hl]
    exact ⟨rfl, rfl, rfl, State.endTxn_port hb _ _, rfl, State.endTxn_memOpen hm _ _⟩
  · rw [if_neg hl]
    by_cases hserved : s.head = .noMemory ∨ spaceOf s.bridge.combined ≠ .memory
    · rw [State.beginRead_served hl hserved, if_pos hserved]
      exact ⟨rfl, rfl, rfl, rfl, rfl⟩
    · have hs : spaceOf s.bridge.combined = .memory := not_not.1 fun h => hserved (.inr h)
      rw [State.beginRead_memory hl (fun h => hserved (.inl h)) hs answer hk, if_neg hserved]
      by_cases hgo : answer = .acknowledged ∨ (known = true ∧ answer ≠ .busy)
      · rw [if_pos hgo, if_pos hgo]
        exact ⟨rfl, rfl, rfl, rfl, rfl, rfl⟩
      · rw [if_neg hgo, if_neg hgo]
        by_cases hbusy : answer = .busy
        · rw [if_pos hbusy]
          exact ⟨rfl, rfl, rfl, State.endTxn_port hb _ _, rfl, (if_pos hbusy).symm⟩
        · rw [if_neg hbusy]
          exact ⟨rfl, rfl, rfl, State.endTxn_port (s := s.mirrorUnknown) hb _ _, rfl, (if_neg hbusy).symm⟩

end Sys2Proof.Machine
end

section
/-! PROOF. The bytes of a read and what each row of the live window holds (R138 to R141, R147, R150, section 10.2). -/

namespace Sys2Proof.Machine

/-! ### Fields of a row -/

theorem byteOf_bit (b : Bool) : byteOf (bit b) = flagByte b := by cases b <;> rfl

theorem byteOf_add (m n : Nat) : byteOf (m + n) = byteOf m + byteOf n := BitVec.ofNat_add m n

theorem byteOf_mul (m n : Nat) : byteOf (m * n) = byteOf m * byteOf n := BitVec.ofNat_mul m n

theorem littleEndian_four (v : BitVec 32) : littleEndian 4 v.toNat = fourBytes v := by
  have hbyte (k : Nat) : BitVec.ofNat 8 (v.toNat / 2 ^ k) = v.extractLsb' k 8 := by
    apply BitVec.eq_of_toNat_eq
    rw [BitVec.toNat_ofNat, BitVec.extractLsb'_toNat, Nat.shiftRight_eq_div_pow]
  have h0 := hbyte 0
  have h1 := hbyte 8
  have h2 := hbyte 16
  have h3 := hbyte 24
  simp only [littleEndian, fourBytes, Nat.div_div_eq_div_mul, ← h0, ← h1, ← h2, ← h3]
  norm_num

theorem littleEndian_two (v : BitVec 16) : littleEndian 2 v.toNat = twoBytes v := by
  have hbyte (k : Nat) : BitVec.ofNat 8 (v.toNat / 2 ^ k) = v.extractLsb' k 8 := by
    apply BitVec.eq_of_toNat_eq
    rw [BitVec.toNat_ofNat, BitVec.extractLsb'_toNat, Nat.shiftRight_eq_div_pow]
  have h0 := hbyte 0
  have h1 := hbyte 8
  simp only [littleEndian, twoBytes, ← h0, ← h1]
  norm_num

theorem Answer.bytes_eq (a : Answer) : a.bytes = a.fields := by
  cases a with
  | mk echo applied outcome limit => cases outcome <;> cases limit <;> rfl

theorem padTo_of_length {k : Nat} {l : List Byte} (h : l.length ≤ k) : padTo k l = l ++ List.replicate (k - l.length) 0 := by
  unfold padTo
  rw [List.take_append, List.take_of_length_le h, List.take_replicate, Nat.min_eq_left (Nat.sub_le ..)]

theorem State.rowBytes_of_fields (s : State) {r : BitVec 12} {k : Nat} {fields : List Byte} (hr : r.toNat = k)
    (hf : s.rowFields k = fields) : s.rowBytes r = padTo 16 fields := by
  rw [State.rowBytes, hr, hf]

theorem State.rowFields_headStatus (s : State) : s.rowFields 0x400 = s.headStatusRow := if_pos rfl

theorem State.rowFields_headControl (s : State) : s.rowFields 0x401 = s.headControlRow :=
  (if_neg (by omega)).trans (if_pos rfl)

theorem State.rowFields_leg (s : State) (n : LegId) : s.rowFields (0x402 + n.val) = s.legRow n := by
  have hn := n.isLt
  unfold State.rowFields
  rw [if_neg (by omega), if_neg (by omega), dif_pos ⟨by omega, by omega⟩]
  exact congrArg s.legRow (Fin.ext (Nat.add_sub_cancel_left ..))

theorem State.rowFields_detail (s : State) {idx : Nat} (h : idx < 16) : s.rowFields (0x410 + idx) = s.detailRow idx := by
  unfold State.rowFields
  rw [if_neg (by omega), if_neg (by omega), dif_neg (by omega), if_pos (by omega), Nat.add_sub_cancel_left]

theorem State.rowFields_queue (s : State) : s.rowFields 0x420 = s.queueRow := by
  unfold State.rowFields
  rw [if_neg (by omega), if_neg (by omega), dif_neg (by omega), if_neg (by omega), if_pos rfl]

theorem State.rowFields_queueStatus (s : State) : s.rowFields 0x421 = s.queueStatusRow := by
  unfold State.rowFields
  rw [if_neg (by omega), if_neg (by omega), dif_neg (by omega), if_neg (by omega), if_neg (by omega), if_pos rfl]

theorem State.rowFields_shown (s : State) : s.rowFields 0x422 = s.shownRow := by
  unfold State.rowFields
  rw [if_neg (by omega), if_neg (by omega), dif_neg (by omega), if_neg (by omega), if_neg (by omega), if_neg (by omega),
    if_pos rfl]

/-! ### Head rows (section 10.2) -/

/-- The code is the lowest of any ACTIVE entry, 0 without one (R152). -/
theorem worstCode_spec (faults : List FaultEntry) :
    (∀ e ∈ faults, e.active = true → 1 ≤ worstCode faults ∧ worstCode faults ≤ e.code.number)
      ∧ (worstCode faults ≠ 0 → ∃ e ∈ faults, e.active = true ∧ e.code.number = worstCode faults) := by
  induction faults using List.reverseRecOn with
  | nil => exact ⟨fun _ h => (List.not_mem_nil h).elim, fun h => absurd rfl h⟩
  | append_singleton rest e ih =>
    obtain ⟨ih1, ih2⟩ := ih
    have hpos : 1 ≤ e.code.number := by cases e.code <;> decide
    have hstep : worstCode (rest ++ [e]) =
        if e.active && (worstCode rest == 0 || decide (e.code.number < worstCode rest)) then e.code.number
        else worstCode rest := List.foldl_append
    rw [hstep]
    generalize worstCode rest = w at ih1 ih2
    by_cases hc : (e.active && (w == 0 || decide (e.code.number < w))) = true
    · rw [if_pos hc]
      simp only [Bool.and_eq_true, Bool.or_eq_true, beq_iff_eq, decide_eq_true_eq] at hc
      refine ⟨fun f hf ha => ⟨hpos, ?_⟩, fun _ => ⟨e, by simp, hc.1, rfl⟩⟩
      rcases List.mem_append.1 hf with hf | hf
      · obtain ⟨k1, k2⟩ := ih1 f hf ha
        rcases hc.2 with h | h <;> omega
      · obtain rfl := List.mem_singleton.1 hf
        exact Nat.le_refl _
    · rw [if_neg hc]
      simp only [Bool.and_eq_true, Bool.or_eq_true, beq_iff_eq, decide_eq_true_eq] at hc
      refine ⟨fun f hf ha => ?_, fun h => ?_⟩
      · rcases List.mem_append.1 hf with hf | hf
        · exact ih1 f hf ha
        · obtain rfl := List.mem_singleton.1 hf
          have hlow : ¬(w = 0 ∨ f.code.number < w) := fun h => hc ⟨ha, h⟩
          omega
      · obtain ⟨f, hf, hk⟩ := ih2 h
        exact ⟨f, List.mem_append_left _ hf, hk⟩

theorem State.headRowsShown (s : State) : s.HeadRowsShown := by
  refine ⟨⟨worstCode s.report.faults, ?_, worstCode_spec _⟩, ?_⟩
  · rw [s.rowBytes_of_fields (r := 0x400) (by decide) s.rowFields_headStatus]
    unfold State.headStatusRow
    rw [littleEndian_four, byteOf_bit, byteOf_bit, padTo_of_length (by simp [fourBytes])]
    cases s.head <;> cases s.resetCause <;> rfl
  · rw [s.rowBytes_of_fields (r := 0x401) (by decide) s.rowFields_headControl]
    unfold State.headControlRow
    rw [byteOf_bit, byteOf_bit]
    cases s.report.eventMode <;> rfl

/-! ### Leg rows -/

theorem LastFailure.byte_eq (f : LastFailure) : f.byte = BitVec.ofNat 8 f.code := by
  cases f with
  | none => rfl
  | budget => rfl
  | cut => rfl
  | lane reason x i => cases reason <;> cases x <;> rfl

theorem State.legRowShown (s : State) (n : LegId) : s.LegRowShown n := by
  unfold State.LegRowShown
  rw [s.rowBytes_of_fields (by revert n; decide) (s.rowFields_leg n)]
  unfold State.legRow
  simp only [littleEndian_two, byteOf_add, byteOf_mul, byteOf_bit, LastFailure.byte_eq]
  rw [padTo_of_length (by simp [twoBytes])]
  cases (s.leg n).state <;> cases (s.leg n).profile.rate <;> rfl

/-! ### Detail rows (R150) -/

theorem State.detailFirst_shown (s : State) (n : LegId) (i : Lane) (x : Side) : padTo 16 (s.detailFirst n i x) =
    [BitVec.ofNat 8 n.val, BitVec.ofNat 8 i.val,
      (match s.laneState i x with | .quiet => 0 | .listen => 1 | .tune => 2 | .ready => 3 | .count => 4 | .data => 5),
      flagByte (s.exch i x).warm, BitVec.ofNat 8 (s.txPath i x).inUse.pre, BitVec.ofNat 8 (s.txPath i x).inUse.main,
      BitVec.ofNat 8 (s.txPath i x).inUse.post, BitVec.ofNat 8 (s.txPath i x).inUse.peak,
      BitVec.ofInt 8 (s.txPath i x).inUse.lowFrequency] ++ (s.exch i x).lastGiven.fields
      ++ [flagByte (decide (x = .c) && (s.slice i).inverted),
        BitVec.ofNat 8 (match x with | .s => i.val | .c => (s.slice i).pair.val), 0] := by
  unfold State.detailFirst State.laneState
  simp only [Answer.bytes_eq, byteOf_bit]
  generalize (s.exch i x).lane = l
  cases l <;> cases x <;> rfl

theorem State.detailSecond_shown (s : State) (i : Lane) (x : Side) : padTo 16 (s.detailSecond i x) =
    (s.exch i x).req.lastReceived.fields
      ++ [BitVec.ofNat 8 (s.exch i x).badFrames, BitVec.ofNat 8 (s.exch i x).restarts, (s.exch i x).made,
        (s.exch i x).answered, BitVec.ofNat 8 (s.rxPath i x).eye.current, BitVec.ofNat 8 (s.rxPath i x).eye.minimum,
        BitVec.ofNat 8 (s.rxPath i x).eye.maximum,
        flagByte (s.rxPath i x).eye.valid + 2 * flagByte (s.rxPath i x).eye.alarm, 0, 0, 0, 0] := by
  unfold State.detailSecond
  simp only [Answer.bytes_eq, byteOf_bit, byteOf_add, byteOf_mul]
  rfl

/-- The four rows of a lane of the leg on view, or of one it does not have. -/
def State.laneRow (s : State) : Option Lane → Nat → List Byte
  | some i, 0 => s.detailFirst s.legOnView i .s
  | some i, 1 => s.detailSecond i .s
  | some i, 2 => s.detailFirst s.legOnView i .c
  | some i, _ => s.detailSecond i .c
  | none, 0 => [byteOf s.legOnView.val, 0xFF]
  | none, 2 => [byteOf s.legOnView.val, 0xFF]
  | none, _ => []

theorem State.detailRow_eq (s : State) (idx : Nat) :
    s.detailRow idx = s.laneRow (s.laneOfLeg s.legOnView (idx / 4)) (idx % 4) := rfl

theorem State.legOnView_eq (s : State) : s.legOnView = if s.report.viewPinned then s.report.viewLeg
    else (((s.report.faults.find? fun e => !e.acked).bind fun e => e.owner).getD 0) := by
  unfold State.legOnView shownEntry
  cases s.report.faults.find? fun e => !e.acked <;> rfl

/-- Row `j` of the four of lane `k` on the detail page. -/
theorem State.rowBytes_detail (s : State) (k j : Fin 4) :
    s.rowBytes (0x410 + 4 * BitVec.ofNat 12 k.val + BitVec.ofNat 12 j.val) = padTo 16 (s.detailRow (4 * k.val + j.val)) := by
  have h : (0x410 + 4 * BitVec.ofNat 12 k.val + BitVec.ofNat 12 j.val : BitVec 12).toNat = 0x410 + (4 * k.val + j.val) := by
    revert k j; decide
  unfold State.rowBytes
  rw [h, s.rowFields_detail (by omega)]

theorem detailRows_address (k : Fin 4) :
    0x410 + 4 * BitVec.ofNat 12 k.val = 0x410 + 4 * BitVec.ofNat 12 k.val + BitVec.ofNat 12 0
      ∧ 0x410 + 4 * BitVec.ofNat 12 k.val + 1 = 0x410 + 4 * BitVec.ofNat 12 k.val + BitVec.ofNat 12 1
      ∧ 0x412 + 4 * BitVec.ofNat 12 k.val = 0x410 + 4 * BitVec.ofNat 12 k.val + BitVec.ofNat 12 2
      ∧ 0x412 + 4 * BitVec.ofNat 12 k.val + 1 = 0x410 + 4 * BitVec.ofNat 12 k.val + BitVec.ofNat 12 3 := by
  revert k; decide

theorem State.detailPageShown (s : State) (k : Fin 4) : s.DetailPageShown k := by
  have hrow (j : Fin 4) : s.detailRow (4 * k.val + j.val) = s.laneRow (s.laneOfLeg s.legOnView k.val) j.val := by
    rw [s.detailRow_eq, show (4 * k.val + j.val) / 4 = k.val by omega, show (4 * k.val + j.val) % 4 = j.val by omega]
  refine ⟨s.legOnView_eq, fun i hi he => ?_, fun hno j => ?_⟩
  · have hlane : s.laneOfLeg s.legOnView k.val = some i := by
      rw [State.laneOfLeg, if_pos he]
      exact Option.mem_toList.1 hi
    have hat (j : Fin 4) (r : BitVec 12) (hr : r = 0x410 + 4 * BitVec.ofNat 12 k.val + BitVec.ofNat 12 j.val) :
        s.rowBytes r = padTo 16 (s.detailRow (4 * k.val + j.val)) := by rw [hr, s.rowBytes_detail]
    obtain ⟨a0, a1, a2, a3⟩ := detailRows_address k
    have h0 := hat 0 _ a0
    have h1 := hat 1 _ a1
    have h2 := hat 2 _ a2
    have h3 := hat 3 _ a3
    rw [hrow, hlane] at h0 h1 h2 h3
    exact ⟨⟨h0.trans (s.detailFirst_shown _ i .s), h1.trans (s.detailSecond_shown i .s)⟩,
      h2.trans (s.detailFirst_shown _ i .c), h3.trans (s.detailSecond_shown i .c)⟩
  · have hlane : s.laneOfLeg s.legOnView k.val = none := by
      unfold State.laneOfLeg
      rcases hno with h | h
      · rw [h]; rfl
      · rw [h]; exact ite_self _
    rw [s.rowBytes_detail, hrow, hlane]
    fin_cases j <;> rfl

/-! ### Queue rows -/

theorem ownerByte_eq (leg : Option LegId) : ownerByte leg = (leg.map fun n => BitVec.ofNat 8 n.val).getD 0xFF := by
  cases leg <;> rfl

theorem EventKind.fields_eq (k : EventKind) : k.fields = (byteOf k.number, k.bytes) := by
  cases k with
  | laneTuned x i low eye t => cases x <;> cases low <;> rfl
  | faultRaised code missed detail => cases missed <;> rfl
  | profileTaken clamped => cases clamped <;> rfl
  | _ => rfl

theorem EventKind.bytes_length (k : EventKind) : k.bytes.length ≤ 8 := by
  cases k <;> simp [EventKind.bytes, littleEndian]

theorem State.queueRowsShown (s : State) : s.QueueRowsShown := by
  refine ⟨?_, ?_, ?_⟩
  · rw [s.rowBytes_of_fields (r := 0x420) (by decide) s.rowFields_queue]
    unfold State.queueRow
    cases s.report.events with
    | nil => rfl
    | cons r rest =>
      have hlen := r.kind.bytes_length
      show padTo 16 r.bytes = [r.seq, r.kind.fields.1, (r.leg.map fun n => BitVec.ofNat 8 n.val).getD 0xFF, 0] ++ fourBytes r.time
            ++ r.kind.fields.2 ++ List.replicate (8 - r.kind.fields.2.length) 0
      rw [EventKind.fields_eq, ← ownerByte_eq]
      unfold EventRecord.bytes
      rw [littleEndian_four, padTo_of_length (by simp [fourBytes]; omega)]
      congr 2
      simp [fourBytes]
  · rw [s.rowBytes_of_fields (r := 0x421) (by decide) s.rowFields_queueStatus]
    unfold State.queueStatusRow
    rw [byteOf_bit, byteOf_bit]
    rfl
  · rw [s.rowBytes_of_fields (r := 0x422) (by decide) s.rowFields_shown]
    unfold State.shownRow shownEntry
    cases s.report.faults.find? fun e => !e.acked with
    | none => rfl
    | some e =>
      dsimp only
      rw [littleEndian_four, ownerByte_eq]
      cases e.active <;> rfl

theorem State.otherRowsZero (s : State) (r : BitVec 12) : s.OtherRowsZero r := by
  intro h
  unfold State.rowBytes State.rowFields
  rw [if_neg (by omega), if_neg (by omega), dif_neg (by omega), if_neg (by omega), if_neg (by omega), if_neg (by omega),
    if_neg (by omega)]
  rfl

/-! ### The bytes of a read (R138 to R141, R145) -/

theorem nextRead_memory {a : BusAddr} (h : spaceOf a = .memory) : (nextRead a).toNat = (a.toNat + 1) % 0x4000 := by
  have hlt := (spaceOf_memory_iff a).1 h
  have he : a = 0x3FFF ↔ a.toNat = 0x3FFF := BitVec.toNat_inj.symm
  unfold nextRead
  rw [h]
  by_cases k : a.toNat = 0x3FFF
  · rw [he.2 k]; rfl
  · simp only [he, k, if_false]
    rw [BitVec.toNat_add]
    show (a.toNat + 1) % 2 ^ 16 = _
    omega

theorem nextRead_live {a : BusAddr} (h : spaceOf a = .live) :
    (nextRead a).toNat = if a.toNat = 0x43FF then 0x4000 else a.toNat + 1 := by
  rw [← nextWrite_live h, nextWrite, h]

theorem nextRead_void {a : BusAddr} (h : spaceOf a = .void) :
    (nextRead a).toNat = if a.toNat = 0xFFFF then 0x4400 else a.toNat + 1 := by
  rw [← nextWrite_void h, nextWrite, h]

theorem rowOf_toNat (a : BusAddr) : (rowOf a).toNat = a.toNat / 16 := by
  have := a.isLt
  rw [rowOf, BitVec.extractLsb'_toNat, Nat.shiftRight_eq_div_pow]
  omega

/-- The pointer stays in its row until the row's last byte has been read. -/
theorem rowOf_nextRead {a : BusAddr} (h : spaceOf a = .live) : rowOf (nextRead a) = rowOf a ↔ a.toNat % 16 ≠ 15 := by
  obtain ⟨h1, h2⟩ := (spaceOf_live_iff a).1 h
  rw [← BitVec.toNat_inj, rowOf_toNat, rowOf_toNat, nextRead_live h]
  split_ifs <;> omega

/-- The memory's pointer follows the combined pointer through memory space. -/
theorem memoryPointer_next {a : BusAddr} (h : spaceOf a = .memory) : memoryPointer a + 1 = memoryPointer (nextRead a) := by
  have hlt := (spaceOf_memory_iff a).1 h
  rw [memoryPointer_eq, memoryPointer_eq, nextRead_memory h]
  apply BitVec.eq_of_toNat_eq
  rw [BitVec.toNat_add, BitVec.toNat_ofNat, BitVec.toNat_ofNat]
  show (a.toNat % 2 ^ 14 + 1) % 2 ^ 14 = _
  omega

/-- A byte that the memory drives. -/
theorem State.forwardedByte_eq {s : State} (h : s.bridge.txn.phase = .readForwarded) (v : Byte) (ack : Bool) :
    s.forwardedByte v ack = { s with bridge := { s.bridge with
      combined := nextRead s.bridge.combined, mirror := s.bridge.mirror.map (· + 1)
      txn := { s.bridge.txn with phase := if ack then .readForwarded else .readDone }
      toMemory := [if ack then .ack else .nack], toSwitch := .data v } } := if_pos h

/-- A byte that the BX8 serves. -/
theorem State.servedByte_eq {s : State} (h : s.bridge.txn.phase = .readServed) (ack : Bool) :
    s.servedByte ack = { s with bridge := { s.bridge with
      combined := nextRead s.bridge.combined
      txn := { s.bridge.txn with snapshot := s.servedSnapshot, phase := if ack then .readServed else .readDone }
      toMemory := [], toSwitch := .data s.servedValue } } := if_pos h

/-- The row's snapshot is the one held for it, or is taken at this byte (R141). -/
theorem State.snapshotFor_of_some {s : State} {q : BitVec 12 × List Byte} (h : s.bridge.txn.snapshot = some q) (a : BusAddr) :
    s.snapshotFor a = if q.1 = rowOf a then q else (rowOf a, s.rowBytes (rowOf a)) := by
  simp [State.snapshotFor, h]

theorem State.snapshotFor_of_none {s : State} (h : s.bridge.txn.snapshot = none) (a : BusAddr) :
    s.snapshotFor a = (rowOf a, s.rowBytes (rowOf a)) := by
  simp [State.snapshotFor, h]

theorem State.snapshotFor_row (s : State) (a : BusAddr) : (s.snapshotFor a).1 = rowOf a := by
  cases h : s.bridge.txn.snapshot with
  | none => rw [State.snapshotFor_of_none h]
  | some q =>
    rw [State.snapshotFor_of_some h]
    split
    · next e => exact e
    · rfl

/-- The snapshot stays while the pointer stays in its row. -/
theorem State.servedSnapshot_live {s : State} (h : spaceOf s.bridge.combined = .live) :
    s.servedSnapshot = if s.bridge.combined.toNat % 16 ≠ 15 then some (s.snapshotFor s.bridge.combined) else none := by
  unfold State.servedSnapshot keepSnapshot
  rw [h]
  simp only [s.snapshotFor_row, eq_comm (a := rowOf s.bridge.combined), rowOf_nextRead h]

/-- Settles O52. -/
theorem readBytes : Obligations.ReadBytes := by
  intro s v ack a n k r ha
  subst ha
  refine ⟨fun hp hs hm => ?_, fun hp hs => ?_, fun hp hs => ?_, fun hp hs => ?_, s.headRowsShown, s.legRowShown n,
    s.detailPageShown k, s.queueRowsShown, s.otherRowsZero r⟩
  · refine ⟨_, congrArg Host.Outcome.next (State.forwardedByte_eq hp v ack), rfl, rfl, nextRead_memory hs, ?_, rfl⟩
    show s.bridge.mirror.map (· + 1) = some (memoryPointer (nextRead s.bridge.combined))
    rw [hm, ← memoryPointer_next hs]
    rfl
  · refine ⟨_, congrArg Host.Outcome.next (State.servedByte_eq hp ack), ?_, nextRead_live hs, fun h hq => ?_, fun q h hq hrow => ?_,
      fun q h hq hrow => ?_, fun h => ?_, rfl, rfl⟩
    · show SwitchAnswer.data s.servedValue = _
      unfold State.servedValue State.snapshotFor
      rw [hs]
      cases s.bridge.txn.snapshot with
      | none => rfl
      | some q => dsimp only; split <;> rfl
    · exact (State.servedSnapshot_live hs).trans ((if_pos h).trans (congrArg some (State.snapshotFor_of_none hq _)))
    · exact (State.servedSnapshot_live hs).trans
        ((if_pos h).trans (congrArg some ((State.snapshotFor_of_some hq _).trans (if_pos hrow))))
    · exact (State.servedSnapshot_live hs).trans
        ((if_pos h).trans (congrArg some ((State.snapshotFor_of_some hq _).trans (if_neg hrow))))
    · exact (State.servedSnapshot_live hs).trans (if_neg fun hne => hne h)
  · refine ⟨_, congrArg Host.Outcome.next (State.servedByte_eq hp ack), ?_, nextRead_void hs, rfl⟩
    show SwitchAnswer.data s.servedValue = _
    unfold State.servedValue
    rw [hs]
  · refine ⟨_, congrArg Host.Outcome.next (State.servedByte_eq hp ack), ?_, rfl, nextRead_memory hs, rfl, rfl⟩
    show SwitchAnswer.data s.servedValue = _
    unfold State.servedValue
    rw [hs]

end Sys2Proof.Machine
end

section
/-! PROOF. A repeated START in each phase and space (R139, R140, R143 to R145). -/

namespace Sys2Proof.Machine

/-! ### What stands when the address byte is taken -/

theorem State.applyBuffer_nil {s : State} (h : s.bridge.txn.buffer = []) : s.applyBuffer = s := by
  have he : ({ s with bridge := { s.bridge with txn := { s.bridge.txn with buffer := [] } } } : State) = s := by rw [← h]
  unfold State.applyBuffer
  rw [he, h]
  rfl

theorem State.leaveWordAddress_of_ne {s : State} (h : s.bridge.txn.phase ≠ .wordAddress) : s.leaveWordAddress = s :=
  if_neg fun k => h k.1

theorem State.leaveWordAddress_of_closed {s : State} (h : s.bridge.memOpen = false) : s.leaveWordAddress = s :=
  if_neg fun k => by simp [h] at k

theorem State.leaveWordAddress_of_open {s : State} (h : s.bridge.txn.phase = .wordAddress) (k : s.bridge.memOpen = true) :
    s.leaveWordAddress = s.mirrorUnknown := if_pos ⟨h, k⟩

/-- The address byte after a repeated START is taken on the state `u` that the buffer leaves. -/
theorem State.repeatStart_to {s u : State} (hp : s.bridge.txn.phase.runsOn = true) (hu : s.leaveWordAddress.applyBuffer = u)
    (hr : u.bridge.txn.runOn = false) (target : RestartTarget) (answer : MemAnswer) :
    s.repeatStart target answer = (u.dropSnapshot target).restartTo target answer := by
  have hd : (u.dropSnapshot target).bridge.txn.runOn = false := by cases target <;> exact hr
  unfold State.repeatStart
  rw [if_pos hp, hu, if_neg (by simp [hd])]

theorem State.repeatStart_runOn {s u : State} (hp : s.bridge.txn.phase.runsOn = true) (hu : s.leaveWordAddress.applyBuffer = u)
    (hr : u.bridge.txn.runOn = true) (target : RestartTarget) (answer : MemAnswer) :
    s.repeatStart target answer = (u.dropSnapshot target).restartRunOn target := by
  have hd : (u.dropSnapshot target).bridge.txn.runOn = true := by cases target <;> exact hr
  unfold State.repeatStart
  rw [if_pos hp, hu, if_pos hd]

/-! ### The address byte on a state -/

/-- A repeated START of a transaction that ran on after a reload is the BX8's alone (R145). -/
theorem State.restartRunOn_spec {u : State} (hb : u.bridge.port = .bridge) (hr : u.bridge.txn.runOn = true) (target : RestartTarget) :
    ∃ t, (u.dropSnapshot target).restartRunOn target = t ∧ t = { u with bridge := t.bridge }
      ∧ t.bridge.combined = u.bridge.combined ∧ t.bridge.toMemory = [] ∧ t.bridge.mirror = u.bridge.mirror
      ∧ (u.bridge.txn.buffer = [] → t.bridge.txn.buffer = [])
      ∧ (if target = .otherAddress then t.bridge.toSwitch = .nack ∧ t.bridge.port = .free ∧ t.bridge.txn = .initial
        else t.bridge.toSwitch = .ack ∧ t.bridge.port = .bridge ∧ t.bridge.txn.runOn = true
          ∧ t.bridge.txn.phase = (if target = .read then .readServed else .wordAddress)) := by
  cases target with
  | read => exact ⟨_, rfl, rfl, rfl, rfl, rfl, id, rfl, hb, hr, rfl⟩
  | write => exact ⟨_, rfl, rfl, rfl, rfl, rfl, id, rfl, hb, hr, rfl⟩
  | otherAddress => exact ⟨_, rfl, rfl, rfl, rfl, rfl, fun _ => rfl, rfl, State.endTxn_port hb _ _, rfl⟩

/-- A new write address phase after a repeated START (R139). -/
theorem State.restartWrite_spec {u : State} (hb : u.bridge.port = .bridge) (hl : u.head ≠ .loading) (answer : MemAnswer) :
    ∃ t, (u.dropSnapshot .write).restartTo .write answer = t ∧ t = { u with bridge := t.bridge }
      ∧ t.bridge.combined = u.bridge.combined ∧ t.bridge.mirror = u.bridge.mirror
      ∧ (if u.head ≠ .noMemory ∧ answer = .busy then t.bridge.toSwitch = .nack ∧ t.bridge.port = .free
            ∧ t.bridge.txn = .initial ∧ t.bridge.memOpen = false ∧ t.bridge.toMemory = [.start, .send 0xA8, .stop]
        else t.bridge.toSwitch = .ack ∧ t.bridge.txn.phase = .wordAddress ∧ t.bridge.port = .bridge
            ∧ t.bridge.memOpen = (if u.head = .noMemory then u.bridge.memOpen else true)
            ∧ t.bridge.toMemory = if u.head = .noMemory then [] else [.start, .send 0xA8]) := by
  refine ⟨(u.dropSnapshot .write).beginWrite (decide (answer ≠ .busy)), rfl,
    (u.dropSnapshot_moves .write).trans (State.beginWrite_moves _ _), ?_⟩
  by_cases hn : u.head = .noMemory
  · rw [State.beginWrite_noMemory (s := u.dropSnapshot .write) hn, if_neg fun h => h.1 hn, if_pos hn, if_pos hn]
    exact ⟨rfl, rfl, rfl, rfl, hb, rfl, rfl⟩
  · rw [State.beginWrite_memory (s := u.dropSnapshot .write) hl hn, if_neg hn, if_neg hn]
    by_cases hbusy : answer = .busy
    · rw [if_neg (by simp [hbusy]), if_pos ⟨hn, hbusy⟩]
      refine ⟨rfl, rfl, rfl, State.endTxn_port (s := u.dropSnapshot .write) hb _ _, rfl, ?_, rfl⟩
      show (u.bridge.memOpen && u.head == .loading) = false
      simp [hl]
    · rw [if_pos (by simp [hbusy]), if_neg fun h => hbusy h.2]
      exact ⟨rfl, rfl, rfl, rfl, hb, rfl, rfl⟩

/-- Another bus address after a repeated START ends the transaction, with a STOP where the memory side is open (R137, R139). -/
theorem State.restartOther_spec {u : State} (hb : u.bridge.port = .bridge) (hl : u.head ≠ .loading)
    (hr : u.bridge.txn.runOn = false) (answer : MemAnswer) :
    ∃ t, (u.dropSnapshot .otherAddress).restartTo .otherAddress answer = t ∧ t = { u with bridge := t.bridge }
      ∧ t.bridge.toSwitch = .nack ∧ t.bridge.port = .free ∧ t.bridge.txn = .initial ∧ t.bridge.memOpen = false
      ∧ t.bridge.toMemory = (if u.bridge.memOpen then [.stop] else []) ∧ t.bridge.combined = u.bridge.combined
      ∧ t.bridge.mirror = u.bridge.mirror := by
  refine ⟨u.endTxn u.closing .nack, rfl, rfl, rfl, State.endTxn_port hb _ _, rfl, ?_, ?_, rfl, rfl⟩
  · show (u.bridge.memOpen && u.head == .loading) = false
    simp [hl]
  · show u.closing = _
    simp [State.closing, hr, hl]

/-- A read after a repeated START outside memory space, or with no memory, is served. -/
theorem State.restartRead_served {u : State} (hl : u.head ≠ .loading)
    (hs : u.head = .noMemory ∨ spaceOf u.bridge.combined ≠ .memory) (answer : MemAnswer) :
    (u.dropSnapshot .read).restartTo .read answer = u.beginServed := State.beginRead_served (s := u) hl hs answer

/-- A read after a repeated START in memory space is forwarded, by the memory's pointer or after a resync. -/
theorem State.restartRead_memory {u : State} (hl : u.head ≠ .loading) (hn : u.head ≠ .noMemory)
    (hs : spaceOf u.bridge.combined = .memory) (answer : MemAnswer) {known : Bool}
    (hk : known = decide (u.bridge.mirror = some (memoryPointer u.bridge.combined))) :
    (u.dropSnapshot .read).restartTo .read answer =
      if answer = .acknowledged ∨ (known = true ∧ answer ≠ .busy) then
        u.beginForwarded (if known then [.start, .send 0xA9] else resyncActs u.bridge.combined)
      else
        (if answer = .busy then u else u.mirrorUnknown).endTxn (readAddressActs u.bridge.combined known answer ++ [.stop]) .nack :=
  State.beginRead_memory (s := u) hl hn hs answer hk

theorem State.head_of_windowOpen {s : State} (h : s.windowOpen = true) : s.head ≠ .loading := by
  intro k
  simp [State.windowOpen, k] at h

/-! ### The repeated START by phase -/

section
variable {s : State} {answer : MemAnswer}

/-- After a live or void word address or write, or a served read, with a buffer that carries no reload. -/
theorem State.repeatStart_outside {u : State} (hb : s.bridge.port = .bridge)
    (hu : u = State.applyBytes { s with bridge := { s.bridge with txn := { s.bridge.txn with buffer := [] } } } s.bridge.txn.buffer)
    (hr : s.bridge.txn.runOn = false) (hw : s.windowOpen = true)
    (hp : s.bridge.txn.phase = .writeLive ∨ s.bridge.txn.phase = .writeVoid ∨ s.bridge.txn.phase = .readServed
        ∨ s.bridge.txn.phase = .readDone)
    (hm : s.bridge.memOpen = false) (hs : spaceOf s.bridge.combined ≠ .memory ∨ s.head = .noMemory) (hl : u.head ≠ .loading) :
    (∃ t, exec (.repeatedStart .read answer) s = .next t ∧ t = { u with bridge := t.bridge }
        ∧ t.bridge.toSwitch = .ack ∧ t.bridge.txn.phase = .readServed ∧ t.bridge.port = .bridge
        ∧ t.bridge.combined = s.bridge.combined ∧ t.bridge.mirror = s.bridge.mirror ∧ t.bridge.toMemory = [])
      ∧ (∃ t, exec (.repeatedStart .write answer) s = .next t ∧ t = { u with bridge := t.bridge }
        ∧ t.bridge.combined = s.bridge.combined ∧ t.bridge.mirror = s.bridge.mirror
        ∧ (if s.head ≠ .noMemory ∧ answer = .busy then t.bridge.toSwitch = .nack ∧ t.bridge.port = .free
            ∧ t.bridge.txn = .initial ∧ t.bridge.memOpen = false ∧ t.bridge.toMemory = [.start, .send 0xA8, .stop]
          else t.bridge.toSwitch = .ack ∧ t.bridge.txn.phase = .wordAddress ∧ t.bridge.port = .bridge
            ∧ (t.bridge.memOpen = true ↔ s.head ≠ .noMemory)
            ∧ t.bridge.toMemory = if s.head = .noMemory then [] else [.start, .send 0xA8]))
      ∧ (∃ t, exec (.repeatedStart .otherAddress answer) s = .next t ∧ t = { u with bridge := t.bridge }
        ∧ t.bridge.toSwitch = .nack ∧ t.bridge.port = .free ∧ t.bridge.txn = .initial ∧ t.bridge.toMemory = []
        ∧ t.bridge.combined = s.bridge.combined ∧ t.bridge.mirror = s.bridge.mirror) := by
  have hne : s.bridge.txn.phase ≠ .wordAddress := by rcases hp with h | h | h | h <;> rw [h] <;> decide
  have hruns : s.bridge.txn.phase.runsOn = true := by rcases hp with h | h | h | h <;> rw [h] <;> rfl
  have hbuf : s.leaveWordAddress.applyBuffer = u := by rw [State.leaveWordAddress_of_ne hne, hu]; rfl
  obtain ⟨hhead, hbridge⟩ : u.head = s.head
      ∧ u.bridge = { s.bridge with txn := { s.bridge.txn with buffer := [] } } := by
    have hc := State.applyBytes_cases { s with bridge := { s.bridge with txn := { s.bridge.txn with buffer := [] } } }
      s.bridge.txn.buffer hw
    rw [← hu] at hc
    exact hc.resolve_right fun h => hl h.1
  have hcomb : u.bridge.combined = s.bridge.combined := by rw [hbridge]
  have hmir : u.bridge.mirror = s.bridge.mirror := by rw [hbridge]
  have hopen : u.bridge.memOpen = false := by rw [hbridge]; exact hm
  have hto := fun target => State.repeatStart_to (answer := answer) hruns hbuf (by rw [hbridge]; exact hr) target
  have hub : u.bridge.port = .bridge := by rw [hbridge]; exact hb
  refine ⟨?_, ?_, ?_⟩
  · refine ⟨_, congrArg Host.Outcome.next ((hto .read).trans (State.restartRead_served hl ?_ answer)), rfl, rfl, rfl, hub, hcomb, hmir, rfl⟩
    rw [hhead, hcomb]
    exact hs.symm
  · obtain ⟨t, ht, hmove, h1, h2, hrest⟩ := State.restartWrite_spec hub hl answer
    refine ⟨t, congrArg Host.Outcome.next ((hto .write).trans ht), hmove, h1.trans hcomb, h2.trans hmir, ?_⟩
    rw [hhead] at hrest
    split at hrest
    · next hc => rw [if_pos hc]; exact hrest
    · next hc =>
      rw [if_neg hc]
      obtain ⟨h1, h2, h3, h4, h5⟩ := hrest
      refine ⟨h1, h2, h3, ?_, h5⟩
      rw [h4, hopen]
      split <;> simp [*]
  · obtain ⟨t, ht, hmove, h1, h2, h3, -, h5, h6, h7⟩ :=
      State.restartOther_spec hub hl (by rw [hbridge]; exact hr) answer
    refine ⟨t, congrArg Host.Outcome.next ((hto .otherAddress).trans ht), hmove, h1, h2, h3, ?_, h6.trans hcomb, h7.trans hmir⟩
    rw [h5, hopen]
    rfl

/-- After a memory-space word address, write or read, the memory side open. -/
theorem State.repeatStart_memory (hb : s.bridge.port = .bridge) (hr : s.bridge.txn.runOn = false) (hw : s.windowOpen = true)
    (hp : s.bridge.txn.phase = .writeMemory ∨ s.bridge.txn.phase = .readForwarded ∨ s.bridge.txn.phase = .readDone)
    (hm : s.bridge.memOpen = true) (hbuf : s.bridge.txn.buffer = []) (hn : s.head ≠ .noMemory)
    (hs : spaceOf s.bridge.combined = .memory) (hk : s.bridge.mirror = some (memoryPointer s.bridge.combined)) :
    (∃ t, exec (.repeatedStart .read answer) s = .next t ∧ t = { s with bridge := t.bridge }
        ∧ t.bridge.combined = s.bridge.combined ∧ t.bridge.mirror = s.bridge.mirror
        ∧ (if answer = .busy then t.bridge.toSwitch = .nack ∧ t.bridge.port = .free ∧ t.bridge.txn = .initial
            ∧ t.bridge.toMemory = [.start, .send 0xA9, .stop]
          else t.bridge.toSwitch = .ack ∧ t.bridge.port = .bridge ∧ t.bridge.txn.phase = .readForwarded
            ∧ t.bridge.memOpen = true ∧ t.bridge.toMemory = [.start, .send 0xA9]))
      ∧ (∃ t, exec (.repeatedStart .write answer) s = .next t ∧ t = { s with bridge := t.bridge }
        ∧ t.bridge.combined = s.bridge.combined ∧ t.bridge.mirror = s.bridge.mirror
        ∧ (if answer = .busy then t.bridge.toSwitch = .nack ∧ t.bridge.port = .free ∧ t.bridge.txn = .initial
            ∧ t.bridge.toMemory = [.start, .send 0xA8, .stop]
          else t.bridge.toSwitch = .ack ∧ t.bridge.port = .bridge ∧ t.bridge.txn.phase = .wordAddress
            ∧ t.bridge.memOpen = true ∧ t.bridge.toMemory = [.start, .send 0xA8]))
      ∧ (∃ t, exec (.repeatedStart .otherAddress answer) s = .next t ∧ t = { s with bridge := t.bridge }
        ∧ t.bridge.toSwitch = .nack ∧ t.bridge.port = .free ∧ t.bridge.txn = .initial ∧ t.bridge.toMemory = [.stop]
        ∧ t.bridge.combined = s.bridge.combined ∧ t.bridge.mirror = s.bridge.mirror) := by
  have hne : s.bridge.txn.phase ≠ .wordAddress := by rcases hp with h | h | h <;> rw [h] <;> decide
  have hruns : s.bridge.txn.phase.runsOn = true := by rcases hp with h | h | h <;> rw [h] <;> rfl
  have hu : s.leaveWordAddress.applyBuffer = s := by rw [State.leaveWordAddress_of_ne hne, State.applyBuffer_nil hbuf]
  have hl := State.head_of_windowOpen hw
  have hto := fun target => State.repeatStart_to (answer := answer) hruns hu hr target
  refine ⟨?_, ?_, ?_⟩
  · have hread := State.restartRead_memory (known := true) hl hn hs answer (by simp [hk])
    by_cases hbusy : answer = .busy
    · rw [if_neg (by simp [hbusy]), if_pos hbusy] at hread
      refine ⟨_, congrArg Host.Outcome.next ((hto .read).trans hread), rfl, rfl, rfl, ?_⟩
      rw [if_pos hbusy]
      exact ⟨rfl, State.endTxn_port hb _ _, rfl, rfl⟩
    · rw [if_pos (.inr ⟨rfl, hbusy⟩)] at hread
      refine ⟨_, congrArg Host.Outcome.next ((hto .read).trans hread), rfl, rfl, hk.symm, ?_⟩
      rw [if_neg hbusy]
      exact ⟨rfl, hb, rfl, rfl, rfl⟩
  · obtain ⟨t, ht, hmove, hcomb, hmir, hrest⟩ := State.restartWrite_spec hb hl answer
    refine ⟨t, congrArg Host.Outcome.next ((hto .write).trans ht), hmove, hcomb, hmir, ?_⟩
    by_cases hbusy : answer = .busy
    · rw [if_pos ⟨hn, hbusy⟩] at hrest
      obtain ⟨h1, h2, h3, -, h5⟩ := hrest
      rw [if_pos hbusy]
      exact ⟨h1, h2, h3, h5⟩
    · rw [if_neg fun h => hbusy h.2, if_neg hn, if_neg hn] at hrest
      obtain ⟨h1, h2, h3, h4, h5⟩ := hrest
      rw [if_neg hbusy]
      exact ⟨h1, h3, h2, h4, h5⟩
  · obtain ⟨t, ht, hmove, h1, h2, h3, -, h5, h6, h7⟩ := State.restartOther_spec hb hl hr answer
    exact ⟨t, congrArg Host.Outcome.next ((hto .otherAddress).trans ht), hmove, h1, h2, h3, h5.trans (by rw [hm]; rfl), h6, h7⟩

/-- In a transaction that ran on after a reload. -/
theorem State.repeatStart_ranOn (hb : s.bridge.port = .bridge) (hr : s.bridge.txn.runOn = true) (hbuf : s.bridge.txn.buffer = [])
    (hruns : s.bridge.txn.phase.runsOn = true) (target : RestartTarget) :
    ∃ t, exec (.repeatedStart target answer) s = .next t ∧ t = { s with bridge := t.bridge }
      ∧ t.bridge.combined = s.bridge.combined ∧ t.bridge.toMemory = []
      ∧ t.bridge.mirror = (if s.bridge.txn.phase = .wordAddress ∧ s.bridge.memOpen = true then none else s.bridge.mirror)
      ∧ (if target = .otherAddress then t.bridge.toSwitch = .nack ∧ t.bridge.port = .free ∧ t.bridge.txn = .initial
        else t.bridge.toSwitch = .ack ∧ t.bridge.port = .bridge ∧ t.bridge.txn.runOn = true
          ∧ t.bridge.txn.phase = (if target = .read then .readServed else .wordAddress)) := by
  obtain ⟨u, hu, hmove, hb', hr', hcomb, hmir⟩ : ∃ u, s.leaveWordAddress.applyBuffer = u ∧ u = { s with bridge := u.bridge }
      ∧ u.bridge.port = .bridge ∧ u.bridge.txn.runOn = true ∧ u.bridge.combined = s.bridge.combined
      ∧ u.bridge.mirror = (if s.bridge.txn.phase = .wordAddress ∧ s.bridge.memOpen = true then none else s.bridge.mirror) := by
    by_cases hc : s.bridge.txn.phase = .wordAddress ∧ s.bridge.memOpen = true
    · rw [State.leaveWordAddress_of_open hc.1 hc.2]
      exact ⟨s.mirrorUnknown, State.applyBuffer_nil hbuf, rfl, hb, hr, rfl, (if_pos hc).symm⟩
    · have hstay : s.leaveWordAddress = s := if_neg hc
      rw [hstay]
      exact ⟨s, State.applyBuffer_nil hbuf, rfl, hb, hr, rfl, (if_neg hc).symm⟩
  obtain ⟨t, ht, hframe, h1, h2, h3, -, h5⟩ := State.restartRunOn_spec hb' hr' target
  refine ⟨t, congrArg Host.Outcome.next ((State.repeatStart_runOn hruns hu hr' target answer).trans ht), ?_, h1.trans hcomb, h2,
    h3.trans hmir, h5⟩
  exact State.BridgeMoves.trans hmove hframe

/-- After a live-window write whose buffer carries a reload. -/
theorem State.repeatStart_reload {u : State} (hb : s.bridge.port = .bridge)
    (hu : u = State.applyBytes { s with bridge := { s.bridge with txn := { s.bridge.txn with buffer := [] } } } s.bridge.txn.buffer)
    (hw : s.windowOpen = true) (hp : s.bridge.txn.phase = .writeLive) (hl : u.head = .loading) (target : RestartTarget) :
    ∃ t, exec (.repeatedStart target answer) s = .next t ∧ t = { u with bridge := t.bridge }
      ∧ t.bridge.combined = s.bridge.combined ∧ t.bridge.mirror = s.bridge.mirror ∧ t.bridge.toMemory = []
      ∧ t.bridge.txn.buffer = []
      ∧ (if target = .otherAddress then t.bridge.toSwitch = .nack ∧ t.bridge.port = .free ∧ t.bridge.txn = .initial
        else t.bridge.toSwitch = .ack ∧ t.bridge.port = .bridge ∧ t.bridge.txn.runOn = true
          ∧ t.bridge.txn.phase = (if target = .read then .readServed else .wordAddress)) := by
  have hbuf : s.leaveWordAddress.applyBuffer = u := by
    rw [State.leaveWordAddress_of_ne (by rw [hp]; decide), hu]
    rfl
  have hbridge : u.bridge = { s.bridge with txn := { phase := .writeLive, runOn := true, buffer := [], snapshot := none } } := by
    have hc := State.applyBytes_cases { s with bridge := { s.bridge with txn := { s.bridge.txn with buffer := [] } } }
      s.bridge.txn.buffer hw
    rw [← hu] at hc
    refine (hc.resolve_left fun h => State.head_of_windowOpen hw (h.1.symm.trans hl)).2.trans ?_
    simp only [hp]
    rfl
  have hruns : s.bridge.txn.phase.runsOn = true := by rw [hp]; rfl
  obtain ⟨t, ht, hframe, h1, h2, h3, h4, h5⟩ :=
    State.restartRunOn_spec (u := u) (by rw [hbridge]; exact hb) (by rw [hbridge]) target
  refine ⟨t, congrArg Host.Outcome.next ((State.repeatStart_runOn hruns hbuf (by rw [hbridge]) target answer).trans ht), hframe,
    h1.trans (by rw [hbridge]), h3.trans (by rw [hbridge]), h2, h4 (by rw [hbridge]), h5⟩

/-- Before the word address is complete. -/
theorem State.repeatStart_early (hb : s.bridge.port = .bridge) (hr : s.bridge.txn.runOn = false) (hw : s.windowOpen = true)
    (hp : s.bridge.txn.phase = .wordAddress) (hbuf : s.bridge.txn.buffer = [])
    (hm : s.bridge.memOpen = true ↔ s.head ≠ .noMemory) :
    (∃ t, exec (.repeatedStart .read answer) s = .next t ∧ t = { s with bridge := t.bridge }
        ∧ t.bridge.combined = s.bridge.combined
        ∧ (if s.head = .noMemory ∨ spaceOf s.bridge.combined ≠ .memory then
            t.bridge.toSwitch = .ack ∧ t.bridge.port = .bridge ∧ t.bridge.txn.phase = .readServed
              ∧ t.bridge.toMemory = [] ∧ t.bridge.memOpen = s.bridge.memOpen
              ∧ t.bridge.mirror = (if s.bridge.memOpen then none else s.bridge.mirror)
          else if answer = .acknowledged then
            t.bridge.toSwitch = .ack ∧ t.bridge.port = .bridge ∧ t.bridge.txn.phase = .readForwarded
              ∧ t.bridge.memOpen = true ∧ t.bridge.mirror = some (memoryPointer s.bridge.combined)
              ∧ t.bridge.toMemory = [.start, .send 0xA8, .send (s.bridge.combined.extractLsb' 8 8),
                  .send (s.bridge.combined.extractLsb' 0 8), .start, .send 0xA9]
          else
            t.bridge.toSwitch = .nack ∧ t.bridge.port = .free ∧ t.bridge.txn = .initial ∧ t.bridge.memOpen = false
              ∧ t.bridge.mirror = none
              ∧ t.bridge.toMemory = [.start, .send 0xA8]
                  ++ (if answer = .busy then [] else [.send (s.bridge.combined.extractLsb' 8 8)])
                  ++ (if answer = .busy ∨ answer = .highRefused then [] else [.send (s.bridge.combined.extractLsb' 0 8)])
                  ++ (if answer = .readAddressRefused then [.start, .send 0xA9] else []) ++ [.stop]))
      ∧ (∃ t, exec (.repeatedStart .write answer) s = .next t ∧ t = { s with bridge := t.bridge }
        ∧ t.bridge.combined = s.bridge.combined
        ∧ t.bridge.mirror = (if s.bridge.memOpen then none else s.bridge.mirror)
        ∧ (if s.head ≠ .noMemory ∧ answer = .busy then t.bridge.toSwitch = .nack ∧ t.bridge.port = .free
            ∧ t.bridge.txn = .initial ∧ t.bridge.memOpen = false ∧ t.bridge.toMemory = [.start, .send 0xA8, .stop]
          else t.bridge.toSwitch = .ack ∧ t.bridge.port = .bridge ∧ t.bridge.txn.phase = .wordAddress
            ∧ t.bridge.memOpen = s.bridge.memOpen
            ∧ t.bridge.toMemory = if s.head = .noMemory then [] else [.start, .send 0xA8]))
      ∧ (∃ t, exec (.repeatedStart .otherAddress answer) s = .next t ∧ t = { s with bridge := t.bridge }
        ∧ t.bridge.toSwitch = .nack ∧ t.bridge.port = .free ∧ t.bridge.txn = .initial ∧ t.bridge.memOpen = false
        ∧ t.bridge.toMemory = (if s.bridge.memOpen then [.stop] else []) ∧ t.bridge.combined = s.bridge.combined
        ∧ t.bridge.mirror = (if s.bridge.memOpen then none else s.bridge.mirror)) := by
  obtain ⟨u, hu, hmove, hhead, hb', hr', hopen, hcomb, hmir⟩ : ∃ u, s.leaveWordAddress.applyBuffer = u
      ∧ u = { s with bridge := u.bridge } ∧ u.head = s.head ∧ u.bridge.port = .bridge ∧ u.bridge.txn.runOn = false
      ∧ u.bridge.memOpen = s.bridge.memOpen ∧ u.bridge.combined = s.bridge.combined
      ∧ u.bridge.mirror = (if s.bridge.memOpen then none else s.bridge.mirror) := by
    cases hc : s.bridge.memOpen with
    | true =>
      rw [State.leaveWordAddress_of_open hp hc]
      exact ⟨s.mirrorUnknown, State.applyBuffer_nil hbuf, rfl, rfl, hb, hr, hc, rfl, rfl⟩
    | false =>
      rw [State.leaveWordAddress_of_closed hc]
      exact ⟨s, State.applyBuffer_nil hbuf, rfl, rfl, hb, hr, hc, rfl, rfl⟩
  have hl : u.head ≠ .loading := by rw [hhead]; exact State.head_of_windowOpen hw
  have hruns : s.bridge.txn.phase.runsOn = true := by rw [hp]; rfl
  have hto := fun target => State.repeatStart_to (answer := answer) hruns hu hr' target
  refine ⟨?_, ?_, ?_⟩
  · by_cases hserved : s.head = .noMemory ∨ spaceOf s.bridge.combined ≠ .memory
    · have hread := State.restartRead_served hl (by rwa [hhead, hcomb]) answer
      refine ⟨_, congrArg Host.Outcome.next ((hto .read).trans hread), State.BridgeMoves.trans hmove (t := u) rfl, hcomb, ?_⟩
      rw [if_pos hserved]
      exact ⟨rfl, hb', rfl, rfl, hopen, hmir⟩
    · have hn : s.head ≠ .noMemory := fun h => hserved (.inl h)
      have hs : spaceOf s.bridge.combined = .memory := not_not.1 fun h => hserved (.inr h)
      have hmem : s.bridge.memOpen = true := hm.2 hn
      have hnone : u.bridge.mirror = none := hmir.trans (if_pos hmem)
      have hread := State.restartRead_memory (known := false) hl (by rwa [hhead]) (by rwa [hcomb]) answer (by simp [hnone])
      by_cases hack : answer = .acknowledged
      · rw [if_pos (.inl hack)] at hread
        refine ⟨_, congrArg Host.Outcome.next ((hto .read).trans hread), State.BridgeMoves.trans hmove (t := u) rfl, hcomb, ?_⟩
        rw [if_neg hserved, if_pos hack, ← hcomb]
        exact ⟨rfl, hb', rfl, rfl, rfl, rfl⟩
      · rw [if_neg (by simp [hack])] at hread
        have hfree : (if answer = .busy then u else u.mirrorUnknown).bridge.port = .bridge := by split <;> exact hb'
        refine ⟨_, congrArg Host.Outcome.next ((hto .read).trans hread),
          State.BridgeMoves.trans hmove (t := u) (by split <;> rfl), ?_, ?_⟩
        · refine Eq.trans ?_ hcomb
          split <;> rfl
        · rw [if_neg hserved, if_neg hack, ← hcomb]
          refine ⟨rfl, State.endTxn_port hfree _ _, rfl, ?_, ?_, rfl⟩
          · split <;> simp [State.endTxn, State.mirrorUnknown, hl]
          · split
            · exact hnone
            · rfl
  · obtain ⟨t, ht, hframe, h1, h2, h3⟩ := State.restartWrite_spec hb' hl answer
    refine ⟨t, congrArg Host.Outcome.next ((hto .write).trans ht), State.BridgeMoves.trans hmove hframe, h1.trans hcomb,
      h2.trans hmir, ?_⟩
    rw [hhead] at h3
    split at h3
    · next hc => rw [if_pos hc]; exact h3
    · next hc =>
      rw [if_neg hc]
      obtain ⟨k1, k2, k3, k4, k5⟩ := h3
      refine ⟨k1, k3, k2, k4.trans ?_, k5⟩
      split
      · exact hopen
      · next hn => exact (hm.2 hn).symm
  · obtain ⟨t, ht, hframe, h1, h2, h3, h4, h5, h6, h7⟩ := State.restartOther_spec hb' hl hr' answer
    exact ⟨t, congrArg Host.Outcome.next ((hto .otherAddress).trans ht), State.BridgeMoves.trans hmove hframe, h1, h2, h3, h4,
      h5.trans (by rw [hopen]), h6.trans hcomb, h7.trans hmir⟩

end

/-- Settles O53: a case for each place in which the repeated START finds the transaction. -/
theorem repeatedStartAppliesBuffer : Obligations.RepeatedStartAppliesBuffer := by
  intro s answer u hb hu
  refine ⟨fun hr hw hp hm hs hl => State.repeatStart_outside hb hu hr hw hp hm hs hl,
    fun hr hw hp hm hbuf hn hs hk => State.repeatStart_memory hb hr hw hp hm hbuf hn hs hk,
    fun hr hbuf hp target => State.repeatStart_ranOn hb hr hbuf ?_ target,
    fun hw hp hl target => State.repeatStart_reload hb hu hw hp hl target,
    fun hr hw hp hbuf hm => State.repeatStart_early hb hr hw hp hbuf hm⟩
  rcases hp with h | h | h | h | h | h <;> rw [h] <;> rfl

end Sys2Proof.Machine
end

section
/-! PROOF. The memory agent's chunks and failure records: retries, refused chunks, what a load chunk brings, a written record (R138,
R142, R144, R161 to R167). -/

namespace Sys2Proof.Machine

/-! ### Retries (R162, R164, R167) -/

/-- Settles O59. -/
theorem retriesAndReloadStart : Obligations.RetriesAndReloadStart := by
  intro s l r rest hr
  refine ⟨fun hl hw => ?_, fun hl hrec => ?_, fun hl hst hp => ?_, fun hp => ?_⟩
  · refine ⟨{ s with agent := { s.agent with load := some { l with retryWait := false } } }, ?_, ?_, rfl⟩
    · show execChunkRetry s = _
      unfold execChunkRetry
      rw [hl]
      rfl
    · have hstage : l.stage ≠ .awaitStart ∧ l.stage ≠ .recovery := by
        constructor <;> intro h <;> simp [Load.windowEnd, h] at hw
      unfold State.readyJob
      dsimp only
      split
      · next h => exact absurd h hstage.1
      · next h => exact absurd h hstage.2
      · rfl
  · refine ⟨{ s with agent := { s.agent with records := { r with retryWait := false } :: rest } }, ?_, ?_, rfl⟩
    · show execFailureRecordRetry s = _
      unfold execFailureRecordRetry
      rw [hrec]
    · simp [State.readyJob, hl, hr]
  · refine ⟨s.loadStep l .recovery, ?_, rfl, rfl⟩
    show execReloadLoadStart s = _
    unfold execReloadLoadStart
    rw [hl]
    exact congrArg Host.Outcome.next (if_pos ⟨hst, hp⟩)
  · show execReloadLoadStart s = _
    unfold execReloadLoadStart
    split
    · exact congrArg Host.Outcome.next (if_neg fun h => h.2 hp)
    · rfl

/-! ### Refused chunks and abnormal ends (R138, R143, R144, R162, R167) -/

theorem State.abnormal_bridge {s : State} (h : s.bridge.port = .bridge) : s.abnormal = s.endAbnormally [] := by
  simp [State.abnormal, h]

theorem State.abnormal_agent {s : State} {job : AgentJob} (h : s.bridge.port = .agent job) :
    s.abnormal = s.chunkRefused job (.laterByte 0) := by
  simp [State.abnormal, h]

theorem exec_chunkNotAcknowledged {s : State} {job : AgentJob} (h : s.bridge.port = .agent job) (at_ : NackAt) :
    exec (.chunkNotAcknowledged at_) s = .next (s.chunkRefused job at_) := by
  show execChunkNotAcknowledged at_ s = _
  simp [execChunkNotAcknowledged, h]

/-- What a refused chunk has sent through its byte number `k` is its beginning where every byte is sent without another START. -/
theorem throughByte_sends (bytes : List Byte) (k : Nat) :
    throughByte k (bytes.map MemAct.send) = (bytes.map MemAct.send).take (k + 1) := by
  induction bytes generalizing k with
  | nil => cases k <;> rfl
  | cons b rest ih =>
    cases k with
    | zero => rfl
    | succ k => exact congrArg (MemAct.send b :: ·) (ih k)

theorem recordActs_eq (slot : Fin 8) (bytes : List Byte) :
    recordActs slot bytes =
      (Config.addressWrite :: (slotAddress slot).extractLsb' 8 8 :: (slotAddress slot).extractLsb' 0 8 :: bytes).map MemAct.send := rfl

theorem throughByte_readActs (a : BusAddr) (k : Nat) : throughByte (k + 1) (readActs a) =
    [.send 0xA8, .send (a.extractLsb' 8 8)] ++ (if 1 ≤ k then [.send (a.extractLsb' 0 8)] else [])
      ++ (if 2 ≤ k then [.start, .send 0xA9] else []) := by
  match k with
  | 0 => rfl
  | 1 => rfl
  | 2 => rfl
  | j + 3 => simp [readActs, wordBytes, throughByte, Config.addressWrite, Config.addressRead]

/-- The mirror after a refused chunk: unknown unless the address byte was refused. -/
theorem State.chunkRefused_bridge (s : State) {job : AgentJob} (h : job ≠ .recovery) (at_ : NackAt) :
    (s.chunkRefused job at_).bridge = { s.bridge with
      port := .free, memOpen := false, toMemory := throughByte (refusedNumber at_) (s.chunkActs job) ++ [.stop]
      mirror := if at_ = .addressByte then s.bridge.mirror else none } := by
  unfold State.chunkRefused
  cases job with
  | recovery => exact absurd rfl h
  | loadChunk => by_cases ha : at_ = .addressByte <;> simp [ha, State.releasePort]
  | record => by_cases ha : at_ = .addressByte <;> simp [ha, State.releasePort]

theorem State.chunkRefused_frame (s : State) (job : AgentJob) (at_ : NackAt) :
    s.chunkRefused job at_ = { s with bridge := (s.chunkRefused job at_).bridge, agent := (s.chunkRefused job at_).agent } := by
  unfold State.chunkRefused
  cases job with
  | recovery => rfl
  | loadChunk => by_cases ha : at_ = .addressByte <;> simp [ha, State.releasePort]
  | record => by_cases ha : at_ = .addressByte <;> simp [ha, State.releasePort]

theorem State.chunkRefused_load (s : State) (at_ : NackAt) : (s.chunkRefused .loadChunk at_).agent =
    { s.agent with load := s.agent.load.map fun l => { l with retryWait := true } } := by
  unfold State.chunkRefused
  by_cases ha : at_ = .addressByte <;> simp [ha, State.releasePort]

theorem State.chunkRefused_record (s : State) {r : FailureRecord} {rest : List FailureRecord} (h : s.agent.records = r :: rest)
    (at_ : NackAt) : (s.chunkRefused .record at_).agent =
      { s.agent with records := (if s.agent.load = none then { r with retryWait := true } else r.hold) :: rest } := by
  unfold State.chunkRefused
  by_cases ha : at_ = .addressByte <;> simp [ha, State.releasePort, h]

/-! ### A written record (R161, R167) -/

/-- The state in which a written record leaves bridge and agent. -/
def State.recordSent (s : State) (r : FailureRecord) (rest : List FailureRecord) : State :=
  { s with
    bridge := { s.bridge with
      port := .free, memOpen := false, toMemory := recordActs s.agent.nextSlot (r.bytes s.agent.nextSerial) ++ [.stop]
      mirror := if s.head = .noMemory then none else some (memoryPointer (slotAddress s.agent.nextSlot)) }
    agent := { s.agent with records := rest, nextSlot := s.agent.nextSlot + 1
                            nextSerial := min 65535 (s.agent.nextSerial + 1), skipped := 0 } }

/-- The record that a written failure record queues. -/
def State.recordReported (s u : State) (r : FailureRecord) : State :=
  u.queueEvent (some r.leg) (.recordWritten s.agent.nextSlot s.agent.nextSerial)

theorem State.recordDone_eq (s : State) (r : FailureRecord) (rest : List FailureRecord) : s.recordDone r rest =
    if s.report.memoryFault then
      (s.recordSent r rest).inEitherOrder (fun u => s.recordReported u r) (·.endCondition none .memoryFault)
    else s.recordReported (s.recordSent r rest) r := rfl

/-- Only the report unit, the leg records and the counter of free choices differ. -/
def State.ReportsAlone (s t : State) : Prop := t = { s with report := t.report, legs := t.legs, freeCount := t.freeCount }

theorem State.ReportMoves.alone {s t : State} (h : s.ReportMoves t) : s.ReportsAlone t := by
  unfold State.ReportMoves at h
  unfold State.ReportsAlone
  conv_lhs => rw [h]
  rw [h]

theorem State.ReportsAlone.trans {s t u : State} (h : s.ReportsAlone t) (k : t.ReportsAlone u) : s.ReportsAlone u := by
  unfold State.ReportsAlone at *
  rw [k, h]

theorem State.freeCount_alone (s : State) (k : Nat) : s.ReportsAlone { s with freeCount := k } := rfl

theorem State.ReportsAlone.bridge {s t : State} (h : s.ReportsAlone t) : t.bridge = s.bridge := by rw [h]

theorem State.ReportsAlone.agent {s t : State} (h : s.ReportsAlone t) : t.agent = s.agent := by rw [h]

/-- Both orders of two things done in the report unit alone. -/
theorem State.inEitherOrder_alone (s : State) {f g : State → State} (hf : ∀ t : State, t.ReportsAlone (f t))
    (hg : ∀ t : State, t.ReportsAlone (g t)) : s.ReportsAlone (s.inEitherOrder f g) := by
  unfold State.inEitherOrder
  dsimp only
  split
  · exact ((s.freeCount_alone _).trans (hg _)).trans (hf _)
  · exact ((s.freeCount_alone _).trans (hf _)).trans (hg _)

theorem State.recordDone_alone (s : State) (r : FailureRecord) (rest : List FailureRecord) :
    (s.recordSent r rest).ReportsAlone (s.recordDone r rest) := by
  rw [State.recordDone_eq]
  split
  · exact State.inEitherOrder_alone _ (fun t => (t.queueEvent_moves _ _).alone) fun t => (t.endCondition_moves _ _).alone
  · exact (State.queueEvent_moves _ _ _).alone

/-- A condition that does not hold is not changed (R112). -/
theorem State.endCondition_idle {s : State} {owner : Option LegId} {code : FaultCode} (h : s.condition owner code = false) :
    s.endCondition owner code = s := by
  simp [State.endCondition, h]

/-- What changes in another part of the state than the report unit adds no act. -/
theorem State.ReportsBeside.apart {s t u : State} {acts : List ReportAct} {skipped : List LegId}
    (h : s.ReportsBeside t acts skipped) (hr : u.report = t.report) (hl : u.legs = t.legs) : s.ReportsBeside u acts skipped :=
  h.congr (by rw [hr]) (by rw [hr]) (by rw [hr]) (by rw [hr]) (by rw [hr]) (by rw [hr])
    fun o c => State.condition_congr hl (by rw [hr]) (by rw [hr]) o c

theorem ownsCode_head {code : FaultCode} (h : code = .planBad ∨ code = .memoryFault) : OwnsCode none code :=
  ⟨fun _ => h, fun _ => rfl⟩

theorem ownsCode_memoryFault : OwnsCode none .memoryFault := ownsCode_head (.inr rfl)

theorem ownsCode_planBad : OwnsCode none .planBad := ownsCode_head (.inl rfl)

/-- A record stands in the queue with fewer than `k` records after it. -/
def State.QueuedNear (s : State) (q : EventRecord) (k : Nat) : Prop :=
  ∃ pre post, s.report.events = pre ++ q :: post ∧ post.length < k

/-- A record near the tail stays as others join, and is one further from the tail. -/
theorem State.QueuedNear.queueEvent {s : State} {q : EventRecord} {k : Nat} (h : s.QueuedNear q k) (hk : k < 32)
    (leg : Option LegId) (kind : EventKind) : (s.queueEvent leg kind).QueuedNear q (k + 1) := by
  obtain ⟨pre, post, he, hl⟩ := h
  show ∃ pre' post', (if decide (Config.eventCapacity ≤ s.report.events.length) then s.report.events.tail else s.report.events)
    ++ [_] = pre' ++ q :: post' ∧ _
  split
  · next hfull =>
    have h32 : 32 ≤ s.report.events.length := of_decide_eq_true hfull
    rw [he, List.length_append, List.length_cons] at h32
    cases pre with
    | nil => simp at h32; omega
    | cons a pre =>
      refine ⟨pre, post ++ [_], by rw [he]; simp; rfl, ?_⟩
      rw [List.length_append]
      exact Nat.add_lt_add_right hl 1
  · refine ⟨pre, post ++ [_], by rw [he]; simp; rfl, ?_⟩
    rw [List.length_append]
    exact Nat.add_lt_add_right hl 1

theorem State.QueuedNear.mono {s : State} {q : EventRecord} {k m : Nat} (h : s.QueuedNear q k) (hk : k ≤ m) : s.QueuedNear q m := by
  obtain ⟨pre, post, he, hl⟩ := h
  exact ⟨pre, post, he, hl.trans_le hk⟩

theorem State.queueEvent_queuedNear (s : State) (leg : Option LegId) (kind : EventKind) :
    (s.queueEvent leg kind).QueuedNear { seq := s.report.nextSeq, leg, time := s.report.headClock, kind } 1 :=
  ⟨_, [], rfl, Nat.one_pos⟩

theorem State.QueuedNear.congr {s t : State} {q : EventRecord} {k : Nat} (h : s.QueuedNear q k)
    (he : t.report.events = s.report.events) : t.QueuedNear q k := by
  unfold State.QueuedNear
  rw [he]
  exact h

theorem State.QueuedNear.endCondition {s : State} {q : EventRecord} (h : s.QueuedNear q 1) (owner : Option LegId)
    (code : FaultCode) : (s.endCondition owner code).QueuedNear q 3 := by
  have hs := (s.setCondition_events owner code false).1
  unfold State.endCondition
  dsimp only
  split
  · split
    · exact (h.congr hs).mono (by omega)
    · have hu := (h.congr hs).queueEvent (by omega)
      split
      · exact State.QueuedNear.queueEvent (hu _ _) (by omega) _ _
      · exact (hu _ _).mono (by omega)
  · exact h.mono (by omega)

theorem State.QueuedNear.mem {s : State} {q : EventRecord} {k : Nat} (h : s.QueuedNear q k) : q ∈ s.report.events := by
  obtain ⟨pre, post, he, -⟩ := h
  rw [he]
  simp

theorem State.recordReported_queued (s u : State) (r : FailureRecord) : (s.recordReported u r).QueuedNear
    { seq := u.report.nextSeq, leg := some r.leg, time := u.report.headClock
      kind := .recordWritten s.agent.nextSlot s.agent.nextSerial } 1 := u.queueEvent_queuedNear _ _

/-- A written record's report: RECORD_WRITTEN beside the end of MEMORY_FAULT's condition, in either order (R156). -/
theorem State.recordDone_reports (s : State) (r : FailureRecord) (rest : List FailureRecord) :
    (∃ acts ∈ [[ReportAct.queues (some r.leg) (.recordWritten s.agent.nextSlot s.agent.nextSerial), .ends none .memoryFault],
        [.ends none .memoryFault, .queues (some r.leg) (.recordWritten s.agent.nextSlot s.agent.nextSerial)]],
      s.Reports (s.recordDone r rest) acts)
    ∧ ∃ seq, (s.recordDone r rest).QueuedNear
        { seq, leg := some r.leg, time := s.report.headClock
          kind := .recordWritten s.agent.nextSlot s.agent.nextSerial } 3 := by
  have hsent (k : Nat) : s.Reports { s.recordSent r rest with freeCount := k } [] := (State.Reports.refl s).apart rfl rfl
  have hwritten {u : State} {acts : List ReportAct} (hu : s.Reports u acts) : s.Reports (s.recordReported u r) _ :=
    State.ReportsBeside.queueEvent hu (some r.leg) (.recordWritten s.agent.nextSlot s.agent.nextSerial) (by simp)
  rw [State.recordDone_eq]
  unfold State.inEitherOrder
  by_cases hm : s.report.memoryFault = true
  · rw [if_pos hm]
    dsimp only
    by_cases hf : Config.freeOrder (s.recordSent r rest).freeCount = true
    · rw [if_pos hf]
      have hend := State.ReportsBeside.endCondition (hsent ((s.recordSent r rest).freeCount + 1)) ownsCode_memoryFault
      have hclock := hend.2.2.1
      generalize State.endCondition _ _ _ = u at hend hclock ⊢
      refine ⟨⟨_, by simp, hwritten hend⟩, _, (hclock ▸ s.recordReported_queued u r).mono (by omega)⟩
    · rw [if_neg hf]
      have hq := s.recordReported_queued { s.recordSent r rest with freeCount := (s.recordSent r rest).freeCount + 1 } r
      exact ⟨⟨_, List.mem_cons_self, State.ReportsBeside.endCondition (hwritten (hsent _)) ownsCode_memoryFault⟩, _,
        hq.endCondition none .memoryFault⟩
  · rw [if_neg hm]
    have hrep := State.ReportsBeside.endCondition (hwritten (hsent (s.recordSent r rest).freeCount)) ownsCode_memoryFault
    have hidle : (s.recordReported (s.recordSent r rest) r).condition none .memoryFault = false := Bool.eq_false_iff.2 hm
    have hq := s.recordReported_queued (s.recordSent r rest) r
    rw [show ({ s.recordSent r rest with freeCount := (s.recordSent r rest).freeCount } : State) = s.recordSent r rest from rfl,
      State.endCondition_idle hidle] at hrep
    exact ⟨⟨_, List.mem_cons_self, hrep⟩, _, hq.mono (by omega)⟩

/-! ### The bytes of a record (R161) -/

theorem sum_toNat_mod (bytes : List Byte) (b : Byte) :
    (b.toNat + (bytes.map BitVec.toNat).sum) % 256 = (bytes.foldl (· + ·) b).toNat := by
  induction bytes generalizing b with
  | nil => exact Nat.mod_eq_of_lt b.isLt
  | cons c rest ih =>
    rw [List.foldl_cons, ← ih (b + c), BitVec.toNat_add, List.map_cons, List.sum_cons]
    omega

/-- The check byte makes the bytes sum to 0 modulo 256. -/
theorem checkByte_sum (bytes : List Byte) : ((bytes ++ [checkByte bytes]).map BitVec.toNat).sum % 256 = 0 := by
  have h := sum_toNat_mod bytes 0
  have hlt := (bytes.foldl (· + ·) (0 : Byte)).isLt
  rw [List.map_append, List.sum_append, List.map_singleton, List.sum_singleton, checkByte, BitVec.toNat_neg]
  rw [show (0 : Byte).toNat = 0 from rfl, Nat.zero_add] at h
  omega

/-- The bytes of a record before its zeros, at the offsets of R161. -/
def FailureRecord.fields (r : FailureRecord) (serial : Nat) : List Byte :=
  [BitVec.ofNat 8 serial, BitVec.ofNat 8 (serial / 256)] ++ fourBytes r.time
    ++ [BitVec.ofNat 8 r.leg.val, BitVec.ofNat 8 r.cause.number, if r.before = .lost then 5 else 2,
      match r.rate with | .one => 1 | .two => 2]
    ++ r.taps ++ r.eyes ++ twoBytes r.glitch ++ twoBytes r.lost ++ [BitVec.ofNat 8 r.skipped]

theorem FailureRecord.body_eq (r : FailureRecord) (serial : Nat) : r.body serial = r.fields serial ++ List.replicate 16 0 := by
  unfold FailureRecord.body FailureRecord.fields
  rw [littleEndian_four, littleEndian_two, littleEndian_two]
  cases r.before <;> rfl

theorem FailureRecord.fields_length (r : FailureRecord) (serial : Nat) (ht : r.taps.length = 24) (he : r.eyes.length = 8) :
    (r.fields serial).length = 47 := by
  simp [FailureRecord.fields, fourBytes, twoBytes, ht, he]

theorem FailureRecord.bytes_eq (r : FailureRecord) (serial : Nat) :
    r.bytes serial = r.fields serial ++ (List.replicate 16 0 ++ [checkByte (r.body serial)]) := by
  rw [FailureRecord.bytes, ← List.append_assoc, ← r.body_eq]

theorem slotAddress_bytes (slot : Fin 8) : wordBytes (slotAddress slot) =
    [.send (BitVec.ofNat 8 (4 + slot.val / 4)), .send (BitVec.ofNat 8 (64 * (slot.val % 4)))] := by revert slot; decide

/-- Settles O60. -/
theorem recordIsWritten : Obligations.RecordIsWritten := by
  intro s r rest hp hrec ht he
  have hexec : exec .recordWritten s = .next (s.recordDone r rest) := by
    show execRecordWritten s = _
    simp [execRecordWritten, hp, hrec]
  have halone := s.recordDone_alone r rest
  obtain ⟨hacts, seq, hq⟩ := s.recordDone_reports r rest
  have hfault : (s.recordDone r rest).report.memoryFault = false := by
    obtain ⟨acts, hm, hr⟩ := hacts
    refine (State.ReportsBeside.condition hr none .memoryFault).trans ?_
    simp only [List.mem_cons, List.not_mem_nil, or_false] at hm
    rcases hm with rfl | rfl <;> rfl
  refine ⟨_, hexec, by rw [halone.bridge]; rfl, hfault, halone.agent, fun hn => ?_, ⟨_, hq.mem, rfl, rfl, rfl⟩, hacts,
    r.bytes s.agent.nextSerial, ?_, checkByte_sum _, ?_, ?_, ?_⟩
  · rw [halone.bridge]
    show (if s.head = .noMemory then none else some (memoryPointer (slotAddress s.agent.nextSlot))) = _
    rw [if_neg hn]
    generalize s.agent.nextSlot = slot
    revert slot; decide
  · simp [FailureRecord.bytes_eq, r.fields_length _ ht he]
  · rw [FailureRecord.bytes_eq, List.take_left' (r.fields_length _ ht he)]
    rfl
  · rw [FailureRecord.bytes_eq, List.drop_left' (r.fields_length _ ht he)]
    rfl
  · rw [halone.bridge]
    show recordActs s.agent.nextSlot (r.bytes s.agent.nextSerial) ++ [.stop] = _
    rw [recordActs, slotAddress_bytes]
    rfl

/-- Settles O55. -/
theorem abnormalAndRefused : Obligations.AbnormalAndRefused := by
  intro s at_ l a r rest k
  refine ⟨fun hp => ?_, fun hp hl ha => ?_, fun hp hrec ht he hk => ?_, fun hp => ?_⟩
  · refine ⟨s.endAbnormally [], congrArg Host.Outcome.next (State.abnormal_bridge hp), s.endAbnormally_moves [], ?_⟩
    unfold State.endAbnormally
    cases hm : s.bridge.memOpen with
    | true => exact ⟨State.endTxn_port (s := s.mirrorUnknown) hp _ _, rfl, rfl, rfl, rfl⟩
    | false => exact ⟨State.endTxn_port hp _ _, rfl, rfl, rfl, rfl⟩
  · have hb := s.chunkRefused_bridge (job := .loadChunk) (by simp) at_
    refine ⟨_, exec_chunkNotAcknowledged hp at_, by rw [hb], ?_, ?_, by rw [hb], s.chunkRefused_frame _ _⟩
    · rw [hb]
      show throughByte (refusedNumber at_) (s.chunkActs .loadChunk) ++ [.stop] = _
      have hacts : s.chunkActs .loadChunk = readActs a := by simp [State.chunkActs, hl, ha]
      rw [hacts]
      cases at_ with
      | addressByte => rfl
      | laterByte b => exact congrArg (· ++ [MemAct.stop]) (throughByte_readActs a b.val)
    · rw [s.chunkRefused_load, hl]
      rfl
  · have hb := s.chunkRefused_bridge (job := .record) (by simp) at_
    refine ⟨_, exec_chunkNotAcknowledged hp at_, by rw [hb], ⟨s.recordDone r rest, ?_, ?_⟩, fun hl => ?_, by rw [hb],
      s.chunkRefused_frame _ _⟩
    · show execRecordWritten s = _
      simp [execRecordWritten, hp, hrec]
    · rw [hb, (s.recordDone_alone r rest).bridge]
      show throughByte (refusedNumber at_) (s.chunkActs .record) ++ [.stop]
        = (recordActs s.agent.nextSlot (r.bytes s.agent.nextSerial) ++ [MemAct.stop]).take (k + 1) ++ [.stop]
      have hacts : s.chunkActs .record = recordActs s.agent.nextSlot (r.bytes s.agent.nextSerial) := by
        simp [State.chunkActs, hrec]
      have hnum : refusedNumber at_ = k := by rw [hk]; cases at_ <;> rfl
      have hlen : (recordActs s.agent.nextSlot (r.bytes s.agent.nextSerial)).length = 67 := by
        simp [recordActs, wordBytes, FailureRecord.bytes_eq, r.fields_length _ ht he]
      have hle : k + 1 ≤ 67 := by
        rw [hk]
        cases at_ with
        | addressByte => decide
        | laterByte b => exact Nat.succ_le_succ (Nat.succ_le_of_lt b.isLt)
      rw [hacts, hnum, List.take_append_of_le_length (by rw [hlen]; exact hle), recordActs_eq, throughByte_sends]
    · rw [s.chunkRefused_record hrec, if_pos hl]
  · exact (congrArg Host.Outcome.next (State.abnormal_agent hp)).trans (exec_chunkNotAcknowledged hp _).symm

/-! ### The chunks of a load (R138, R146, R162) -/

/-- What a read chunk leaves outside the report unit. -/
theorem State.chunkRead_frame (s : State) (a : BusAddr) :
    ((s.releasePort (readActs a ++ [.stop])).moveMirror (memoryPointer (a + 64))).ReportMoves (s.chunkRead a) :=
  State.endCondition_moves _ _ _

theorem State.endCondition_head_legs (s : State) (code : FaultCode) : (s.endCondition none code).legs = s.legs := by
  unfold State.endCondition
  dsimp only
  have hs : (s.setCondition none code false).legs = s.legs := by cases code <;> rfl
  split
  · split
    · exact hs
    · split <;> exact hs
  · rfl

theorem State.chunkRead_legs (s : State) (a : BusAddr) : (s.chunkRead a).legs = s.legs := State.endCondition_head_legs _ _

theorem State.chunkRead_reports (s : State) (a : BusAddr) : s.Reports (s.chunkRead a) [.ends none .memoryFault] := by
  have hu : s.Reports ((s.releasePort (readActs a ++ [.stop])).moveMirror (memoryPointer (a + 64))) [] :=
    (State.Reports.refl s).apart rfl rfl
  unfold State.chunkRead
  generalize (s.releasePort (readActs a ++ [.stop])).moveMirror (memoryPointer (a + 64)) = u at hu ⊢
  exact State.ReportsBeside.endCondition hu ownsCode_memoryFault

theorem State.Reports.memoryFault_ended {s t : State} {acts : List ReportAct} (h : s.Reports t (acts ++ [.ends none .memoryFault])) :
    t.report.memoryFault = false := by
  refine (State.ReportsBeside.condition h none .memoryFault).trans ?_
  rw [List.foldl_append]
  rfl

theorem State.refreshDiffers_unreported (s : State) (n : LegId) : s.Unreported (s.refreshDiffers n) :=
  s.modLeg_unreported n (fun l => { l with differs := pendingDiffers s.pendingLegs[n] l.source }) fun _ => rfl

theorem State.leg_refreshDiffers (s : State) (n : LegId) : (s.refreshDiffers n).leg n =
    { s.leg n with differs := pendingDiffers s.pendingLegs[n] (s.leg n).source } := s.leg_modLeg_same n _

theorem legChunk_end (n : LegId) :
    memoryPointer (BitVec.ofNat 16 (0x0040 + 64 * n.val) + 64) = BitVec.ofNat 14 (0x0080 + 64 * n.val) := by
  revert n; decide

/-- Settles O56. -/
theorem loadChunks : Obligations.LoadChunks := by
  intro s l bytes n hl hh
  have hrun (hp : s.bridge.port = .agent .loadChunk) : s.chunkRunning = some l := by simp [State.chunkRunning, hp, hl]
  have hbridge (a : BusAddr) : (s.chunkRead a).bridge = { s.bridge with
      port := .free, memOpen := false, toMemory := readActs a ++ [.stop], mirror := some (memoryPointer (a + 64)) } := by
    have hm := s.chunkRead_frame a
    unfold State.ReportMoves at hm
    rw [hm]
    simp [State.moveMirror, State.releasePort, hh]
  have hpend (a : BusAddr) : (s.chunkRead a).pendingHeader = s.pendingHeader ∧ (s.chunkRead a).pendingLegs = s.pendingLegs := by
    have hm := s.chunkRead_frame a
    unfold State.ReportMoves at hm
    rw [hm]
    exact ⟨rfl, rfl⟩
  refine ⟨fun hp hst => ⟨s.recoveryDone l, ?_, rfl, rfl, rfl, rfl, rfl⟩, fun hp hst => ?_, fun hp hst => ?_⟩
  · show execBusRecovery s = _
    simp [execBusRecovery, State.recoveryRunning, hp, hl, hst]
  · have hrep : s.Reports (s.headerRead l bytes) [.ends none .memoryFault] := (s.chunkRead_reports 0x0000).apart rfl rfl
    refine ⟨s.headerRead l bytes, ?_, rfl, (hpend 0x0000).2, congrArg Bridge.port (hbridge 0x0000),
      congrArg Bridge.mirror (hbridge 0x0000), State.Reports.memoryFault_ended (acts := []) hrep, hrep, rfl⟩
    show execHeaderChunk bytes s = _
    simp [execHeaderChunk, hrun hp, hst]
  · have hb := hbridge (BitVec.ofNat 16 (0x0040 + 64 * n.val))
    have hpd := hpend (BitVec.ofNat 16 (0x0040 + 64 * n.val))
    have hlegs := State.leg_congr (s.chunkRead_legs (BitVec.ofNat 16 (0x0040 + 64 * n.val)))
    have hrep := s.chunkRead_reports (BitVec.ofNat 16 (0x0040 + 64 * n.val))
    have hexec : exec (.legRecordChunk bytes) s = .next (s.legRead l n bytes) := by
      show execLegRecordChunk bytes s = _
      simp [execLegRecordChunk, hrun hp, hst]
    unfold State.legRead at hexec
    generalize s.chunkRead (BitVec.ofNat 16 (0x0040 + 64 * n.val)) = u at hb hpd hlegs hrep hexec
    have hun : s.Reports ((u.loadPending n bytes).loadStep l (stageAfterLeg n)) [.ends none .memoryFault] := by
      refine State.ReportsBeside.apart (t := u.loadPending n bytes) ?_ rfl rfl
      have hset : s.Reports { u with pendingLegs := u.pendingLegs.set n.val bytes n.isLt } [.ends none .memoryFault] :=
        hrep.apart rfl rfl
      exact hset.unreported (State.refreshDiffers_unreported _ n)
    have hpages (m : LegId) : (u.pendingLegs.set n.val bytes n.isLt)[m] = if m = n then bytes else s.pendingLegs[m] := by
      simp only [Fin.getElem_fin, Vector.getElem_set, hpd.2, Fin.ext_iff, eq_comm (a := n.val)]
    refine ⟨_, hexec, hpd.1, hpages, ?_, congrArg Bridge.port hb, ?_, State.Reports.memoryFault_ended (acts := []) hun, hun, rfl⟩
    · have hl' : ((u.loadPending n bytes).loadStep l (stageAfterLeg n)).leg n = { u.leg n with
          differs := pendingDiffers (u.pendingLegs.set n.val bytes n.isLt)[n] (u.leg n).source } :=
        State.leg_refreshDiffers { u with pendingLegs := u.pendingLegs.set n.val bytes n.isLt } n
      rw [hl', hlegs, hpages, if_pos rfl]
      exact bne_iff_ne
    · refine (congrArg Bridge.mirror hb).trans ?_
      exact congrArg some (legChunk_end n)

end Sys2Proof.Machine
end

section
/-! PROOF. Power-on and the reset input: the reset values hold and meet every law (O3, O4, O5). -/

namespace Sys2Proof.Machine

/-! ### What the state right after power-on holds, by the manual's names -/

theorem reset_exch (i : Lane) (x : Side) : State.reset.exch i x = .initial := by
  cases x <;> simp [State.exch, State.reset, Sides.get]

theorem reset_txAt (j : Lane) (x : Side) : (State.reset.tx[j]).get x = .initial := by
  cases x <;> simp [State.reset, Sides.get]

theorem reset_rxAt (j : Lane) (x : Side) : (State.reset.rx[j]).get x = .initial := by
  cases x <;> simp [State.reset, Sides.get]

theorem reset_leg (n : LegId) : State.reset.leg n = .initial := by simp [State.leg, State.reset]

theorem reset_slice (j : Lane) : State.reset.slice j = .initial j := by
  revert j; decide

theorem reset_owner (j : Lane) : State.reset.owner j = none := by simp [State.owner, reset_slice, Slice.initial]

theorem reset_laneState (i : Lane) (x : Side) : State.reset.laneState i x = .quiet := by
  simp [State.laneState, reset_exch, Exchange.initial]

theorem reset_not_inGroup (n : LegId) (j : Lane) : ¬ State.reset.inGroup n j := by
  simp [State.inGroup, reset_leg, Leg.initial]

/-! ### O3, O4 -/

/-- Settles O3: the reset values, read by the manual's names. -/
theorem powerOnValues : Obligations.PowerOnValues := by
  intro s
  refine ⟨{ State.reset with freeCount := s.freeCount, pending := s.pending }, rfl, rfl, rfl, rfl, rfl, rfl, rfl, rfl, rfl,
    rfl, rfl, rfl, rfl, rfl, rfl, rfl, rfl, rfl, rfl, rfl, rfl, rfl, ?_, ?_, ?_, ?_⟩
  · intro n x
    have hwidth : (State.reset.leg n).width = 0 := by rw [reset_leg]; rfl
    exact if_pos hwidth
  · exact reset_slice
  · exact fun n => ⟨reset_leg n, congrArg Leg.profile (reset_leg n)⟩
  · intro i x
    have hexch : ({ State.reset with freeCount := s.freeCount, pending := s.pending }).exch i x = .initial :=
      reset_exch i x
    have htx : ({ State.reset with freeCount := s.freeCount, pending := s.pending }).txPath i x = .initial :=
      reset_txAt _ x
    have hrx : ({ State.reset with freeCount := s.freeCount, pending := s.pending }).rxPath i x = .initial :=
      reset_rxAt _ x
    simp only [State.laneState, hexch, htx, hrx]
    refine ⟨rfl, rfl, rfl, rfl, rfl, rfl, rfl, rfl, rfl, rfl, rfl, rfl, rfl, rfl, rfl, rfl, rfl, rfl, rfl, ?_, rfl⟩
    intro r
    cases r <;> rfl

/-- Settles O4: the assertion puts the reset values and no load, the release begins one. -/
theorem resetLine : Obligations.ResetLine := by
  intro s
  refine ⟨⟨s.heldInReset, rfl, rfl, rfl, rfl, rfl, rfl, rfl, rfl, rfl, rfl, rfl, rfl, rfl, rfl, rfl, rfl, rfl, rfl, rfl,
    rfl, ?_⟩, ?_⟩
  · intro hphase
    exact if_neg hphase
  · intro hheld
    exact congrArg Host.Outcome.next (if_pos hheld)

/-! ### O5 -/

theorem initial_leg_ok : Leg.initial.Ok := by
  simp [Leg.Ok, Leg.initial, Profile.initial]

theorem initial_profile_ok : Profile.initial.Ok := by
  refine ⟨by decide, by decide, by decide, by decide, by decide, by decide, by decide, by decide, by decide, by decide,
    by decide, ?_⟩
  intro r x
  cases r <;> cases x <;> decide

theorem initial_exchange_ok : Exchange.initial.RequesterOk ∧ Exchange.initial.FramesOk := by
  simp [Exchange.RequesterOk, Exchange.FramesOk, Exchange.initial, Requester.initial, TapsReceived.Ok]

theorem initial_eye_ok : EyeMonitor.initial.Ok := by simp [EyeMonitor.Ok, EyeMonitor.initial]

theorem reset_attentionOk : State.reset.AttentionOk := by
  simp [State.AttentionOk, State.attentionDue, State.reset, Report.initial, Leg.initial, allLegs, State.leg]

theorem reset_legsOk : State.reset.LegsOk := by
  refine ⟨?_, ?_, fun _ => rfl, fun h => absurd h (by decide)⟩
  · intro n
    rw [reset_leg]
    exact initial_leg_ok
  · intro n _
    rw [reset_leg]
    rfl

theorem reset_planOk : State.reset.PlanOk := by
  have hpair : ∀ j : Lane, (State.reset.slice j).pair = j := fun j => by rw [reset_slice]; rfl
  refine ⟨?_, ?_, ?_, fun j _ => hpair j, ?_, ?_⟩
  · intro n
    rw [reset_leg]
    exact Or.inl rfl
  · intro j n
    simp [reset_owner, reset_not_inGroup]
  · intro j
    rw [reset_owner, reset_owner]
  · intro j k h
    rwa [hpair, hpair] at h
  · intro j n m h
    exact absurd h (reset_not_inGroup n j)

theorem reset_lanesOk : State.reset.LanesOk := by
  refine ⟨?_, fun i _ x => reset_laneState i x, ?_⟩
  · intro i n h
    rw [reset_owner] at h
    cases h
  · intro i x _
    have hrx : State.reset.rxPath i x = .initial := reset_rxAt _ x
    rw [hrx]
    rfl

theorem reset_setsOk : State.reset.SetsOk := by
  refine ⟨fun n j x r h => absurd h (reset_not_inGroup n j), ?_⟩
  intro i x n h
  rw [reset_owner] at h
  cases h

theorem reset_exchangesOk : State.reset.ExchangesOk := by
  intro i x
  rw [reset_exch]
  exact initial_exchange_ok

theorem reset_wordsOk : State.reset.WordsOk := by
  refine ⟨?_, ?_⟩
  · intro i x
    rw [reset_exch]
    decide
  · intro j x
    rw [reset_txAt]
    rfl

theorem reset_eyesOk : State.reset.EyesOk := by
  intro j x
  rw [reset_rxAt]
  exact initial_eye_ok

theorem reset_agentOk : State.reset.AgentOk := by
  simp [State.AgentOk, State.reset, Agent.initial, Bridge.initial]

theorem reset_bridgeOk : State.reset.BridgeOk := by
  simp [State.BridgeOk, State.reset, Bridge.initial, Txn.initial, TxnPhase.owns, TxnPhase.space]

/-- Settles O5: each law at the reset values. -/
theorem lawsHoldAtReset : Obligations.LawsHoldAtReset := by
  rintro s rfl
  refine ⟨⟨by decide, trivial⟩, ?_, reset_attentionOk, reset_legsOk, reset_planOk, reset_lanesOk, ?_, reset_setsOk,
    reset_exchangesOk, reset_wordsOk, reset_eyesOk, reset_agentOk, reset_bridgeOk⟩
  · simp [State.FaultsOk, State.reset, Report.initial]
  · intro n
    rw [reset_leg]
    exact initial_profile_ok

end Sys2Proof.Machine
end

section
/-! PROOF. The control word: what is composed is read back, and one corrupted bit is noticed (O6; R22, R23). -/

namespace Sys2Proof.Machine

/-! ### The check as a sum of nibbles -/

/-- Nibble `j` of a word, the lowest first. -/
def wordNibble (w : ControlWord) (j : Fin 8) : BitVec 4 := w.extractLsb' (4 * j.val) 4

theorem extract_body (w : ControlWord) {k : Nat} (h : k + 4 ≤ 28) :
    (w.extractLsb' 4 28).extractLsb' k 4 = w.extractLsb' (4 + k) 4 := by
  ext i hi
  simp only [BitVec.getElem_extractLsb', BitVec.getLsbD_extractLsb']
  rw [Nat.add_assoc, decide_eq_true (by omega : k + i < 28), Bool.true_and]

theorem checkHolds_iff (w : ControlWord) : checkHolds w = true ↔ ∑ j : Fin 8, wordNibble w j = 0 := by
  have hbody : bodySum (w.extractLsb' 4 28) = wordNibble w 7 + wordNibble w 6 + wordNibble w 5 + wordNibble w 4
      + wordNibble w 3 + wordNibble w 2 + wordNibble w 1 := by
    unfold bodySum
    rw [extract_body w (by omega), extract_body w (by omega), extract_body w (by omega), extract_body w (by omega),
      extract_body w (by omega), extract_body w (by omega), extract_body w (by omega)]
    rfl
  have hlow : w.extractLsb' 0 4 = wordNibble w 0 := rfl
  rw [checkHolds, beq_iff_eq, Fin.sum_univ_eight, hbody, hlow]
  have horder : ∀ a b c d e f g h : BitVec 4, a + b + c + d + e + f + g + h = h + g + f + e + d + c + b + a := by
    intros; ring
  rw [horder]

/-- One bit of a word belongs to one nibble, which changes with it. -/
theorem wordNibble_flip (w : ControlWord) (k : Fin 32) (j : Fin 8) :
    wordNibble (w ^^^ BitVec.twoPow 32 k.val) j = wordNibble w j ↔ j.val ≠ k.val / 4 := by
  rw [wordNibble, wordNibble, BitVec.extractLsb'_xor]
  have hself : ∀ a m : BitVec 4, a ^^^ m = a ↔ m = 0 := by decide
  rw [hself]
  refine ⟨fun h hj => ?_, fun hj => ?_⟩
  · have hbit := congrArg (fun m : BitVec 4 => m.getLsbD (k.val % 4)) h
    simp only [BitVec.getLsbD_extractLsb', BitVec.getLsbD_twoPow] at hbit
    rw [decide_eq_true (Nat.mod_lt _ (by omega)), decide_eq_true k.isLt, decide_eq_true (by omega)] at hbit
    exact absurd hbit (by decide +revert)
  · ext i hi
    simp only [BitVec.getElem_extractLsb', BitVec.getLsbD_twoPow]
    simp
    omega

theorem checkHolds_flip {w : ControlWord} (k : Fin 32) (h : checkHolds w = true) :
    checkHolds (w ^^^ BitVec.twoPow 32 k.val) = false := by
  by_contra hne
  have hflip := (checkHolds_iff _).1 (Bool.of_not_eq_false hne)
  have hw := (checkHolds_iff w).1 h
  let hit : Fin 8 := ⟨k.val / 4, by omega⟩
  rw [← Finset.add_sum_erase _ _ (Finset.mem_univ hit)] at hflip hw
  have hrest : ∑ j ∈ Finset.univ.erase hit, wordNibble (w ^^^ BitVec.twoPow 32 k.val) j
      = ∑ j ∈ Finset.univ.erase hit, wordNibble w j :=
    Finset.sum_congr rfl fun j hj => (wordNibble_flip w k j).2 fun he =>
      Finset.ne_of_mem_erase hj (Fin.ext he)
  rw [hrest] at hflip
  exact (wordNibble_flip w k hit).1 (add_right_cancel (hflip.trans hw.symm)) rfl

theorem checkHolds_withCheck (body : BitVec 28) : checkHolds (withCheck body) = true := by
  unfold checkHolds withCheck
  rw [BitVec.extractLsb'_append_eq_of_le (by omega), BitVec.extractLsb'_append_eq_of_add_le (by omega),
    BitVec.extractLsb'_eq_self, BitVec.extractLsb'_eq_self]
  simp

/-! ### The codes -/

theorem ReqTap.ofCode_code (t : ReqTap) : ReqTap.ofCode t.code = some t := by cases t <;> decide

theorem AnswerOutcome.ofCode_code (o : AnswerOutcome) : AnswerOutcome.ofCode o.code = o := by cases o <;> decide

theorem AnswerLimit.ofCode_code (l : AnswerLimit) : AnswerLimit.ofCode l.code = l := by cases l <;> decide

theorem Verdict.ofCode_code (v : Verdict) : Verdict.ofCode v.code = v := by cases v <;> decide

theorem deltaOfCode_deltaCode {d : Int} (h : -3 ≤ d ∧ d ≤ 3) : deltaOfCode (deltaCode d) = some d := by
  obtain ⟨hlo, hhi⟩ := h
  interval_cases d <;> decide

theorem countOfCode_sendable {c : BitVec 4} (h : c.toNat ≤ 7 ∨ c = 15) : countOfCode c = some c := by
  refine if_neg fun hbad => ?_
  obtain hlow | rfl := h
  · omega
  · exact absurd hbad.2 (by decide)

/-! ### The fields of a composed word -/

theorem TuneFields.sendable_iff (f : TuneFields) : f.sendable = true ↔
    (-3 ≤ f.delta ∧ f.delta ≤ 3) ∧ (-3 ≤ f.applied ∧ f.applied ≤ 3) ∧ (f.count.toNat ≤ 7 ∨ f.count = 15) := by
  simp [TuneFields.sendable, and_assoc]

/-- A field of a composed word lies four bits above its place in the body. -/
theorem extract_withCheck (body : BitVec 28) {k n : Nat} (h : 4 ≤ k) :
    (withCheck body).extractLsb' k n = body.extractLsb' (k - 4) n := BitVec.extractLsb'_append_eq_of_le h

/-- Reading at a place of the body reads at that place of its eleven fields in a row. -/
theorem extract_tuneBody (f : TuneFields) (k n : Nat) : (tuneBody f).extractLsb' k n =
    BitVec.extractLsb' (n := 2 + 3 + 3 + 3 + 3 + 3 + 2 + 2 + 1 + 4 + 2) k n
      (1#2 ++ f.tap.code ++ deltaCode f.delta ++ f.seq ++ f.echo ++ deltaCode f.applied ++ f.outcome.code ++ f.limit.code
        ++ f.verdict.code ++ f.count ++ 0#2) := rfl

theorem readTune_tuneWord {f : TuneFields} (h : f.sendable = true) : readTune (tuneWord f) = some f := by
  obtain ⟨hdelta, happlied, hcount⟩ := f.sendable_iff.1 h
  unfold readTune tuneWord
  simp (disch := omega) only [extract_withCheck, extract_tuneBody, BitVec.extractLsb'_append_eq_of_le,
    BitVec.extractLsb'_append_eq_of_add_le, Nat.reduceSub, BitVec.extractLsb'_eq_self, ReqTap.ofCode_code,
    deltaOfCode_deltaCode hdelta, deltaOfCode_deltaCode happlied, countOfCode_sendable hcount, AnswerOutcome.ofCode_code,
    AnswerLimit.ofCode_code, Verdict.ofCode_code]

theorem readWord_tuneWord {f : TuneFields} (h : f.sendable = true) : readWord (tuneWord f) = some (.tune f) := by
  have hkind : (tuneWord f).extractLsb' 30 2 = 1 := by
    unfold tuneWord
    simp (disch := omega) only [extract_withCheck, extract_tuneBody, BitVec.extractLsb'_append_eq_of_le, Nat.reduceSub,
      BitVec.extractLsb'_eq_self]
    rfl
  have hcheck : checkHolds (tuneWord f) = true := checkHolds_withCheck _
  rw [readWord, if_pos hcheck, if_pos hkind, readTune_tuneWord h]
  rfl

theorem readWord_fillWord (r : FillReason) : readWord (fillWord r) = some (.fill r) := by cases r <;> decide

/-- Settles O6: the fields are read back one by one, and a flipped bit changes one nibble of the check sum. -/
theorem controlWordRoundTrip : Obligations.ControlWordRoundTrip := by
  refine ⟨fun f r hf => ⟨readWord_tuneWord hf, readWord_fillWord r⟩, fun w k hvalid => if_neg ?_⟩
  have hcheck : checkHolds w = true := by
    by_contra hbad
    exact hvalid (if_neg hbad)
  rw [checkHolds_flip k hcheck]
  decide

end Sys2Proof.Machine
end

section
/-! PROOF. How a stored page is read (O7; R4, R37, R54 to R57, R61, R97, R161, R163). -/

namespace Sys2Proof.Machine

/-! ### The header -/

theorem headerWidth_eq (p : Page) (n : LegId) : headerWidth p n = p[1 + n.val].toNat := pageByte_eq p (1 + n.val) (by omega)

theorem allLegs_getElem (k : Fin 8) : allLegs[k.val]'(by have : allLegs.length = 8 := rfl; omega) = k := by
  revert k; decide

/-- The widths of the first `k` legs are the bytes after the format code. -/
theorem widths_take (p : Page) {k : Nat} (h : k ≤ 8) :
    (allLegs.take k).map (headerWidth p) = ((p.toList.drop 1).take k).map BitVec.toNat := by
  have hlegs : allLegs.length = 8 := rfl
  refine List.ext_getElem (by simp [hlegs]; omega) fun i hi _ => ?_
  have hik : i < k := by simp at hi; omega
  have hleg : allLegs[i]'(by omega) = (⟨i, by omega⟩ : Fin 8) := allLegs_getElem ⟨i, by omega⟩
  simp only [List.getElem_map, List.getElem_take, hleg, headerWidth_eq, List.getElem_drop, Vector.getElem_toList]

theorem dealtFirst_eq (p : Page) (n : LegId) :
    dealtFirst p n = (((p.toList.drop 1).take n.val).map BitVec.toNat).sum :=
  congrArg List.sum (widths_take p (by omega))

theorem allLegs_all (f : LegId → Bool) : allLegs.all f = true ↔ ∀ n, f n = true := by
  rw [List.all_eq_true]
  exact ⟨fun h n => h n (by revert n; decide), fun h n _ => h n⟩

theorem planValid_iff (p : Page) : planValid p = true ↔
    (∀ n, headerWidth p n = 0 ∨ headerWidth p n = 1 ∨ headerWidth p n = 2 ∨ headerWidth p n = 4)
      ∧ (∀ n, headerWidth p n = 2 → dealtFirst p n % 2 = 0)
      ∧ (∀ n, headerWidth p n = 4 → dealtFirst p n = 0 ∨ dealtFirst p n = 4)
      ∧ (allLegs.map (headerWidth p)).sum ≤ 8 := by
  unfold planValid
  rw [Bool.and_eq_true, allLegs_all, decide_eq_true_iff, ← and_assoc, ← and_assoc]
  refine and_congr_left fun _ => ?_
  simp only [Bool.and_eq_true, Bool.or_eq_true, beq_iff_eq, bne_iff_ne, forall_and, ne_eq, imp_iff_not_or, or_assoc]

/-! ### The profile of a leg record (R97) -/

theorem storedTaps_eq (p : Page) (r : RateClass) (x : Side) :
    storedTaps p (startOffset r x) = ⟨storedTap p r x 0, storedTap p r x 1, storedTap p r x 2⟩ := by
  cases r <;> cases x <;> simp [storedTaps, storedTap, startOffset, setNumber, pageByte_eq]

theorem profileOf_start (p : Page) (r : RateClass) (x : Side) : ((profileOf p).start.get r).get x = recordStart p r x := by
  cases r <;> cases x <;> rfl

theorem profileOf_equalizer (p : Page) (r : RateClass) (x : Side) :
    ((profileOf p).equalizer.get r).get x = min 15 (storedCode p r x) := by
  cases r <;> cases x <;>
    simp [profileOf, ByClass.get, Sides.get, recordEqualizer, pageByte_eq, storedCode, setNumber]

theorem recordStart_taps (p : Page) (r : RateClass) (x : Side) :
    ((((recordStart p r x).pre : Nat) : Int), (((recordStart p r x).main : Nat) : Int), (((recordStart p r x).post : Nat) : Int)) =
      startTaps (recordCeiling p) (recordFloor p) (storedTap p r x 0) (storedTap p r x 1) (storedTap p r x 2) := by
  unfold recordStart
  rw [repairSet_taps, storedTaps_eq]

theorem profileOf_read (p : Page) : ProfileRead p (profileOf p) := by
  unfold ProfileRead
  refine ⟨?_, ?_, ?_, ?_, ?_, ?_, ?_, ?_, ?_, ?_, ?_, ?_, ?_, ?_, ?_, ?_, fun r x => ⟨?_, profileOf_equalizer p r x⟩⟩
  · simp [profileOf, pageByte_eq]
  · simp only [profileOf, pageByte_eq p 1 (by omega)]
    split <;> simp <;> omega
  · simp [profileOf, pageByte_eq]
  · simp only [profileOf, pageByte_eq p 3 (by omega)]
    exact BitVec.eq_of_toNat_eq (by simp)
  · simp only [profileOf, pageByte_eq p 4 (by omega)]
    split <;> simp_all
  · simp [profileOf, atLeastOne, pageByte_eq]
  · simp [profileOf, atLeastOne, pageByte_eq]
  · simp [profileOf, atLeastOne, pageByte_eq]
  · simp [profileOf, atLeastOne, pageByte_eq]
  · simp [profileOf, pageByte_eq]
  · simp [profileOf, recordTarget, pageByte_eq]
  · simp [profileOf, recordMinimum, pageByte_eq]
  · simp [profileOf, pageByte_eq]
  · simp [profileOf, clampRange, pageByte_eq]
  · simp [profileOf, recordCeiling, clampRange, pageByte_eq]
  · simp [profileOf, recordFloor, clampRange, pageByte_eq]
  · rw [profileOf_start]
    exact recordStart_taps p r x

/-- A start set differs from the stored taps where one of its taps does. -/
theorem recordStart_altered (p : Page) (r : RateClass) (x : Side) : recordStart p r x ≠ storedTaps p (startOffset r x) ↔
    storedTap p r x 0 ≠ (recordStart p r x).pre ∨ storedTap p r x 1 ≠ (recordStart p r x).main
      ∨ storedTap p r x 2 ≠ (recordStart p r x).post := by
  rw [storedTaps_eq]
  generalize recordStart p r x = c
  obtain ⟨a, b, d⟩ := c
  simp only [ne_eq, Coef.mk.injEq]
  omega

/-- A class and side whose start set or equalizer code is not the stored one, written out. -/
theorem startsAltered_iff (p : Page) :
    (∃ (r : RateClass) (x : Side), storedTap p r x 0 ≠ (((profileOf p).start.get r).get x).pre
        ∨ storedTap p r x 1 ≠ (((profileOf p).start.get r).get x).main
        ∨ storedTap p r x 2 ≠ (((profileOf p).start.get r).get x).post
        ∨ storedCode p r x ≠ ((profileOf p).equalizer.get r).get x) ↔
      recordStart p .one .s ≠ storedTaps p 16 ∨ recordStart p .one .c ≠ storedTaps p 19
        ∨ recordStart p .two .s ≠ storedTaps p 22 ∨ recordStart p .two .c ≠ storedTaps p 25
        ∨ 15 < pageByte p 28 ∨ 15 < pageByte p 29 ∨ 15 < pageByte p 30 ∨ 15 < pageByte p 31 := by
  have hcode : ∀ r x, storedCode p r x ≠ ((profileOf p).equalizer.get r).get x ↔
      15 < pageByte p (28 + (setNumber r x).val) := by
    intro r x
    have hstored : storedCode p r x = pageByte p (28 + (setNumber r x).val) := (pageByte_eq p _ _).symm
    rw [profileOf_equalizer, ← hstored]
    omega
  have hset : ∀ r x, (storedTap p r x 0 ≠ (((profileOf p).start.get r).get x).pre
        ∨ storedTap p r x 1 ≠ (((profileOf p).start.get r).get x).main
        ∨ storedTap p r x 2 ≠ (((profileOf p).start.get r).get x).post
        ∨ storedCode p r x ≠ ((profileOf p).equalizer.get r).get x) ↔
      recordStart p r x ≠ storedTaps p (startOffset r x) ∨ 15 < pageByte p (28 + (setNumber r x).val) := by
    intro r x
    rw [recordStart_altered, profileOf_start, hcode, or_assoc, or_assoc]
  simp only [hset]
  constructor
  · rintro ⟨r, x, h | h⟩
    · cases r <;> cases x <;> simp [startOffset] at h <;> simp [h]
    · cases r <;> cases x <;> simp [setNumber] at h <;> simp [h]
  · rintro (h | h | h | h | h | h | h | h)
    exacts [⟨.one, .s, .inl h⟩, ⟨.one, .c, .inl h⟩, ⟨.two, .s, .inl h⟩, ⟨.two, .c, .inl h⟩, ⟨.one, .s, .inr h⟩,
      ⟨.one, .c, .inr h⟩, ⟨.two, .s, .inr h⟩, ⟨.two, .c, .inr h⟩]

theorem recordClamped_iff (p : Page) : recordClamped p = true ↔ ProfileAltered p (profileOf p) := by
  unfold recordClamped ProfileAltered
  rw [startsAltered_iff]
  simp only [Bool.or_eq_true, decide_eq_true_eq, bne_iff_ne, or_assoc]
  simp only [pageByte_eq, Nat.reduceLT]
  have hlift : ∀ v : Nat, v = 0 ↔ v ≠ atLeastOne v := fun v => by unfold atLeastOne; omega
  have htop : ∀ k v : Nat, k < v ↔ v ≠ min k v := fun k v => by omega
  refine or_congr Iff.rfl (.trans or_assoc.symm (or_congr ?_ ?_))
  · simp only [profileOf, pageByte_eq, Nat.reduceLT]
    by_cases hone : p[1].toNat ≤ 1
    · rw [if_pos hone]; show _ ↔ p[1].toNat ≠ 1; omega
    · rw [if_neg hone]; show _ ↔ p[1].toNat ≠ 2; omega
  · simp only [profileOf, pageByte_eq, Nat.reduceLT]
    exact or_congr Iff.rfl (or_congr Iff.rfl (or_congr (hlift _) (or_congr (hlift _) (or_congr (hlift _) (or_congr (hlift _)
      (or_congr (htop 15 _) (or_congr Iff.rfl (or_congr Iff.rfl (or_congr (htop 127 _) Iff.rfl)))))))))

/-- Settles O7: each reading of a page, by its bytes. -/
theorem storedPagesAreRead : Obligations.StoredPagesAreRead := by
  intro p first hfirst
  have hbyte : ∀ n : LegId, headerWidth p n = p[1 + n.val].toNat := headerWidth_eq p
  have hdealt : ∀ n, dealtFirst p n = first n := fun n => (dealtFirst_eq p n).trans (hfirst n).symm
  have hcheck : checkByteHolds p = true ↔ (p.toList.map BitVec.toNat).sum % 256 = 0 := beq_iff_eq
  refine ⟨hcheck, ?_, ?_, fun n => ⟨hbyte n, hdealt n⟩, ?_, profileOf_read p, recordClamped_iff p, rfl⟩
  · unfold headerAccepted
    rw [Bool.and_eq_true, hcheck, beq_iff_eq, pageByte_eq p 0 (by omega), BitVec.ofNat_toNat, BitVec.setWidth_eq]
    rfl
  · rw [slotSerial, pageByte_eq p 0 (by omega), pageByte_eq p 1 (by omega)]
  · rw [planValid_iff]
    have htotal : allLegs.map (headerWidth p) = ((p.toList.drop 1).take 8).map BitVec.toNat := widths_take p le_rfl
    simp only [hbyte, hdealt, ← htotal]

end Sys2Proof.Machine
end

section
/-! PROOF. The end of a load and the memory's timeouts (O57, O58; R4, R5, R43, R99, R112, R145, R163, R165, R167). -/

namespace Sys2Proof.Machine

/-! ### What reports alone, the counter of free choices included -/

/-- Only the report unit, conditions of legs and the counter of free choices differ. -/
structure State.ReportsOnly (s t : State) : Prop where
  alone : s.ReportsAlone t
  legs : ∀ m : LegId, t.leg m = { s.leg m with conds := (t.leg m).conds }

theorem State.ReportsOnly.trans {s t u : State} (h : s.ReportsOnly t) (k : t.ReportsOnly u) : s.ReportsOnly u :=
  ⟨h.alone.trans k.alone, fun m => by rw [k.legs m, h.legs m]⟩

theorem State.CondsMove.only {s t : State} (h : s.CondsMove t) : s.ReportsOnly t := ⟨h.moves.alone, h.legs⟩

theorem State.inEitherOrder_only (s : State) {f g : State → State} (hf : ∀ t : State, t.CondsMove (f t))
    (hg : ∀ t : State, t.CondsMove (g t)) : s.ReportsOnly (s.inEitherOrder f g) := by
  have hcount : s.ReportsOnly { s with freeCount := s.freeCount + 1 } := ⟨rfl, fun _ => rfl⟩
  unfold State.inEitherOrder
  dsimp only
  split
  · exact (hcount.trans (hg _).only).trans (hf _).only
  · exact (hcount.trans (hf _).only).trans (hg _).only

theorem State.endProfileBads_condsMove (s : State) : s.CondsMove s.endProfileBads := by
  unfold State.endProfileBads
  generalize allLegs = legs
  induction legs generalizing s with
  | nil => exact .refl s
  | cons n rest ih => exact (s.endCondition_condsMove _ _).trans (ih _)

theorem ownsCode_profileBad (n : LegId) : OwnsCode (some n) .profileBad := ownsCode_some n (by simp) (by simp)

theorem State.ReportsBeside.endProfileBads {s t : State} {acts : List ReportAct} (h : s.Reports t acts) :
    s.Reports t.endProfileBads (acts ++ profileBadEnds) := by
  unfold State.endProfileBads profileBadEnds
  generalize allLegs = legs
  induction legs generalizing t acts with
  | nil => simpa using h
  | cons n rest ih =>
    have hn := ih (State.ReportsBeside.endCondition h (ownsCode_profileBad n))
    rwa [List.append_assoc] at hn

/-- The load count rises and HEAD_LOADED is the last record. -/
theorem State.ReportsBeside.countLoad {s t : State} {acts : List ReportAct} (h : s.Reports t acts) :
    s.Reports t.countLoad (acts ++ [.queues none (.headLoaded t.head (t.loadCount + 1))]) := by
  have hcount : s.Reports { t with loadCount := t.loadCount + 1 } acts := State.ReportsBeside.apart h rfl rfl
  exact State.ReportsBeside.queueEvent hcount none _ (by simp)

/-! ### No plan (R5, R43) -/

/-- The legs' records where no leg exists. -/
def State.absentLegs (s : State) : State := allLegs.foldl (fun u n => u.modLeg n Leg.absent) s.lapsePlan

theorem State.noPlan_eq (s : State) :
    s.noPlan = s.absentLegs.onExchanges allLanes fun i x u => u.forgetLearned i x := rfl

theorem State.foldLegs_only (f : Leg → Leg) (s : State) :
    allLegs.foldl (fun u n => u.modLeg n f) s = { s with legs := (allLegs.foldl (fun u n => u.modLeg n f) s).legs } := by
  generalize allLegs = legs
  induction legs generalizing s with
  | nil => rfl
  | cons n rest ih =>
    rw [List.foldl_cons, ih]
    rfl

theorem State.lapsePlan_slice (s : State) (j : Lane) : s.lapsePlan.slice j = (s.slice j).lapse j := by
  have hkeep (t : State) (k : Lane) (h : k ≠ j) : (t.setSlice k ((t.slice k).lapse k)).slice j = t.slice j :=
    t.slice_setSlice_ne _ h.symm
  refine State.onLanes_reaches (P := fun t => t.slice j = s.slice j ∨ t.slice j = (s.slice j).lapse j)
    (f := fun k t => t.setSlice k ((t.slice k).lapse k)) (Q := fun t => t.slice j = (s.slice j).lapse j) (mem_allLanes j)
    (fun k _ t ht => ?_) (fun t ht => ?_) (fun k _ t hk _ hq => (hkeep t k hk).trans hq) (.inl rfl)
  · by_cases hk : k = j
    · subst hk
      rw [t.slice_setSlice_same]
      rcases ht with h | h <;> rw [h] <;> exact .inr rfl
    · rwa [hkeep t k hk]
  · rw [t.slice_setSlice_same]
    rcases ht with h | h
    · rw [h]
    · rw [h]
      rfl

theorem State.absentLegs_only (s : State) :
    s.absentLegs = { s with slices := s.lapsePlan.slices, legs := s.absentLegs.legs } := by
  have h := State.foldLegs_only Leg.absent s.lapsePlan
  have hl := s.lapsePlan_only_slices
  unfold State.absentLegs
  rw [h, hl]

theorem State.forgetAll_only (s : State) (lanes : List Lane) :
    (s.onExchanges lanes fun i x u => u.forgetLearned i x)
      = { s with tx := (s.onExchanges lanes fun i x u => u.forgetLearned i x).tx } :=
  State.onExchanges_induct (P := fun t => t = { s with tx := t.tx }) _ (fun i x t h => by rw [h]; rfl) _ rfl

theorem State.absentLegs_leg (s : State) (m : LegId) : s.absentLegs.leg m = (s.leg m).absent := by
  have h := State.onLegs_each Leg.absent allLegs_nodup s.lapsePlan m
  rw [if_pos (mem_allLegs m)] at h
  refine h.trans (congrArg Leg.absent (State.leg_congr ?_ m))
  rw [s.lapsePlan_only_slices]

theorem State.absentLegs_frame (s : State) :
    s.absentLegs.slices = s.lapsePlan.slices ∧ s.absentLegs.tx = s.tx := by
  have h := s.absentLegs_only
  generalize s.absentLegs = t at h ⊢
  rw [h]
  exact ⟨rfl, rfl⟩

theorem State.noPlan_over (s : State) :
    s.noPlan.slices = s.absentLegs.slices ∧ s.noPlan.legs = s.absentLegs.legs := by
  have h := s.absentLegs.forgetAll_only allLanes
  rw [← State.noPlan_eq] at h
  generalize s.absentLegs = u at h ⊢
  generalize s.noPlan = t at h ⊢
  rw [h]
  exact ⟨rfl, rfl⟩

theorem State.noPlan_slices (s : State) : s.noPlan.slices = s.lapsePlan.slices :=
  s.noPlan_over.1.trans s.absentLegs_frame.1

theorem State.noPlan_legs (s : State) : s.noPlan.legs = s.absentLegs.legs := s.noPlan_over.2

theorem State.noPlan_frame (s : State) :
    s.noPlan = { s with slices := s.noPlan.slices, legs := s.noPlan.legs, tx := s.noPlan.tx } := by
  have hforget := s.absentLegs.forgetAll_only allLanes
  rw [s.noPlan_slices, s.noPlan_legs]
  rw [← State.noPlan_eq] at hforget
  generalize s.noPlan = t at hforget ⊢
  have habsent := s.absentLegs_only
  generalize s.absentLegs = u at hforget habsent ⊢
  rw [hforget, habsent]

theorem State.txAt_modTx_same (s : State) (i : Lane) (x : Side) (f : TxPath → TxPath) :
    (s.modTx i x f).txAt (s.phys i x) x = f (s.txAt (s.phys i x) x) := s.tx_setTxAt_same _ x _

theorem State.txAt_modTx_ne (s : State) {i k : Lane} {x y : Side} (f : TxPath → TxPath) (h : (k, y) ≠ (s.phys i x, x)) :
    (s.modTx i x f).txAt k y = s.txAt k y := s.tx_setTxAt_ne _ h

/-- Every lane pairs with itself. -/
def State.PairsSelf (s : State) : Prop := ∀ j : Lane, (s.slice j).pair = j

theorem State.PairsSelf.phys {s : State} (h : s.PairsSelf) (i : Lane) (x : Side) : s.phys i x = i := by
  cases x with
  | s => rfl
  | c => exact h i

/-- Every path whose lane is in the list forgets its learned sets, the others keep theirs. -/
theorem State.forgetAll_path {s : State} (hs : s.PairsSelf) {lanes : List Lane} (hn : lanes.Nodup) (j : Lane) (y : Side) :
    (s.onExchanges lanes fun i x u => u.forgetLearned i x).txAt j y =
      if j ∈ lanes then (s.txAt j y).forget else s.txAt j y := by
  have hphys (t : State) (ht : t.slices = s.slices) (i : Lane) (x : Side) : t.phys i x = i :=
    (State.phys_congr ht i x).trans (hs.phys i x)
  refine State.onExchanges_each (P := fun t => t.slices = s.slices) (f := fun i x u => u.forgetLearned i x)
    (fun t => t.txAt j y) TxPath.forget (x := y) hn (fun _ _ _ t ht => ht) (fun t ht => ?_) (fun k _ x t hne ht => ?_) rfl
  · have h := t.txAt_modTx_same j y TxPath.forget
    rwa [hphys t ht] at h
  · refine t.txAt_modTx_ne TxPath.forget ?_
    rw [hphys t ht]
    exact hne.symm

theorem State.lapsePlan_pairsSelf (s : State) : s.lapsePlan.PairsSelf := fun j => by rw [s.lapsePlan_slice]; rfl

theorem State.lapsePlan_owner (s : State) (j : Lane) : s.lapsePlan.owner j = none := by
  rw [State.owner, s.lapsePlan_slice]
  rfl

/-- No leg exists: no slice is owned, every leg record is absent, no learned set is valid, and nothing else differs. -/
theorem State.noPlan_spec (s : State) :
    s.noPlan = { s with slices := s.noPlan.slices, legs := s.noPlan.legs, tx := s.noPlan.tx }
      ∧ (∀ m : LegId, s.noPlan.leg m = (s.leg m).absent) ∧ (∀ j : Lane, s.noPlan.owner j = none)
      ∧ s.noPlan.PairsSelf ∧ ∀ (j : Lane) (y : Side), s.noPlan.txAt j y = (s.txAt j y).forget := by
  have hslices := s.noPlan_slices
  refine ⟨s.noPlan_frame, fun m => ?_, fun j => ?_, fun j => ?_, fun j y => ?_⟩
  · rw [State.leg_congr s.noPlan_legs]
    exact s.absentLegs_leg m
  · rw [State.owner_congr hslices, s.lapsePlan_owner]
  · rw [State.slice_congr hslices]
    exact s.lapsePlan_pairsSelf j
  · have hpairs : s.absentLegs.PairsSelf := fun j => by
      rw [State.slice_congr s.absentLegs_frame.1]
      exact s.lapsePlan_pairsSelf j
    rw [State.noPlan_eq, State.forgetAll_path hpairs allLanes_nodup, if_pos (mem_allLanes j),
      State.txAt_congr s.absentLegs_frame.2]

theorem State.noPlan_unreported (s : State) : s.Unreported s.noPlan := by
  obtain ⟨hframe, hlegs, _⟩ := s.noPlan_spec
  exact ⟨by rw [hframe], fun m => by rw [hlegs m]; rfl⟩

/-- What stands where no leg exists, whatever the report unit has taken since. -/
theorem State.noPlan_stands {s t : State} (hslices : t.slices = s.noPlan.slices) (htx : t.tx = s.noPlan.tx)
    (hconds : ∀ m : LegId, t.leg m = { s.noPlan.leg m with conds := (t.leg m).conds }) :
    (∀ m : LegId, (t.leg m).state = .parked ∧ (t.leg m).width = 0 ∧ (t.leg m).first = 0)
      ∧ ∀ j : Lane, t.owner j = none ∧ ∀ y : Side, (t.txAt j y).learnedValid = ⟨false, false⟩
        ∧ (t.txPath j y).learnedValid = ⟨false, false⟩ := by
  obtain ⟨_, hlegs, howner, _, hpath⟩ := s.noPlan_spec
  refine ⟨fun m => ?_, fun j => ⟨by rw [State.owner_congr hslices, howner], fun y => ?_⟩⟩
  · rw [hconds m, hlegs m]
    exact ⟨rfl, rfl, rfl⟩
  · have hany (k : Lane) : (t.txAt k y).learnedValid = ⟨false, false⟩ := by
      rw [State.txAt_congr htx, hpath]
      rfl
    exact ⟨hany j, hany _⟩

/-! ### Timeouts (O58) -/

/-- The state in which a load has ended in NO_MEMORY, before it reports. -/
def State.withoutMemory (s : State) : State :=
  let t := (s.closeLoad .noMemory).noPlan
  { t with bridge := { t.bridge with mirror := none } }

/-- The end of PLAN_BAD and the raise of MEMORY_FAULT at a load's end, in either order (log 8). -/
def State.memoryFaultRaised (s : State) : State :=
  if s.report.planBad then s.inEitherOrder (·.raiseFault none .memoryFault 0) (·.endCondition none .planBad)
  else s.raiseFault none .memoryFault 0

theorem State.endNoMemory_eq (s : State) : s.endNoMemory = s.withoutMemory.memoryFaultRaised.endProfileBads.countLoad := rfl

theorem State.memoryFaultRaised_only (s : State) : s.ReportsOnly s.memoryFaultRaised := by
  unfold State.memoryFaultRaised
  split
  · exact s.inEitherOrder_only (fun t => t.raiseFault_condsMove _ _ _) fun t => t.endCondition_condsMove _ _
  · exact (s.raiseFault_condsMove _ _ _).only

theorem State.memoryFaultRaised_reports {s t : State} (h : s.Reports t []) :
    ∃ first ∈ [[ReportAct.raises none .memoryFault 0, .ends none .planBad],
        [.ends none .planBad, .raises none .memoryFault 0]], s.Reports t.memoryFaultRaised first := by
  unfold State.memoryFaultRaised
  by_cases hp : t.report.planBad = true
  · rw [if_pos hp]
    unfold State.inEitherOrder
    dsimp only
    have hcount : s.Reports { t with freeCount := t.freeCount + 1 } [] := State.ReportsBeside.apart h rfl rfl
    by_cases hf : Config.freeOrder t.freeCount = true
    · rw [if_pos hf]
      exact ⟨_, by simp, State.ReportsBeside.raiseFault (State.ReportsBeside.endCondition hcount ownsCode_planBad) 0
        ownsCode_memoryFault⟩
    · rw [if_neg hf]
      exact ⟨_, List.mem_cons_self, State.ReportsBeside.endCondition
        (State.ReportsBeside.raiseFault hcount 0 ownsCode_memoryFault) ownsCode_planBad⟩
  · rw [if_neg hp]
    have hraised := State.ReportsBeside.raiseFault h 0 ownsCode_memoryFault
    have hboth := State.ReportsBeside.endCondition hraised ownsCode_planBad
    have hidle : (t.raiseFault none .memoryFault 0).condition none .planBad = false := Bool.eq_false_iff.2 hp
    rw [State.endCondition_idle hidle] at hboth
    exact ⟨_, List.mem_cons_self, hboth⟩

theorem State.withoutMemory_reports {s t : State} (hr : t.report = s.report) (hl : t.legs = s.legs) :
    s.Reports t.withoutMemory [] := by
  have hclose : s.Reports (t.closeLoad .noMemory) [] := (State.Reports.refl s).apart hr hl
  have hplan := hclose.unreported (t.closeLoad .noMemory).noPlan_unreported
  unfold State.withoutMemory
  generalize (t.closeLoad .noMemory).noPlan = u at hplan ⊢
  exact hplan.apart rfl rfl

/-- PROFILE_BAD's ends and HEAD_LOADED leave the head's conditions. -/
theorem profileBadEnds_head (b : Bool) (code : FaultCode) (head : HeadState) (count : Byte) :
    (profileBadEnds ++ [ReportAct.queues none (.headLoaded head count)]).foldl (conditionAfter none code) b = b := by
  have hends (legs : List LegId) :
      (legs.map fun m => ReportAct.ends (some m) .profileBad).foldl (conditionAfter none code) b = b := by
    induction legs with
    | nil => rfl
    | cons m rest ih => simpa [conditionAfter] using ih
  rw [List.foldl_append, profileBadEnds, hends]
  rfl

theorem State.withoutMemory_frame (s : State) : s.withoutMemory = { s with
    head := .noMemory, slices := s.withoutMemory.slices, legs := s.withoutMemory.legs, tx := s.withoutMemory.tx
    agent := { s.agent with load := none, records := s.agent.records.map FailureRecord.hold }
    bridge := { s.bridge with mirror := none } } := by
  have h := (s.closeLoad .noMemory).noPlan_frame
  unfold State.withoutMemory
  generalize (s.closeLoad .noMemory).noPlan = u at h ⊢
  rw [h]
  rfl

/-- What a load's end in NO_MEMORY leaves, before the count of loads rises. -/
theorem State.endNoMemory_only (s : State) :
    s.withoutMemory.ReportsOnly s.withoutMemory.memoryFaultRaised.endProfileBads :=
  s.withoutMemory.memoryFaultRaised_only.trans (State.endProfileBads_condsMove _).only

theorem State.dropJob_frame (s : State) (job : AgentJob) : s.dropJob job = { s with bridge := (s.dropJob job).bridge } := by
  unfold State.dropJob
  split <;> rfl

/-- A load that ends in NO_MEMORY, from a state that differs in time and bridge alone (R5, R145, R163). -/
theorem State.endNoMemory_spec {s t : State} (h : t = { s with now := t.now, bridge := t.bridge }) :
    t.endNoMemory.head = .noMemory ∧ t.endNoMemory.agent.load = none ∧ t.endNoMemory.bridge.mirror = none
      ∧ t.endNoMemory.report.memoryFault = true ∧ t.endNoMemory.report.planBad = false
      ∧ t.endNoMemory.loadCount = s.loadCount + 1
      ∧ (∃ first ∈ [[ReportAct.raises none .memoryFault 0, .ends none .planBad],
            [.ends none .planBad, .raises none .memoryFault 0]],
          s.Reports t.endNoMemory (first ++ profileBadEnds ++ [.queues none (.headLoaded .noMemory t.endNoMemory.loadCount)]))
      ∧ t.endNoMemory.pendingHeader = s.pendingHeader ∧ t.endNoMemory.pendingLegs = s.pendingLegs
      ∧ (∀ m : LegId, (t.endNoMemory.leg m).state = .parked ∧ (t.endNoMemory.leg m).width = 0)
      ∧ ∀ (j : Lane) (y : Side), t.endNoMemory.owner j = none
          ∧ (t.endNoMemory.txPath j y).learnedValid = ⟨false, false⟩ := by
  have hstand : t.withoutMemory.ReportsOnly t.withoutMemory.memoryFaultRaised.endProfileBads := t.endNoMemory_only
  obtain ⟨first, hfirst, hraised⟩ := State.memoryFaultRaised_reports
    (State.withoutMemory_reports (s := s) (t := t) (by rw [h]) (by rw [h]))
  have hends := State.ReportsBeside.endProfileBads hraised
  have hframe := t.withoutMemory_frame
  have hplan : t.withoutMemory.slices = (t.closeLoad .noMemory).noPlan.slices
      ∧ t.withoutMemory.tx = (t.closeLoad .noMemory).noPlan.tx
      ∧ t.withoutMemory.legs = (t.closeLoad .noMemory).noPlan.legs := by
    unfold State.withoutMemory
    generalize (t.closeLoad .noMemory).noPlan = u
    exact ⟨rfl, rfl, rfl⟩
  rw [State.endNoMemory_eq]
  generalize t.withoutMemory.memoryFaultRaised.endProfileBads = u at hends hstand ⊢
  generalize t.withoutMemory = w at hframe hplan hstand
  have hcount := State.ReportsBeside.countLoad hends
  have halone := hstand.alone
  have hhead : u.head = .noMemory := by rw [halone, hframe]
  have hloads : u.loadCount = s.loadCount := by rw [halone, hframe, h]
  rw [hhead] at hcount
  have hconds (code : FaultCode) : u.countLoad.condition none code = first.foldl (conditionAfter none code) (s.condition none code) := by
    rw [State.ReportsBeside.condition hcount none code, List.append_assoc, List.foldl_append, profileBadEnds_head]
  obtain ⟨hslices, htx, hrecords⟩ := hplan
  obtain ⟨hlegs, hlanes⟩ := State.noPlan_stands (s := t.closeLoad .noMemory) (t := u) (by rw [halone]; exact hslices)
    (by rw [halone]; exact htx) fun m => by rw [← State.leg_congr hrecords]; exact hstand.legs m
  simp only [List.mem_cons, List.not_mem_nil, or_false] at hfirst
  refine ⟨hhead, ?_, ?_, (hconds .memoryFault).trans ?_, (hconds .planBad).trans ?_, congrArg (· + 1) hloads, ⟨first, ?_, hcount⟩,
    ?_, ?_, fun m => ⟨(hlegs m).1, (hlegs m).2.1⟩, fun j y => ⟨(hlanes j).1, ((hlanes j).2 y).2⟩⟩
  · show u.agent.load = none
    rw [halone, hframe]
  · show u.bridge.mirror = none
    rw [halone, hframe]
  · rcases hfirst with rfl | rfl <;> rfl
  · rcases hfirst with rfl | rfl <;> rfl
  · simpa using hfirst
  · show u.pendingHeader = s.pendingHeader
    rw [halone, hframe, h]
  · show u.pendingLegs = s.pendingLegs
    rw [halone, hframe, h]

/-- Settles O58: the load's end is that of NO_MEMORY, the record is dropped with the raise of MEMORY_FAULT. -/
theorem memoryTimeouts : Obligations.MemoryTimeouts := by
  intro s l r rest w
  refine ⟨fun hl hw => ?_, fun hactive hrec hw => ?_⟩
  · refine ⟨((s.reach w).dropJob .loadChunk).endNoMemory, ?_, State.endNoMemory_spec ?_⟩
    · show execLoadChunkTimeout s = _
      simp [execLoadChunkTimeout, hl, hw]
    · rw [State.dropJob_frame]
      rfl
  · have hrun : s.recordActive = true := by
      rcases hactive with h | h <;> simp [State.recordActive, h]
    have hexec : exec .failureRecordTimeout s = .next ((s.reach w).dropRecord rest) := by
      show execFailureRecordTimeout s = _
      simp [execFailureRecordTimeout, hrec, hw, hrun]
    have hdrop := (s.reach w).dropJob_frame .record
    have hport : s.bridge.port = .agent .record →
        ((s.reach w).dropJob .record).bridge.port = .free ∧ ((s.reach w).dropJob .record).bridge.mirror = none := fun hp => by
      rw [State.dropJob, if_pos (show (s.reach w).bridge.port = .agent .record from hp)]
      exact ⟨rfl, rfl⟩
    unfold State.dropRecord at hexec
    generalize (s.reach w).dropJob .record = t at hexec hdrop hport
    have hbase : s.Reports { t with agent := { t.agent with records := rest } } [] :=
      (State.Reports.refl s).apart (by rw [hdrop]; rfl) (by rw [hdrop]; rfl)
    have hrep := State.ReportsBeside.raiseFault hbase 0 ownsCode_memoryFault
    refine ⟨_, hexec, ?_, State.ReportsBeside.condition hrep none .memoryFault, hrep, hport⟩
    show { t.agent with records := rest } = _
    rw [hdrop]
    rfl

end Sys2Proof.Machine
end

section
/-! PROOF. A command that concerns one leg touches that leg alone (O17; chapter 1). -/

namespace Sys2Proof.Machine

/-! ### What stands beside a leg -/

/-- Whatever is not leg `n`'s stands in `t` as in `s`: the other legs' records, the lanes and paths of other owners, and of the
rest of the part all but the model's time and counter, the fault list and event queue, and the waiting failure records. -/
structure State.StandsBeside (n : LegId) (s t : State) : Prop where
  legs : ∀ m : LegId, m ≠ n → t.leg m = s.leg m
  owners : ∀ j : Lane, t.owner j = s.owner j
  slices : ∀ j : Lane, s.owner j ≠ some n → t.slice j = s.slice j
  exchs : ∀ (j : Lane) (y : Side), s.owner j ≠ some n → t.exch j y = s.exch j y
  txs : ∀ (j : Lane) (y : Side), s.owner j ≠ some n → t.txAt j y = s.txAt j y
  rxs : ∀ (j : Lane) (y : Side), s.owner j ≠ some n → t.rxAt j y = s.rxAt j y
  frame : t = { s with
    now := t.now, freeCount := t.freeCount, slices := t.slices, tx := t.tx, rx := t.rx, ex := t.ex, legs := t.legs
    report := t.report
    agent := { s.agent with records := t.agent.records, spacing := t.agent.spacing, skipped := t.agent.skipped } }
  report : t.report = { s.report with
    faults := t.report.faults, listFull := t.report.listFull, events := t.report.events, overrun := t.report.overrun
    nextSeq := t.report.nextSeq, attention := t.report.attention }

/-- The lanes of leg `n` pair among themselves (R8). -/
def State.PairsWithin (s : State) (n : LegId) : Prop := ∀ i : Lane, s.owner i = some n → s.owner (s.slice i).pair = some n

theorem State.StandsBeside.refl (n : LegId) (s : State) : s.StandsBeside n s :=
  ⟨fun _ _ => rfl, fun _ => rfl, fun _ _ => rfl, fun _ _ _ => rfl, fun _ _ _ => rfl, fun _ _ _ => rfl, rfl, rfl⟩

theorem State.StandsBeside.trans {n : LegId} {s t u : State} (h : s.StandsBeside n t) (k : t.StandsBeside n u) :
    s.StandsBeside n u := by
  have other {j : Lane} (hj : s.owner j ≠ some n) : t.owner j ≠ some n := by rwa [h.owners j]
  refine ⟨fun m hm => (k.legs m hm).trans (h.legs m hm), fun j => (k.owners j).trans (h.owners j),
    fun j hj => (k.slices j (other hj)).trans (h.slices j hj), fun j y hj => (k.exchs j y (other hj)).trans (h.exchs j y hj),
    fun j y hj => (k.txs j y (other hj)).trans (h.txs j y hj), fun j y hj => (k.rxs j y (other hj)).trans (h.rxs j y hj), ?_, ?_⟩
  · rw [k.frame, h.frame]
  · rw [k.report, h.report]

theorem State.PairsWithin.congr {n : LegId} {s t : State} (h : s.PairsWithin n) (hs : t.slices = s.slices) :
    t.PairsWithin n := fun i hi => by
  rw [State.owner_congr hs] at hi
  rw [State.slice_congr hs, State.owner_congr hs]
  exact h i hi

/-- A path of leg `n`'s lane lies in a slice of leg `n`. -/
theorem State.PairsWithin.phys {n : LegId} {s : State} (h : s.PairsWithin n) {i : Lane} (hi : s.owner i = some n) (x : Side) :
    s.owner (s.phys i x) = some n := by
  cases x with
  | s => exact hi
  | c => exact h i hi

/-- What reads the same but for the report unit, time and records stands beside every leg. -/
theorem State.StandsBeside.of_report {n : LegId} {s t : State}
    (h : t = { s with now := t.now, freeCount := t.freeCount, report := t.report, legs := t.legs
                      agent := { s.agent with records := t.agent.records, spacing := t.agent.spacing
                                              skipped := t.agent.skipped } })
    (hl : ∀ m : LegId, m ≠ n → t.leg m = s.leg m)
    (hr : t.report = { s.report with
      faults := t.report.faults, listFull := t.report.listFull, events := t.report.events, overrun := t.report.overrun
      nextSeq := t.report.nextSeq, attention := t.report.attention }) : s.StandsBeside n t := by
  have hs : t.slices = s.slices := by rw [h]
  have he : t.ex = s.ex := by rw [h]
  have hx : t.tx = s.tx := by rw [h]
  have hy : t.rx = s.rx := by rw [h]
  refine ⟨hl, fun j => State.owner_congr hs j, fun j _ => State.slice_congr hs j, fun j y _ => State.exch_congr he j y,
    fun j y _ => State.txAt_congr hx j y, fun j y _ => State.rxAt_congr hy j y, ?_, hr⟩
  rw [hs, he, hx, hy]
  exact h

theorem State.setExch_beside (s : State) {n : LegId} {i : Lane} (hi : s.owner i = some n) (x : Side) (e : Exchange) :
    s.StandsBeside n (s.setExch i x e) :=
  ⟨fun _ _ => rfl, fun _ => rfl, fun _ _ => rfl,
    fun j y hj => s.exch_setExch_ne e fun h => hj (by rw [(Prod.mk.inj h).1]; exact hi), fun _ _ _ => rfl, fun _ _ _ => rfl,
    rfl, rfl⟩

theorem State.setTxAt_beside (s : State) {n : LegId} {k : Lane} (hk : s.owner k = some n) (x : Side) (p : TxPath) :
    s.StandsBeside n (s.setTxAt k x p) :=
  ⟨fun _ _ => rfl, fun _ => rfl, fun _ _ => rfl, fun _ _ _ => rfl,
    fun j y hj => s.tx_setTxAt_ne p fun h => hj (by rw [(Prod.mk.inj h).1]; exact hk), fun _ _ _ => rfl, rfl, rfl⟩

theorem State.setRxAt_beside (s : State) {n : LegId} {k : Lane} (hk : s.owner k = some n) (x : Side) (r : RxPath) :
    s.StandsBeside n (s.setRxAt k x r) :=
  ⟨fun _ _ => rfl, fun _ => rfl, fun _ _ => rfl, fun _ _ _ => rfl, fun _ _ _ => rfl,
    fun j y hj => s.rx_setRxAt_ne r fun h => hj (by rw [(Prod.mk.inj h).1]; exact hk), rfl, rfl⟩

theorem State.setLeg_beside (s : State) (n : LegId) (l : Leg) : s.StandsBeside n (s.setLeg n l) :=
  .of_report rfl (fun _ hm => s.leg_setLeg_ne l hm) rfl

theorem State.deriveAttention_beside (n : LegId) (s : State) : s.StandsBeside n s.deriveAttention :=
  .of_report rfl (fun _ _ => rfl) rfl

theorem State.queueEvent_beside (n : LegId) (s : State) (leg : Option LegId) (kind : EventKind) :
    s.StandsBeside n (s.queueEvent leg kind) := .of_report rfl (fun _ _ => rfl) rfl

/-- A change of the fault list with a record queued stands beside every leg. -/
theorem State.StandsBeside.queued {n : LegId} {s t : State} (h : s.StandsBeside n t) (faults : List FaultEntry)
    (listFull : Bool) (leg : Option LegId) (kind : EventKind) :
    s.StandsBeside n (State.queueEvent { t with report := { t.report with faults, listFull } } leg kind) :=
  h.trans (.of_report rfl (fun _ _ => rfl) rfl)

theorem State.raiseFault_beside (s : State) (n : LegId) (code : FaultCode) (detail : Byte) :
    s.StandsBeside n (s.raiseFault (some n) code detail) :=
  (s.setLeg_beside n _).queued _ _ _ _

theorem State.endCondition_beside (s : State) (n : LegId) (code : FaultCode) :
    s.StandsBeside n (s.endCondition (some n) code) := by
  have hs : s.StandsBeside n (s.setCondition (some n) code false) := s.setLeg_beside n _
  unfold State.endCondition
  dsimp only
  split
  · split
    · exact hs
    · split
      · exact (hs.queued _ _ _ _).trans (State.queueEvent_beside n _ _ _)
      · exact hs.queued _ _ _ _
  · exact .refl n s

theorem State.clearExchange_beside (s : State) {n : LegId} (hp : s.PairsWithin n) {i : Lane} (hi : s.owner i = some n)
    (x : Side) : s.StandsBeside n (s.clearExchange i x) := by
  unfold State.clearExchange
  exact (s.setExch_beside hi x (s.exch i x).cleared).trans
    (State.setRxAt_beside (s.modExch i x Exchange.cleared) (hp.phys hi x) x _)

theorem State.clearLeg_beside (s : State) {n : LegId} (hp : s.PairsWithin n) {lanes : List Lane}
    (hl : ∀ i ∈ lanes, s.owner i = some n) :
    s.StandsBeside n (s.clearLeg n lanes) ∧ (s.clearLeg n lanes).slices = s.slices := by
  have hloop : s.StandsBeside n ((s.modLeg n Leg.cleared).onExchanges lanes fun i x t => t.clearExchange i x)
      ∧ ((s.modLeg n Leg.cleared).onExchanges lanes fun i x t => t.clearExchange i x).slices = s.slices :=
    State.onExchanges_keeps (P := fun t => s.StandsBeside n t ∧ t.slices = s.slices) (fun i hi x t ht => by
      obtain ⟨hb, hs⟩ := ht
      exact ⟨hb.trans (t.clearExchange_beside (hp.congr hs) ((hb.owners i).trans (hl i hi)) x), hs⟩)
      ⟨s.setLeg_beside n _, rfl⟩
  exact ⟨hloop.1.trans (State.deriveAttention_beside n _), hloop.2⟩

theorem State.owner_setSlice (s : State) {i : Lane} {d : Slice} (ho : d.owner = s.owner i) (j : Lane) :
    (s.setSlice i d).owner j = s.owner j := by
  by_cases hj : j = i
  · rw [hj, State.owner, State.slice_setSlice_same, ho]
  · rw [State.owner, s.slice_setSlice_ne d hj, State.owner]

theorem State.setSlice_beside (s : State) {n : LegId} {i : Lane} (hi : s.owner i = some n) {d : Slice}
    (ho : d.owner = s.owner i) : s.StandsBeside n (s.setSlice i d) :=
  ⟨fun _ _ => rfl, s.owner_setSlice ho, fun j hj => s.slice_setSlice_ne d fun h => hj (by rw [h]; exact hi),
    fun _ _ _ => rfl, fun _ _ _ => rfl, fun _ _ _ => rfl, rfl, rfl⟩

theorem State.PairsWithin.setSlice {n : LegId} {s : State} (h : s.PairsWithin n) {i : Lane} {d : Slice}
    (ho : d.owner = s.owner i) (hd : s.owner d.pair = some n) : (s.setSlice i d).PairsWithin n := by
  intro j hj
  rw [s.owner_setSlice ho] at hj ⊢
  by_cases hji : j = i
  · rwa [hji, State.slice_setSlice_same]
  · rw [s.slice_setSlice_ne d hji]
    exact h j hj

/-- A turn of a command that concerns leg `n` stands beside it. -/
theorem State.Turn.beside {R : Prop} {n : LegId} {s t : State} (h : State.Turn R True (some n) s t) (hp : s.PairsWithin n) :
    s.StandsBeside n t ∧ t.PairsWithin n := by
  have lane {i : Lane} (hi : s.InScope (some n) i) : s.owner i = some n := hi n rfl
  cases h with
  | exch i x e hi _ => exact ⟨s.setExch_beside (lane hi) x e, hp⟩
  | tx i x p hi _ => exact ⟨s.setTxAt_beside (hp.phys (lane hi) x) x p, hp⟩
  | tuning i x released hi => exact ⟨s.setTxAt_beside (hp.phys (lane hi) x) x _, hp⟩
  | rx i x r hi _ => exact ⟨s.setRxAt_beside (hp.phys (lane hi) x) x r, hp⟩
  | leg m l hn _ =>
    obtain rfl := hn n rfl
    exact ⟨s.setLeg_beside _ l, hp⟩
  | counts m l hn _ =>
    obtain rfl := hn n rfl
    exact ⟨(s.setLeg_beside _ l).trans (State.deriveAttention_beside _ _), hp⟩
  | clears m lanes hn hl =>
    obtain rfl := hn n rfl
    obtain ⟨hb, hs⟩ := s.clearLeg_beside hp fun i hi => lane (hl i hi)
    exact ⟨hb, hp.congr hs⟩
  | queues leg kind => exact ⟨State.queueEvent_beside n s leg kind, hp⟩
  | raises owner code detail _ hn =>
    obtain rfl := hn n rfl
    exact ⟨s.raiseFault_beside n code detail, hp.congr (s.raiseFault_moves _ _ _).slices⟩
  | ends owner code _ hn =>
    obtain rfl := hn n rfl
    exact ⟨s.endCondition_beside n code, hp.congr (s.endCondition_moves _ _).slices⟩
  | notes now freeCount => exact ⟨.of_report rfl (fun _ _ => rfl) rfl, hp⟩
  | asks r => exact ⟨.of_report rfl (fun _ _ => rfl) rfl, hp⟩
  | skips => exact ⟨.of_report rfl (fun _ _ => rfl) rfl, hp⟩
  | maps i d hi ho hd => exact ⟨s.setSlice_beside (lane hi) ho, hp.setSlice ho (hd n rfl trivial)⟩
  | apart t hc => cases hc
  | clearsAll hc => cases hc
  | acknowledges hc => cases hc
  | drops k hc => cases hc
  | stores a b c d hc => cases hc
  | resets t hc => cases hc

/-- A run of a command that concerns leg `n` stands beside it. -/
theorem State.Turns.beside {R : Prop} {n : LegId} {s t : State} (h : State.Turns R True (some n) s t) (hp : s.PairsWithin n) :
    s.StandsBeside n t ∧ t.PairsWithin n :=
  h.keeps (P := fun t => s.StandsBeside n t ∧ t.PairsWithin n) (fun u v hu hv => by
    obtain ⟨hb, hw⟩ := hv.beside hu.2
    exact ⟨hu.1.trans hb, hw⟩) ⟨.refl n s, hp⟩

theorem State.PlanOk.pairsWithin {s : State} (h : s.PlanOk) (n : LegId) : s.PairsWithin n := by
  obtain ⟨_, _, hpair, _⟩ := h
  exact fun i hi => (hpair i).trans hi

/-- A path of a lane that leg `n` does not own stands beside it. -/
theorem State.StandsBeside.phys {n : LegId} {s t : State} (h : s.StandsBeside n t) {j : Lane} (hj : s.owner j ≠ some n)
    (y : Side) : t.phys j y = s.phys j y := by
  cases y with
  | s => rfl
  | c => exact congrArg Slice.pair (h.slices j hj)

/-- Settles O17: the command is a run of turns in the scope of its leg, and each of them stands beside it. -/
theorem oneLegAlone : Obligations.OneLegAlone := by
  intro c s t n hplan hc h
  have hturns : State.Turns False True (some n) s t :=
    exec_turns c h (.inl hc.symm) (fun hf => hf.elim) fun m hm _ => hplan.groupClosed m
  obtain ⟨hb, _⟩ := hturns.beside (hplan.pairsWithin n)
  obtain ⟨_, _, hpair, _⟩ := hplan
  have hframe := hb.frame
  have hreport := hb.report
  have hphys {j : Lane} (hj : s.owner j ≠ some n) (y : Side) : s.owner (s.phys j y) ≠ some n := by
    cases y with
    | s => exact hj
    | c => exact fun h => hj ((hpair j).symm.trans h)
  refine ⟨hb.legs, fun j y hj => ⟨hb.exchs j y hj, ?_, ?_, hb.slices j hj⟩, hb.owners, ?_⟩
  · show t.txAt (t.phys j y) y = s.txAt (s.phys j y) y
    rw [hb.phys hj, hb.txs _ y (hphys hj y)]
  · show t.rxAt (t.phys j y) y = s.rxAt (s.phys j y) y
    rw [hb.phys hj, hb.rxs _ y (hphys hj y)]
  · refine ⟨by rw [hframe], by rw [hframe], by rw [hframe], by rw [hframe], by rw [hframe], by rw [hframe], by rw [hframe],
      by rw [hframe], by rw [hframe], ?_⟩
    exact ⟨by rw [hreport], by rw [hreport], by rw [hreport], by rw [hreport], by rw [hreport], by rw [hreport],
      by rw [hreport], by rw [hreport]⟩

end Sys2Proof.Machine
end

section
/-! PROOF. The timers of a leg: backoff, budget, bridge and cut (O35 to O38; R99 to R107, R119, R125). -/

namespace Sys2Proof.Machine

/-! ### The backoff (R107) -/

theorem exec_backoffExpiry {s : State} {n : LegId} {w : Nat} (hs : (s.leg n).state = .down) (hb : (s.leg n).backoff = some w) :
    exec (.backoffExpiry n) s = .next ((s.reach w).boundary n .backoff) := by
  show execBackoffExpiry n s = _
  simp [execBackoffExpiry, hs, hb]

/-- Settles O36: the expiry is a boundary of the state at its instant. -/
theorem backoffReachesBoundary : Obligations.BackoffReachesBoundary := by
  intro s n w hplan hs hb
  refine ⟨_, exec_backoffExpiry hs hb, (s.reach w).boundary_spec n .backoff (hplan.groupHolds n),
    (s.reach w).boundary_retryTaken n .backoff, ?_, ?_⟩
  · rw [State.boundary_keeps]
    rfl
  · exact (State.Reports.refl (s.reach w)).boundary n .backoff rfl

/-! ### Receive paths that leave DATA (R133) -/

/-- The receive path is as it was, but that its eye path may have left DATA. -/
def RxPath.LeftOrSame (p q : RxPath) : Prop := q = p ∨ q = { p with eye := p.eye.leave }

theorem RxPath.LeftOrSame.trans {p q r : RxPath} (h : p.LeftOrSame q) (k : q.LeftOrSame r) : p.LeftOrSame r := by
  unfold RxPath.LeftOrSame at *
  obtain rfl | rfl := h
  · exact k
  · obtain rfl | rfl := k <;> exact .inr rfl

theorem RxPath.LeftOrSame.signal {p q : RxPath} (h : p.LeftOrSame q) : q.signal = p.signal := by
  obtain rfl | rfl := h <;> rfl

theorem RxPath.LeftOrSame.minimum {p q : RxPath} (h : p.LeftOrSame q) : q.eye.minimum = p.eye.minimum := by
  obtain rfl | rfl := h <;> rfl

theorem State.outOfService_rx (s : State) (i : Lane) (x : Side) (k : Lane) (y : Side) :
    (s.rxAt k y).LeftOrSame ((s.outOfService i x).rxAt k y) := by
  rw [State.outOfService, State.rxAt_congr (State.clearRelease_rx _ i x)]
  unfold State.leaveService State.leaveData
  dsimp only
  split
  · rw [State.rxAt_congr (State.clearKept_rx _ i x)]
    rcases State.modRx_path (s.modTx i x fun p => { p with line := p.line.stopService }) i x
      (fun r => { r with eye := r.eye.leave }) k y with e | ⟨_, e⟩ <;> rw [e]
    · exact .inl rfl
    · exact .inr rfl
  · exact .inl rfl

theorem State.enterQuiet_rx (s : State) (i : Lane) (x : Side) (k : Lane) (y : Side) :
    (s.rxAt k y).LeftOrSame ((s.enterQuiet i x).rxAt k y) := by
  rw [State.rxAt_congr (show (s.enterQuiet i x).rx = (s.outOfService i x).rx from rfl)]
  exact s.outOfService_rx i x k y

theorem State.quietLeg_rx (s : State) (n : LegId) (k : Lane) (y : Side) :
    (s.rxAt k y).LeftOrSame ((s.quietLeg n).rxAt k y) := by
  unfold State.quietLeg
  exact State.onExchanges_keeps (P := fun t => (s.rxAt k y).LeftOrSame (t.rxAt k y)) (f := fun j x t => t.enterQuiet j x)
    (fun j _ x t ht => ht.trans (t.enterQuiet_rx j x k y)) (.inl rfl)

/-! ### Orders that the leg state gives alone (R16) -/

/-- Where every order of the leg is the same, each of its paths has it. -/
theorem State.deriveOrders_order_of (s : State) {i : Lane} {n : LegId} {o : ServiceOrder} (h : s.owner i = some n)
    (ho : ∀ (t : State) (j : Lane) (y : Side), t.leg n = s.leg n → t.orderFor n j y = o) (x : Side) :
    ((s.deriveOrders n).exch i x).order = o :=
  State.onExchanges_reaches (P := fun t => t.legs = s.legs) (f := fun j y t => t.deriveOrder n j y)
    (Q := fun t => (t.exch i x).order = o) ((s.mem_legLanes n i).2 h)
    (fun j _ y t ht => (t.deriveOrder_legs n j y).trans ht)
    (fun t ht => by
      rw [t.deriveOrder_exch]
      exact ho t i x (State.leg_congr ht n))
    (fun _ _ _ t hne _ hq => by rwa [t.deriveOrder_exch_ne n hne.symm]) rfl

/-- Orders that are all QUIET leave a silent line silent (R18). -/
theorem State.deriveOrders_silent (s : State) {n : LegId}
    (ho : ∀ (t : State) (j : Lane) (y : Side), t.leg n = s.leg n → t.orderFor n j y = .quiet) {k : Lane} {y : Side}
    (hl : (s.txAt k y).line = .quiet) : ((s.deriveOrders n).txAt k y).line = .quiet := by
  refine (State.onExchanges_keeps (P := fun t => t.legs = s.legs ∧ (t.txAt k y).line = .quiet)
    (fun j _ x t ht => ?_) ⟨rfl, hl⟩).2
  obtain ⟨hleg, hq⟩ := ht
  refine ⟨(t.deriveOrder_legs n j x).trans hleg, ?_⟩
  rcases t.deriveOrder_path n j x k y with e | e <;> rw [e]
  · exact hq
  · rw [ho t j x (State.leg_congr hleg n)]
    rfl

/-! ### A failed attempt, before it reports (R106) -/

/-- The state in which a failed attempt has done everything but ask and report. -/
def State.stoppedBy (s : State) (n : LegId) (failure : LastFailure) : State :=
  ((s.quietLeg n).modLeg n fun l => l.afterFailure failure s.now).deriveOrders n

/-- The record at an entry to DOWN or FAILED does not depend on release flags and kept marks. -/
theorem Leg.afterFailure_of_flags {l k : Leg} (h : l = { k with released := l.released, kept := l.kept }) (failure : LastFailure)
    (now : Nat) : l.afterFailure failure now = k.afterFailure failure now := by
  rw [h]
  rfl

theorem State.stoppedBy_leg (s : State) (n : LegId) (failure : LastFailure) :
    (s.stoppedBy n failure).leg n = (s.leg n).afterFailure failure s.now := by
  rw [State.stoppedBy, State.leg_congr (State.deriveOrders_legs _ n), State.leg_modLeg_same]
  exact Leg.afterFailure_of_flags ((s.serviceMoves_quietLeg n).legs n) failure s.now

theorem Leg.afterFailure_state (l : Leg) (failure : LastFailure) (now : Nat) :
    (l.afterFailure failure now).state = if l.retriesOut then .failed else .down := by
  unfold Leg.afterFailure
  dsimp only
  split <;> rfl

theorem State.orderFor_down {s : State} {n : LegId} (h : (s.leg n).state = .failed ∨ (s.leg n).state = .down) (i : Lane)
    (x : Side) : s.orderFor n i x = .quiet := by
  unfold State.orderFor
  rcases h with h | h <;> rw [h]

theorem State.stoppedBy_lanesMove (s : State) (n : LegId) (failure : LastFailure) : s.LanesMove (s.stoppedBy n failure) :=
  ((s.quietLeg_moves n).trans (State.modLeg_moves _ n _)).trans (State.deriveOrders_moves _ n)

theorem Leg.afterFailure_conds (l : Leg) (failure : LastFailure) (now : Nat) :
    (l.afterFailure failure now).conds = l.conds := (l.afterFailure_sameFlags failure now).1

theorem State.stoppedBy_unreported (s : State) (n : LegId) (failure : LastFailure) : s.Unreported (s.stoppedBy n failure) :=
  ((s.serviceMoves_quietLeg n).unreported.trans
    (State.modLeg_unreported _ n (fun l => l.afterFailure failure s.now) fun l => l.afterFailure_conds failure s.now)).trans
    (State.serviceMoves_deriveOrders _ n).unreported

/-- Every lane of a leg whose attempt has failed is QUIET and silent, with its sets, signal flag and restart count kept. -/
theorem State.stoppedBy_lane (s : State) (failure : LastFailure) {n : LegId} {j : Lane} (h : s.owner j = some n) (y : Side) :
    (s.stoppedBy n failure).laneState j y = .quiet ∧ ((s.stoppedBy n failure).exch j y).order = .quiet
      ∧ (s.stoppedBy n failure).txPath j y = { s.txPath j y with line := .quiet }
      ∧ (s.rxPath j y).LeftOrSame ((s.stoppedBy n failure).rxPath j y)
      ∧ ((s.stoppedBy n failure).exch j y).restarts = (s.exch j y).restarts := by
  have hexch := State.deriveOrders_exch ((s.quietLeg n).modLeg n fun l => l.afterFailure failure s.now) n j y
  have hpath := State.deriveOrders_path ((s.quietLeg n).modLeg n fun l => l.afterFailure failure s.now) n (s.phys j y) y
  have hrx := State.rxAt_congr (State.deriveOrders_rx ((s.quietLeg n).modLeg n fun l => l.afterFailure failure s.now) n)
    (s.phys j y) y
  have hquiet (t : State) (k : Lane) (z : Side)
      (ht : t.leg n = ((s.quietLeg n).modLeg n fun l => l.afterFailure failure s.now).leg n) : t.orderFor n k z = .quiet := by
    refine State.orderFor_down ?_ k z
    rw [ht, State.leg_modLeg_same, Leg.afterFailure_state]
    split
    · exact .inl rfl
    · exact .inr rfl
  have hslices := (s.stoppedBy_lanesMove n failure).slices
  obtain ⟨hkept, _⟩ := s.quietLeg_path n (s.phys j y) y
  obtain ⟨hrestarts, _⟩ := s.quietLeg_counts n j y
  have hsilent : ((s.stoppedBy n failure).txAt (s.phys j y) y).line = .quiet :=
    State.deriveOrders_silent _ hquiet (s.quietLeg_line h y)
  refine ⟨?_, ?_, ?_, ?_, ?_⟩
  · exact (State.deriveOrders_laneState _ n j y).trans (s.quietLeg_laneState h y)
  · exact State.deriveOrders_order_of ((s.quietLeg n).modLeg n fun l => l.afterFailure failure s.now)
      ((State.owner_congr (s.quietLeg_moves n).slices j).trans h) hquiet y
  · rw [State.txPath_eq_txAt hslices]
    refine hpath.trans ?_
    rw [show (((s.quietLeg n).modLeg n fun l => l.afterFailure failure s.now).deriveOrders n).txAt (s.phys j y) y
      = (s.stoppedBy n failure).txAt (s.phys j y) y from rfl, hsilent, State.txAt_modLeg, hkept]
    rfl
  · rw [State.rxPath_eq_rxAt hslices]
    show (s.rxPath j y).LeftOrSame _
    rw [show (s.stoppedBy n failure).rxAt (s.phys j y) y = (s.quietLeg n).rxAt (s.phys j y) y from hrx]
    exact s.quietLeg_rx n (s.phys j y) y
  · exact (congrArg Exchange.restarts hexch).trans hrestarts

end Sys2Proof.Machine
end

section
/-! PROOF. Failed attempts and recoveries, and the failure records they ask for (O35, O38; R105, R106, R125, R161, R166). -/

namespace Sys2Proof.Machine

/-! ### The report of a failure (R113, R153) -/

/-- What a failure of leg `n` reports where the leg's new state is `after`, the margin condition's act apart. -/
def failureRaises (n : LegId) (before after : LegState) (cause : LegCause) (code : FaultCode) (failure : LastFailure) :
    List ReportAct :=
  [.queues (some n) (.legState before after cause),
      .raises (some n) code (if code = .sideFail then BitVec.ofNat 8 failure.code else 0)]
    ++ (if after = .failed then [.raises (some n) .retryOut 0] else [])

/-- The codes that an attempt or a recovery can fail with. -/
def FaultCode.OfAttempt (code : FaultCode) : Prop := code = .trainTimeout ∨ code = .sideFail ∨ code = .legCut

theorem FaultCode.OfAttempt.owns {code : FaultCode} (h : code.OfAttempt) (n : LegId) : OwnsCode (some n) code := by
  obtain rfl | rfl | rfl := h <;> exact ownsCode_some n (by simp) (by simp)

theorem failureRaises_conditionAfter (n : LegId) (before after : LegState) (cause : LegCause) (code : FaultCode)
    (failure : LastFailure) (c : FaultCode) (b : Bool) :
    (failureRaises n before after cause code failure).foldl (conditionAfter (some n) c) b =
      if c = code ∨ c = .retryOut ∧ after = .failed then true else b := by
  unfold failureRaises
  by_cases hc : c = code <;> by_cases ha : after = .failed <;> by_cases hr : c = .retryOut <;>
    simp [conditionAfter, hc, ha, hr]

theorem State.ReportsBeside.raiseIf {s t : State} {acts : List ReportAct} {skipped : List LegId}
    (h : s.ReportsBeside t acts skipped) {owner : Option LegId} {code : FaultCode} (detail : Byte) (ho : OwnsCode owner code)
    (p : Prop) [Decidable p] :
    s.ReportsBeside (if p then t.raiseFault owner code detail else t)
      (acts ++ if p then [.raises owner code detail] else []) skipped := by
  by_cases hp : p
  · simpa only [if_pos hp] using h.raiseFault detail ho
  · simpa only [if_neg hp, List.append_nil] using h

/-- The state in which a failure is reported but for the margin condition. -/
def State.failureRaised (s : State) (n : LegId) (before : LegState) (cause : LegCause) (code : FaultCode)
    (failure : LastFailure) : State :=
  if (s.leg n).state = .failed then
    ((s.queueLegState n before (s.leg n).state cause).raiseFault (some n) code
      (if code = .sideFail then failure.byte else 0)).raiseFault (some n) .retryOut 0
  else (s.queueLegState n before (s.leg n).state cause).raiseFault (some n) code (if code = .sideFail then failure.byte else 0)

theorem State.reportFailure_eq (s : State) (n : LegId) (before : LegState) (cause : LegCause) (code : FaultCode)
    (failure : LastFailure) :
    s.reportFailure n before cause code failure = (s.failureRaised n before cause code failure).marginCheck n := rfl

theorem State.failureRaised_condsMove (s : State) (n : LegId) (before : LegState) (cause : LegCause) (code : FaultCode)
    (failure : LastFailure) : s.CondsMove (s.failureRaised n before cause code failure) := by
  have h := (s.queueEvent_condsMove (some n) (.legState before (s.leg n).state cause)).trans
    (State.raiseFault_condsMove _ (some n) code (if code = .sideFail then failure.byte else 0))
  unfold State.failureRaised
  split
  · exact h.trans (State.raiseFault_condsMove _ _ _ _)
  · exact h

theorem State.reportFailure_condsMove (s : State) (n : LegId) (before : LegState) (cause : LegCause) (code : FaultCode)
    (failure : LastFailure) : s.CondsMove (s.reportFailure n before cause code failure) := by
  rw [s.reportFailure_eq]
  exact (s.failureRaised_condsMove n before cause code failure).trans (State.marginCheck_condsMove _ n)

theorem State.ReportsBeside.failureRaised {s t : State} {acts : List ReportAct} {skipped : List LegId}
    (h : s.ReportsBeside t acts skipped) (n : LegId) (before : LegState) (cause : LegCause) {code : FaultCode}
    (failure : LastFailure) (hc : code.OfAttempt) :
    s.ReportsBeside (t.failureRaised n before cause code failure)
      (acts ++ failureRaises n before (t.leg n).state cause code failure) skipped := by
  have hq := (h.queueLegState n before (t.leg n).state cause).raiseFault (if code = .sideFail then failure.byte else 0)
    (hc.owns n)
  have hi := hq.raiseIf (owner := some n) (code := .retryOut) 0 (ownsCode_some n (by simp) (by simp))
    ((t.leg n).state = .failed)
  rw [LastFailure.byte_eq] at hi
  unfold State.failureRaised failureRaises
  rw [LastFailure.byte_eq]
  simpa only [List.append_assoc, List.cons_append, List.nil_append] using hi

/-- A failure's report is its acts, where no earlier act of the event touched the margin condition. -/
theorem State.ReportsBeside.reportFailure {s t : State} {acts : List ReportAct} {skipped : List LegId}
    (h : s.ReportsBeside t acts skipped) (n : LegId) (before : LegState) (cause : LegCause) {code : FaultCode}
    (failure : LastFailure) (hc : code.OfAttempt)
    (hm : t.condition (some n) .marginLow = s.condition (some n) .marginLow) :
    s.ReportsBeside (t.reportFailure n before cause code failure)
      (acts ++ failureRaises n before (t.leg n).state cause code failure
        ++ s.marginActs (t.reportFailure n before cause code failure) n) skipped := by
  rw [t.reportFailure_eq, State.marginActs_marginCheck]
  refine (h.failureRaised n before cause failure hc).marginCheck n ?_
  rw [((State.Reports.refl t).failureRaised n before cause failure hc).condition, List.nil_append,
    failureRaises_conditionAfter, hm]
  obtain rfl | rfl | rfl := hc <;> simp

/-! ### The request for a failure record (R161, R166) -/

/-- Only the report unit, conditions of legs, the agent and the counter of free choices differ. -/
structure State.ReportsAndAsks (s t : State) : Prop where
  frame : t = { s with report := t.report, legs := t.legs, freeCount := t.freeCount, agent := t.agent }
  legs : ∀ m : LegId, t.leg m = { s.leg m with conds := (t.leg m).conds }

theorem State.ReportsAndAsks.trans {s t u : State} (h : s.ReportsAndAsks t) (k : t.ReportsAndAsks u) : s.ReportsAndAsks u :=
  ⟨by rw [k.frame, h.frame], fun m => by rw [k.legs m, h.legs m]⟩

theorem State.CondsMove.asks {s t : State} (h : s.CondsMove t) : s.ReportsAndAsks t := by
  obtain ⟨hm, hl⟩ := h
  refine ⟨?_, hl⟩
  unfold State.ReportMoves at hm
  conv_lhs => rw [hm]
  rw [hm]

/-- An accepted request for a failure record. -/
def State.recordAccepted (s : State) (n : LegId) (cause : FaultCode) (before : LegState) : State :=
  { s with agent := { s.agent with records := s.agent.records ++ [s.recordContents n cause before]
                                   spacing := Config.recordSpacingMillis } }

/-- A request for a failure record that is skipped: counted and reported. -/
def State.skippedCounted (s : State) : State :=
  { s with agent := { s.agent with skipped := min 255 (s.agent.skipped + 1) } }

theorem State.requestRecord_accepted {s : State} (h : s.agent.spacing = 0) (n : LegId) (cause : FaultCode)
    (before : LegState) : s.requestRecord n cause before = s.recordAccepted n cause before := if_pos h

theorem State.requestRecord_skipped {s : State} (h : s.agent.spacing ≠ 0) (n : LegId) (cause : FaultCode)
    (before : LegState) : s.requestRecord n cause before = s.skippedCounted.queueEvent (some n) .recordSkipped := if_neg h

/-! ### The contents of a failure record (R161) -/

theorem padTo_length (k : Nat) (bytes : List Byte) : (padTo k bytes).length = k := by
  unfold padTo
  rw [List.length_take, List.length_append, List.length_replicate]
  omega

/-- The `k`th of the pieces of `m` bytes that the elements of a list give, zeros where there is none. -/
theorem pieces_drop_take {α : Type} (f : α → List Byte) {m : Nat} (hf : ∀ a, (f a).length = m) (l : List α) (k : Nat)
    {len pad : Nat} (hk : m * k + m ≤ len) (hl : len ≤ pad) :
    ((((l.flatMap f ++ List.replicate pad 0).take len).drop (m * k)).take m) = ((l[k]?).map f).getD (List.replicate m 0) := by
  rw [List.drop_take, List.take_take, Nat.min_eq_left (by omega)]
  have hpad : m * k + m ≤ pad := by omega
  clear hk hl
  induction k generalizing l with
  | zero =>
    cases l with
    | nil => simp only [List.flatMap_nil, List.nil_append, List.getElem?_nil, Nat.mul_zero, List.drop_zero,
        List.take_replicate]; simp; omega
    | cons a rest => simp [← hf a]
  | succ k ih =>
    rw [Nat.mul_succ] at hpad ⊢
    cases l with
    | nil => simp [List.drop_replicate, List.take_replicate]; omega
    | cons a rest =>
      rw [List.flatMap_cons, List.append_assoc, Nat.add_comm, ← List.drop_drop, ← hf a, List.drop_left, hf a]
      exact ih rest (by omega)

/-- A failure record's contents, in the words of its table (R161). -/
theorem State.recordContents_holds (s : State) (n : LegId) (cause : FaultCode) (before : LegState) :
    s.RecordHolds n (s.recordContents n cause before) := by
  refine ⟨rfl, rfl, rfl, rfl, rfl, rfl, padTo_length _ _, padTo_length _ _, fun k => ⟨?_, ?_⟩⟩
  · refine (pieces_drop_take (fun i => (s.txPath i .s).inUse.bytes ++ (s.txPath i .c).inUse.bytes) (m := 6) (fun _ => rfl)
      (s.legLanes n) k.val (len := 24) (pad := 24) (by omega) le_rfl).trans ?_
    cases (s.legLanes n)[k.val]? <;> rfl
  · refine (pieces_drop_take (fun i => [BitVec.ofNat 8 (s.rxPath i .s).eye.minimum,
      BitVec.ofNat 8 (s.rxPath i .c).eye.minimum]) (m := 2) (fun _ => rfl)
      (s.legLanes n) k.val (len := 8) (pad := 8) (by omega) le_rfl).trans ?_
    cases (s.legLanes n)[k.val]? <;> rfl

/-- A record's contents stand where counts, clock, in-use sets and eye minima of the leg do. -/
theorem State.RecordHolds.of_same {s t : State} {n : LegId} {r : FailureRecord} (h : t.RecordHolds n r)
    (hclock : t.report.headClock = s.report.headClock) (hskipped : t.agent.skipped = s.agent.skipped)
    (hprofile : (t.leg n).profile = (s.leg n).profile) (hglitch : (t.leg n).glitch = (s.leg n).glitch)
    (hlost : (t.leg n).lost = (s.leg n).lost) (hslices : t.slices = s.slices)
    (hlanes : ∀ (j : Lane) (y : Side), s.owner j = some n → (t.txPath j y).inUse = (s.txPath j y).inUse
      ∧ (t.rxPath j y).eye.minimum = (s.rxPath j y).eye.minimum) : s.RecordHolds n r := by
  unfold State.RecordHolds at *
  rw [hclock, hskipped, hprofile, hglitch, hlost, State.legLanes_congr hslices] at h
  obtain ⟨hleg, htime, hsk, hrate, hg, hlo, htaps, heyes, hk⟩ := h
  refine ⟨hleg, htime, hsk, hrate, hg, hlo, htaps, heyes, fun k => ?_⟩
  specialize hk k
  cases hi : (s.legLanes n)[k.val]? with
  | none => rwa [hi] at hk
  | some i =>
    have hown := (s.mem_legLanes n i).1 (List.mem_of_getElem? hi)
    simp only [hi, (hlanes i .s hown).1, (hlanes i .c hown).1, (hlanes i .s hown).2, (hlanes i .c hown).2] at hk
    exact hk

/-! ### Asking and reporting -/

theorem State.ReportsAndAsks.refl (s : State) : s.ReportsAndAsks s := ⟨rfl, fun _ => rfl⟩

theorem State.ReportsAndAsks.fabric {s t : State} (h : s.ReportsAndAsks t) :
    t.slices = s.slices ∧ t.tx = s.tx ∧ t.rx = s.rx ∧ t.ex = s.ex := by
  obtain ⟨hf, _⟩ := h
  rw [hf]
  exact ⟨rfl, rfl, rfl, rfl⟩

/-- Reports and requests leave the alarms, and so the margin condition's act. -/
theorem State.ReportsAndAsks.marginActs {u t : State} (h : u.ReportsAndAsks t) (s : State) (n : LegId) :
    s.marginActs t n = s.marginActs u n := by
  obtain ⟨hs, _, hr, _⟩ := h.fabric
  unfold State.marginActs State.anyAlarm
  simp only [State.legLanes_congr hs, State.rxPath_congr hr hs]

/-- Two things done in either order: what holds of both orders holds. -/
theorem State.inEitherOrder_cases {P : State → Prop} (s : State) {f g : State → State}
    (hfg : ∀ t : State, t = { s with freeCount := s.freeCount + 1 } → P (f (g t)))
    (hgf : ∀ t : State, t = { s with freeCount := s.freeCount + 1 } → P (g (f t))) : P (s.inEitherOrder f g) := by
  unfold State.inEitherOrder
  dsimp only
  split
  · exact hfg _ rfl
  · exact hgf _ rfl

/-- What stands at the report of a failure of `n`: nothing has been reported yet but a skipped record request. -/
structure State.ReadyToReport (s u v : State) (n : LegId) (skipped : List LegId) : Prop where
  moves : u.ReportsAndAsks v
  reports : s.ReportsBeside v [] skipped

theorem State.ReadyToReport.reported {s u v : State} {n : LegId} {skipped : List LegId} (h : s.ReadyToReport u v n skipped)
    (before : LegState) (cause : LegCause) {code : FaultCode} (failure : LastFailure) (hc : code.OfAttempt) :
    s.ReportsBeside (v.reportFailure n before cause code failure)
        (failureRaises n before (u.leg n).state cause code failure ++ s.marginActs u n) skipped
      ∧ u.ReportsAndAsks (v.reportFailure n before cause code failure)
      ∧ (v.reportFailure n before cause code failure).agent = v.agent := by
  have hmoves := v.reportFailure_condsMove n before cause code failure
  have hr := h.reports.reportFailure n before cause failure hc (h.reports.condition (some n) .marginLow)
  have ha := h.moves.trans hmoves.asks
  rw [ha.marginActs, show (v.leg n).state = (u.leg n).state by rw [h.moves.legs n]] at hr
  obtain ⟨_, _, _, _, hagent, _⟩ := hmoves.fabric
  exact ⟨hr, ha, hagent⟩

theorem State.Unreported.ready {s u : State} (h : s.Unreported u) (n : LegId) : s.ReadyToReport u u n [] :=
  ⟨.refl u, State.ReportsBeside.unreported (State.Reports.refl s) h⟩

theorem State.ReadyToReport.apart {s u v w : State} {n : LegId} {skipped : List LegId} (h : s.ReadyToReport u v n skipped)
    (hw : w = { v with freeCount := w.freeCount, agent := w.agent }) : s.ReadyToReport u w n skipped := by
  have hr : w.report = v.report := by rw [hw]
  have hl : w.legs = v.legs := by rw [hw]
  refine ⟨h.moves.trans ⟨?_, fun m => ?_⟩, h.reports.apart hr hl⟩
  · rw [hr, hl]
    exact hw
  · rw [State.leg_congr hl]

theorem State.ReadyToReport.skipped {s u v : State} {n : LegId} (h : s.ReadyToReport u v n []) :
    s.ReadyToReport u (v.queueEvent (some n) .recordSkipped) n [n] :=
  ⟨h.moves.trans ⟨rfl, fun _ => rfl⟩, h.reports.recordSkipped n⟩

/-- What asking for a record and reporting a failure has done, from the state `u` on. -/
structure State.AskedAndReported (s u t : State) (n : LegId) (cause : FaultCode) (before : LegState)
    (acts : List ReportAct) : Prop where
  moves : u.ReportsAndAsks t
  reports : s.ReportsBeside t (acts ++ s.marginActs u n) (if u.agent.spacing ≠ 0 then [n] else [])
  accepted : u.agent.spacing = 0 → t.agent = (u.recordAccepted n cause before).agent
  skipped : u.agent.spacing ≠ 0 → t.agent = u.skippedCounted.agent

/-- The order of a record request and of a failure's report makes no difference but to the place of RECORD_SKIPPED
(R156, R166). -/
theorem State.askAndReport_spec {s u : State} (h : s.Unreported u) (n : LegId) (recordCause : FaultCode) (before : LegState)
    (cause : LegCause) {code : FaultCode} (failure : LastFailure) (hc : code.OfAttempt) :
    s.AskedAndReported u (u.askAndReport n recordCause before fun v => v.reportFailure n before cause code failure) n
      recordCause before (failureRaises n before (u.leg n).state cause code failure) := by
  unfold State.askAndReport
  by_cases hz : u.agent.spacing = 0
  · rw [if_pos hz, State.requestRecord_accepted hz]
    have hv := (h.ready n).apart (w := u.recordAccepted n recordCause before) rfl
    obtain ⟨hr, hm, ha⟩ := hv.reported before cause failure hc
    dsimp only
    generalize (u.recordAccepted n recordCause before).reportFailure n before cause code failure = t at hr hm ha ⊢
    refine ⟨hm, ?_, fun _ => ha, fun hn => absurd hz hn⟩
    rwa [if_neg (by simpa using hz)]
  · rw [if_neg hz]
    refine State.inEitherOrder_cases (P := fun t => s.AskedAndReported u t n recordCause before _) u (fun w hw => ?_)
      fun w hw => ?_
    · have hwz : w.agent.spacing ≠ 0 := by rwa [hw]
      have hv := ((h.ready n).apart (w := w.skippedCounted) (by rw [hw]; rfl)).skipped
      obtain ⟨hr, hm, ha⟩ := hv.reported before cause failure hc
      rw [State.requestRecord_skipped hwz]
      generalize (w.skippedCounted.queueEvent (some n) .recordSkipped).reportFailure n before cause code failure = t
        at hr hm ha ⊢
      refine ⟨hm, by rwa [if_pos hz], fun h0 => absurd h0 hz, fun _ => ha.trans (by rw [hw]; rfl)⟩
    · obtain ⟨hr, hm, ha⟩ := ((h.ready n).apart (w := w) (by rw [hw])).reported before cause failure hc
      generalize w.reportFailure n before cause code failure = t at hr hm ha ⊢
      have htz : t.agent.spacing ≠ 0 := by rwa [ha, hw]
      rw [State.requestRecord_skipped htz]
      have hs : s.ReportsBeside t.skippedCounted _ [] := hr.apart rfl rfl
      refine ⟨hm.trans ⟨rfl, fun _ => rfl⟩, by rw [if_pos hz]; exact hs.recordSkipped n, fun h0 => absurd h0 hz, fun _ => ?_⟩
      show t.skippedCounted.agent = _
      unfold State.skippedCounted
      rw [ha, hw]

/-! ### A failed attempt (R105, R106, R125) -/

/-- One failure record is asked for: at a cut and at an entry to FAILED (R166). -/
def State.failureAsks (s : State) (n : LegId) (code : FaultCode) : Prop := (s.leg n).retriesOut = true ∨ code = .legCut

/-- The cause of the failure record that is asked for. -/
def State.failureRecordCause (s : State) (n : LegId) : FaultCode := if (s.leg n).retriesOut then .retryOut else .legCut

theorem State.failAttempt_asking {s : State} {n : LegId} {code : FaultCode} (h : s.failureAsks n code) (cause : LegCause)
    (failure : LastFailure) :
    s.failAttempt n cause code failure =
      (s.stoppedBy n failure).askAndReport n (s.failureRecordCause n) (s.leg n).state fun v =>
        v.reportFailure n (s.leg n).state cause code failure := by
  unfold State.failAttempt State.failureRecordCause
  dsimp only
  by_cases ho : (s.leg n).retriesOut = true
  · rw [if_pos ho, if_pos ho]
    rfl
  · rw [if_neg ho, if_neg ho, if_pos (h.resolve_left ho)]
    rfl

theorem State.failAttempt_plain {s : State} {n : LegId} {code : FaultCode} (h : ¬s.failureAsks n code) (cause : LegCause)
    (failure : LastFailure) :
    s.failAttempt n cause code failure =
      (s.stoppedBy n failure).reportFailure n (s.leg n).state cause code failure := by
  unfold State.failAttempt
  dsimp only
  rw [if_neg fun ho => h (.inl ho), if_neg fun hc => h (.inr hc)]
  rfl

theorem State.stoppedBy_agent (s : State) (n : LegId) (failure : LastFailure) : (s.stoppedBy n failure).agent = s.agent := by
  have h := s.stoppedBy_lanesMove n failure
  unfold State.LanesMove at h
  rw [h]

theorem State.stoppedBy_state (s : State) (n : LegId) (failure : LastFailure) :
    ((s.stoppedBy n failure).leg n).state = if (s.leg n).retriesOut then .failed else .down := by
  rw [s.stoppedBy_leg, Leg.afterFailure_state]

theorem State.failAttempt_asked {s : State} {n : LegId} {code : FaultCode} (h : s.failureAsks n code) (cause : LegCause)
    (failure : LastFailure) (hc : code.OfAttempt) :
    s.AskedAndReported (s.stoppedBy n failure) (s.failAttempt n cause code failure) n (s.failureRecordCause n)
      (s.leg n).state (failureRaises n (s.leg n).state ((s.stoppedBy n failure).leg n).state cause code failure) := by
  rw [State.failAttempt_asking h]
  exact State.askAndReport_spec (s.stoppedBy_unreported n failure) n _ _ cause failure hc

/-- What a failed attempt does beside its record request. -/
theorem State.failAttempt_reported (s : State) (n : LegId) (cause : LegCause) {code : FaultCode} (failure : LastFailure)
    (hc : code.OfAttempt) :
    (s.stoppedBy n failure).ReportsAndAsks (s.failAttempt n cause code failure)
      ∧ s.ReportsBeside (s.failAttempt n cause code failure)
        (failureRaises n (s.leg n).state ((s.stoppedBy n failure).leg n).state cause code failure
          ++ s.marginActs (s.stoppedBy n failure) n)
        (if (((s.stoppedBy n failure).leg n).state = .failed ∨ code = .legCut) ∧ s.agent.spacing ≠ 0 then [n] else []) := by
  have hout : ((s.stoppedBy n failure).leg n).state = .failed ↔ (s.leg n).retriesOut = true := by
    rw [s.stoppedBy_state]
    split <;> simp [*]
  by_cases ha : s.failureAsks n code
  · have h := State.failAttempt_asked ha cause failure hc
    refine ⟨h.moves, ?_⟩
    have hasks : ((((s.stoppedBy n failure).leg n).state = .failed ∨ code = .legCut) ∧ s.agent.spacing ≠ 0) ↔
        (s.stoppedBy n failure).agent.spacing ≠ 0 := by
      rw [s.stoppedBy_agent, hout]
      exact and_iff_right ha
    simp only [hasks]
    exact h.reports
  · have h := ((s.stoppedBy_unreported n failure).ready n).reported (s.leg n).state cause failure hc
    rw [State.failAttempt_plain ha, if_neg fun k => ha (k.1.imp_left hout.1)]
    exact ⟨h.2.1, h.1⟩

theorem Leg.retriesOut_iff (l : Leg) :
    l.retriesOut = true ↔ l.profile.retryLimit < 15 ∧ l.profile.retryLimit ≤ l.retry + 1 := by
  unfold Leg.retriesOut
  rw [Bool.and_eq_true, decide_eq_true_eq, decide_eq_true_eq]
  omega

/-- A failed attempt or recovery, in the words of the rules (R105, R106, R113, R125, R153). -/
theorem State.failAttempt_failed (s : State) (n : LegId) {code : FaultCode} (failure : LastFailure) (hc : code.OfAttempt) :
    s.Failed (s.failAttempt n failure.legCause code failure) n failure code s.now := by
  obtain ⟨hm, hr⟩ := s.failAttempt_reported n failure.legCause failure hc
  have hleg := hm.legs n
  have hmargin := hm.marginActs s n
  have hstate := s.stoppedBy_state n failure
  have hlane (j : Lane) (y : Side) (hj : s.owner j = some n) := s.stoppedBy_lane failure hj y
  have hkeep := (s.stoppedBy_lanesMove n failure).slices
  obtain ⟨hslices, htx, hrx, hex⟩ := hm.fabric
  rw [s.stoppedBy_leg] at hleg
  generalize s.failAttempt n failure.legCause code failure = t at *
  have hts : (t.leg n).state = ((s.stoppedBy n failure).leg n).state := by
    rw [s.stoppedBy_leg, hleg]
  rw [← hts] at hr hstate
  rw [← hmargin] at hr
  have hcond (c : FaultCode) (hne : c ≠ .marginLow) (hraised : c = code ∨ c = .retryOut ∧ (t.leg n).state = .failed) :
      t.condition (some n) c = true := by
    rw [hr.condition (some n) c, List.foldl_append, failureRaises_conditionAfter, if_pos hraised,
      State.marginActs_conditionAfter _ _ n hne]
  refine ⟨?_, ?_, hcond code ?_ (.inl rfl), hslices.trans hkeep, hr, fun j y hj => ?_⟩
  · by_cases ho : (s.leg n).retriesOut = true
    · rw [if_pos ho] at hstate
      rw [if_pos ((s.leg n).retriesOut_iff.1 ho)]
      refine ⟨hstate, ?_, ?_, hcond .retryOut (by simp) (.inr ⟨rfl, hstate⟩)⟩ <;>
        rw [hleg] <;> simp only [Leg.afterFailure, ho, if_true, Leg.standDown]
    · rw [if_neg ho] at hstate
      rw [if_neg (mt (s.leg n).retriesOut_iff.2 ho)]
      refine ⟨hstate, ?_, ?_⟩ <;> rw [hleg] <;> simp only [Leg.afterFailure, ho] <;> rfl
  · rw [hleg]
    unfold Leg.afterFailure
    dsimp only
    split <;> rfl
  · obtain rfl | rfl | rfl := hc <;> simp
  · obtain ⟨hq, hord, hpath, hsame, hres⟩ := hlane j y hj
    rw [State.laneState, State.exch_congr hex, State.txPath_congr htx hslices, State.rxPath_congr hrx hslices]
    exact ⟨hq, hord, hpath, hsame.signal, hres⟩

theorem Leg.afterFailure_counts (l : Leg) (failure : LastFailure) (now : Nat) :
    (l.afterFailure failure now).profile = l.profile ∧ (l.afterFailure failure now).glitch = l.glitch
      ∧ (l.afterFailure failure now).lost = l.lost := by
  unfold Leg.afterFailure
  dsimp only
  split <;> exact ⟨rfl, rfl, rfl⟩

/-- The failure record that a failed attempt asks for (R166). -/
theorem State.failAttempt_recordAsked {s : State} {n : LegId} {code : FaultCode} (h : s.failureAsks n code)
    (cause : LegCause) (failure : LastFailure) (hc : code.OfAttempt) :
    s.RecordAsked (s.failAttempt n cause code failure) n (s.failureRecordCause n) := by
  obtain ⟨_, _, haccepted, hskipped⟩ := State.failAttempt_asked h cause failure hc
  have hholds := (s.stoppedBy n failure).recordContents_holds n (s.failureRecordCause n) (s.leg n).state
  have hunreported := s.stoppedBy_unreported n failure
  obtain ⟨hprofile, hglitch, hlost⟩ := (s.leg n).afterFailure_counts failure s.now
  have hsame : s.RecordHolds n ((s.stoppedBy n failure).recordContents n (s.failureRecordCause n) (s.leg n).state) := by
    refine hholds.of_same (by rw [hunreported.report]) (by rw [s.stoppedBy_agent]) ?_ ?_ ?_
      (s.stoppedBy_lanesMove n failure).slices fun j y hj => ?_
    · rw [s.stoppedBy_leg, hprofile]
    · rw [s.stoppedBy_leg, hglitch]
    · rw [s.stoppedBy_leg, hlost]
    · obtain ⟨_, _, hpath, hrx, _⟩ := s.stoppedBy_lane failure hj y
      exact ⟨by rw [hpath], hrx.minimum⟩
  have hagent := s.stoppedBy_agent n failure
  rw [hagent] at haccepted hskipped
  refine ⟨fun hz => ?_, fun hz => ?_⟩
  · rw [haccepted hz]
    unfold State.recordAccepted
    rw [hagent]
    exact ⟨rfl, rfl, List.dropLast_concat, _, List.getLast?_concat, hsame, rfl, rfl⟩
  · rw [hskipped hz]
    unfold State.skippedCounted
    rw [hagent]
    exact ⟨rfl, rfl, rfl⟩

theorem State.failAttempt_askedIfOut (s : State) (n : LegId) {code : FaultCode} (failure : LastFailure)
    (hc : code.OfAttempt) (hcut : code ≠ .legCut) : s.AskedIfOut (s.failAttempt n failure.legCause code failure) n := by
  have hm := (s.failAttempt_reported n failure.legCause failure hc).1
  have hstate : ((s.failAttempt n failure.legCause code failure).leg n).state
      = if (s.leg n).retriesOut then .failed else .down := by
    rw [← s.stoppedBy_state n failure, hm.legs n]
  unfold State.AskedIfOut
  rw [hstate]
  by_cases ho : (s.leg n).retriesOut = true
  · have h := State.failAttempt_recordAsked (.inl ho : s.failureAsks n code) failure.legCause failure hc
    rw [State.failureRecordCause, if_pos ho] at h
    rwa [if_pos ho, if_pos rfl]
  · rw [if_neg ho, if_neg (by simp), State.failAttempt_plain fun h => h.elim ho hcut]
    obtain ⟨_, _, _, _, hagent, _⟩ :=
      ((s.stoppedBy n failure).reportFailure_condsMove n (s.leg n).state failure.legCause code failure).fabric
    exact hagent.trans (s.stoppedBy_agent n failure)

/-- What has failed at an instant of the model's time has failed for the event that reached it. -/
theorem State.Failed.of_reach {s t : State} {w : Nat} {n : LegId} {failure : LastFailure} {code : FaultCode}
    (h : (s.reach w).Failed t n failure code (s.reach w).now) : s.Failed t n failure code (max s.now w) := h

theorem State.AskedIfOut.of_reach {s t : State} {w : Nat} {n : LegId} (h : (s.reach w).AskedIfOut t n) : s.AskedIfOut t n := h

theorem State.RecordAsked.of_reach {s t : State} {w : Nat} {n : LegId} {cause : FaultCode}
    (h : (s.reach w).RecordAsked t n cause) : s.RecordAsked t n cause := h

theorem exec_trainingBudgetExpiry {s : State} {n : LegId} {w : Nat} (hs : (s.leg n).state = .training)
    (hb : (s.leg n).budget = some w) :
    exec (.trainingBudgetExpiry n) s = .next ((s.reach w).failAttempt n .budget .trainTimeout .budget) := by
  show execTrainingBudgetExpiry n s = _
  simp [execTrainingBudgetExpiry, hs, hb]

theorem exec_cutExpiry {s : State} {n : LegId} {w : Nat} (hs : (s.leg n).state = .lost) (hc : (s.leg n).cut = some w) :
    exec (.cutExpiry n) s = .next ((s.reach w).failAttempt n .cut .legCut .cut) := by
  show execCutExpiry n s = _
  simp [execCutExpiry, hs, hc]

/-- Settles O38: the cut is a failed recovery of the state at its instant. -/
theorem cutExpiryEndsRecovery : Obligations.CutExpiryEndsRecovery := by
  intro s n w _ hs hw
  have hfailed := (s.reach w).failAttempt_failed n (code := .legCut) .cut (.inr (.inr rfl))
  have hasked := State.failAttempt_recordAsked (.inr rfl : (s.reach w).failureAsks n .legCut) .cut .cut (.inr (.inr rfl))
  have hm := ((s.reach w).failAttempt_reported n .cut (code := .legCut) .cut (.inr (.inr rfl))).1
  refine ⟨_, exec_cutExpiry hs hw, hfailed.of_reach, ?_⟩
  rw [hm.legs n, (s.reach w).stoppedBy_state n .cut]
  unfold State.failureRecordCause at hasked
  by_cases ho : ((s.reach w).leg n).retriesOut = true
  · rw [if_pos ho] at hasked ⊢
    exact hasked.of_reach
  · rw [if_neg ho] at hasked ⊢
    exact hasked.of_reach

/-! ### A report that finds nothing to do (R82) -/

theorem State.setExch_same (s : State) (i : Lane) (x : Side) : s.setExch i x (s.exch i x) = s := by
  unfold State.setExch State.exch
  rw [Sides.set_get]
  show { s with ex := s.ex.set i.val (s.ex[i.val]) i.isLt } = s
  rw [Vector.set_getElem_self]

/-- An order that stands on a path that does not follow it is derived in vain. -/
theorem State.deriveOrder_idle {s : State} {n : LegId} {i : Lane} {x : Side} (ho : (s.exch i x).order = s.orderFor n i x)
    (hq : (s.exch i x).inService = false) : s.deriveOrder n i x = s := by
  unfold State.deriveOrder
  dsimp only
  rw [hq, ← ho]
  exact s.setExch_same i x

theorem State.deriveOrders_idle {s : State} {n : LegId}
    (h : ∀ (j : Lane) (y : Side), s.owner j = some n →
      (s.exch j y).order = s.orderFor n j y ∧ (s.exch j y).inService = false) : s.deriveOrders n = s := by
  unfold State.deriveOrders
  refine State.onExchanges_keeps (P := fun t => t = s) (f := fun j y t => t.deriveOrder n j y) (fun j hj y t ht => ?_) rfl
  obtain ⟨ho, hq⟩ := h j y ((s.mem_legLanes n j).1 hj)
  rw [ht]
  exact State.deriveOrder_idle ho hq

/-- A margin check after a margin check changes nothing (R135). -/
theorem State.marginCheck_idle {s : State} {n : LegId} (h : s.condition (some n) .marginLow = s.anyAlarm n) :
    s.marginCheck n = s := by
  unfold State.marginCheck
  by_cases ha : s.anyAlarm n = true
  · rw [if_pos ha, if_pos (h.trans ha)]
  · rw [if_neg ha]
    exact State.endCondition_idle (h.trans (Bool.eq_false_iff.2 ha))

/-- The margin condition's act leaves the condition as the alarms make it (R135). -/
theorem State.marginActs_marginLow (s t : State) (n : LegId) :
    (s.marginActs t n).foldl (conditionAfter (some n) .marginLow) (s.condition (some n) .marginLow) = t.anyAlarm n := by
  unfold State.marginActs
  by_cases ha : t.anyAlarm n = false
  · rw [if_pos ha, ha]
    simp [conditionAfter]
  · rw [if_neg ha, Bool.eq_true_of_not_eq_false ha]
    split
    · next hc => exact hc
    · simp [conditionAfter]

/-- A leg in DOWN or FAILED, silent and with its margin condition as the alarms make it, answers a report with nothing. -/
theorem State.laneReport_idle {s : State} {n : LegId} (hs : (s.leg n).state = .failed ∨ (s.leg n).state = .down)
    (hq : ∀ (j : Lane) (y : Side), s.owner j = some n → s.laneState j y = .quiet ∧ (s.exch j y).order = .quiet)
    (hm : s.condition (some n) .marginLow = s.anyAlarm n) : s.laneReport n = s := by
  have htraining : s.trainingTest n = s := by
    unfold State.trainingTest
    rcases hs with h | h <;> simp [h]
  have hrelease : s.releaseTest n = s := by
    unfold State.releaseTest
    rcases hs with h | h <;> simp [h]
  have hup : s.upTest n = s := by
    unfold State.upTest
    rcases hs with h | h <;> simp [h]
  unfold State.laneReport
  rw [htraining, hrelease, hup, State.deriveOrders_idle fun j y hj => ?_, State.marginCheck_idle hm]
  obtain ⟨hlane, horder⟩ := hq j y hj
  unfold State.laneState at hlane
  exact ⟨horder.trans (State.orderFor_down hs j y).symm, by simp [Exchange.inService, hlane]⟩

/-- A lane's report after the attempt has failed finds nothing to do. -/
theorem State.failAttempt_laneReport (s : State) (n : LegId) {code : FaultCode} (failure : LastFailure)
    (hc : code.OfAttempt) :
    (s.failAttempt n failure.legCause code failure).laneReport n = s.failAttempt n failure.legCause code failure := by
  obtain ⟨_, _, _, hslices, hr, hlanes⟩ := s.failAttempt_failed n failure hc
  obtain ⟨hm, hr⟩ := s.failAttempt_reported n failure.legCause failure hc
  have hstate := s.stoppedBy_state n failure
  have hmargin := hr.condition (some n) .marginLow
  rw [← hm.marginActs s n, List.foldl_append, failureRaises_conditionAfter, if_neg ?_, State.marginActs_marginLow] at hmargin
  · refine State.laneReport_idle ?_ (fun j y hj => ?_) hmargin
    · rw [hm.legs n]
      dsimp only
      rw [hstate]
      split <;> simp
    · rw [State.owner_congr hslices] at hj
      obtain ⟨hq, ho, _⟩ := hlanes j y hj
      exact ⟨hq, ho⟩
  · obtain rfl | rfl | rfl := hc <;> simp

/-- A lane failure in TRAINING ends the attempt, and the lane's own report adds nothing (R74, R105). -/
theorem State.laneFailure_training {s : State} {n : LegId} (hs : (s.leg n).state = .training) (i : Lane) (x : Side)
    (reason : LaneFailReason) (before : State) :
    before.reportIfMoved (s.laneFailure n i x reason) n i x =
      s.failAttempt n (LastFailure.lane reason x i).legCause .sideFail (.lane reason x i) := by
  have hf : s.laneFailure n i x reason =
      s.failAttempt n (LastFailure.lane reason x i).legCause .sideFail (.lane reason x i) := if_pos hs
  unfold State.reportIfMoved
  rw [hf, State.failAttempt_laneReport s n _ (.inr (.inl rfl)), ite_self]

theorem exec_answerTimerExpiry {s : State} {i : Lane} {x : Side} {n : LegId} {w : Nat} (hi : s.owner i = some n)
    (hs : s.laneState i x = .tune) (hw : (s.exch i x).req.answerTimer = some w) :
    exec (.answerTimerExpiry i x) s =
      .next ((s.reach w).reportIfMoved ((s.reach w).laneFailure n i x .answerTimeout) n i x) := by
  show execAnswerTimerExpiry i x s = _
  simp [execAnswerTimerExpiry, State.answerRunning, hs, hi, hw]

theorem exec_frameSilenceExpiry {s : State} {i : Lane} {x : Side} {n : LegId} {w : Nat} (hi : s.owner i = some n)
    (hs : s.laneState i x = .tune ∨ s.laneState i x = .ready) (hw : (s.exch i x).watch = some w) :
    exec (.frameSilenceExpiry i x) s = .next ((s.reach w).silence n i x) := by
  show execFrameSilenceExpiry i x s = _
  simp [execFrameSilenceExpiry, State.watchRunning, hs, hi, hw]

/-- Settles O35: each of the three is a failed attempt of the state at its instant. -/
theorem attemptFails : Obligations.AttemptFails := by
  intro s i x w n _ hs
  have hfailed (failure : LastFailure) {code : FaultCode} (hc : code.OfAttempt) (hcut : code ≠ .legCut) :
      s.Failed ((s.reach w).failAttempt n failure.legCause code failure) n failure code (max s.now w)
        ∧ s.AskedIfOut ((s.reach w).failAttempt n failure.legCause code failure) n :=
    ⟨((s.reach w).failAttempt_failed n failure hc).of_reach, ((s.reach w).failAttempt_askedIfOut n failure hc hcut).of_reach⟩
  refine ⟨fun hb => ?_, fun hi hl hw => ?_, fun hi hl hw hr => ?_⟩
  · exact ⟨_, exec_trainingBudgetExpiry hs hb, hfailed .budget (.inl rfl) (by simp)⟩
  · refine ⟨_, exec_answerTimerExpiry hi hl hw, ?_⟩
    rw [State.laneFailure_training (s := s.reach w) hs]
    exact hfailed _ (.inr (.inl rfl)) (by simp)
  · have hsilence : (s.reach w).silence n i x = _ := if_pos ⟨hs, hr⟩
    refine ⟨_, exec_frameSilenceExpiry hi hl hw, ?_⟩
    rw [hsilence, State.laneFailure_training (s := s.reach w) hs]
    exact hfailed _ (.inr (.inl rfl)) (by simp)

end Sys2Proof.Machine
end

section
/-! SUPPORT. What a move of one lane on one side touches, in the words of the statements' frames (R6, R12 to R14). -/

namespace Sys2Proof.Machine

/-! ### Flags of a side -/

/-- The flag of side `x` is as it was or cleared, the opposite one as it was. -/
def Sides.ClearedAt (x : Side) (p q : Sides Bool) : Prop := q = p ∨ q = p.set x false

theorem Sides.ClearedAt.trans {x : Side} {p q r : Sides Bool} (h : q.ClearedAt x r) (k : p.ClearedAt x q) : p.ClearedAt x r := by
  unfold Sides.ClearedAt at *
  obtain rfl | rfl := k
  · exact h
  · obtain rfl | rfl := h
    · exact .inr rfl
    · right
      cases x <;> rfl

theorem Sides.ClearedAt.opposite {x : Side} {p q : Sides Bool} (h : p.ClearedAt x q) :
    q.get x.opposite = p.get x.opposite := by
  obtain rfl | rfl := h
  · rfl
  · cases x <;> rfl

theorem Sides.ClearedAt.cleared {x : Side} {p q : Sides Bool} (h : p.ClearedAt x q) (hp : p.get x = false) :
    q.get x = false := by
  obtain rfl | rfl := h
  · exact hp
  · cases x <;> rfl

/-! ### Moves of one lane -/

/-- Only lane `i` side `x` of leg `n`, and that side's release flag and kept mark, have moved. -/
structure State.LaneMove (n : LegId) (i : Lane) (x : Side) (s t : State) : Prop where
  lanes : s.LanesMove t
  exchs : ∀ (j : Lane) (y : Side), (j, y) ≠ (i, x) → t.exch j y = s.exch j y
  txs : ∀ (k : Lane) (y : Side), (k, y) ≠ (s.phys i x, x) → t.txAt k y = s.txAt k y
  rxs : ∀ (k : Lane) (y : Side), (k, y) ≠ (s.phys i x, x) → t.rxAt k y = s.rxAt k y
  legs : ∀ m : LegId, m ≠ n → t.leg m = s.leg m
  leg : t.leg n = { s.leg n with released := (t.leg n).released, kept := (t.leg n).kept }
  released : (s.leg n).released.ClearedAt x (t.leg n).released
  kept : (s.leg n).kept.ClearedAt x (t.leg n).kept

section
variable {n : LegId} {i : Lane} {x : Side}

theorem State.LaneMove.refl (s : State) : s.LaneMove n i x s :=
  ⟨rfl, fun _ _ _ => rfl, fun _ _ _ => rfl, fun _ _ _ => rfl, fun _ _ => rfl, rfl, .inl rfl, .inl rfl⟩

theorem State.LaneMove.slices {s t : State} (h : s.LaneMove n i x t) : t.slices = s.slices := h.lanes.slices

theorem State.LaneMove.phys {s t : State} (h : s.LaneMove n i x t) (j : Lane) (y : Side) : t.phys j y = s.phys j y :=
  State.phys_congr h.slices j y

theorem State.LaneMove.owner {s t : State} (h : s.LaneMove n i x t) (j : Lane) : t.owner j = s.owner j :=
  State.owner_congr h.slices j

theorem State.LaneMove.trans {s t u : State} (h : s.LaneMove n i x t) (k : t.LaneMove n i x u) : s.LaneMove n i x u := by
  refine ⟨h.lanes.trans k.lanes, fun j y hne => (k.exchs j y hne).trans (h.exchs j y hne), fun j y hne => ?_,
    fun j y hne => ?_, fun m hm => (k.legs m hm).trans (h.legs m hm), by rw [k.leg, h.leg], k.released.trans h.released,
    k.kept.trans h.kept⟩
  · exact (k.txs j y (by rwa [h.phys])).trans (h.txs j y hne)
  · exact (k.rxs j y (by rwa [h.phys])).trans (h.rxs j y hne)

theorem State.laneMove_modExch (s : State) (n : LegId) (i : Lane) (x : Side) (f : Exchange → Exchange) :
    s.LaneMove n i x (s.modExch i x f) :=
  ⟨rfl, fun _ _ h => s.exch_modExch_ne f h, fun _ _ _ => rfl, fun _ _ _ => rfl, fun _ _ => rfl, rfl, .inl rfl, .inl rfl⟩

theorem State.laneMove_modTx (s : State) (n : LegId) (i : Lane) (x : Side) (f : TxPath → TxPath) :
    s.LaneMove n i x (s.modTx i x f) :=
  ⟨rfl, fun _ _ _ => rfl, fun _ _ h => s.tx_setTxAt_ne _ h, fun _ _ _ => rfl, fun _ _ => rfl, rfl, .inl rfl, .inl rfl⟩

theorem State.laneMove_modRx (s : State) (n : LegId) (i : Lane) (x : Side) (f : RxPath → RxPath) :
    s.LaneMove n i x (s.modRx i x f) :=
  ⟨rfl, fun _ _ _ => rfl, fun _ _ _ => rfl, fun _ _ h => s.rx_setRxAt_ne _ h, fun _ _ => rfl, rfl, .inl rfl, .inl rfl⟩

theorem State.clearRelease_eq {s : State} (h : s.owner i = some n) (x : Side) :
    s.clearRelease i x = s.modLeg n fun l => { l with released := l.released.set x false } := by
  simp [State.clearRelease, h]

theorem State.clearKept_eq {s : State} (h : s.owner i = some n) (x : Side) :
    s.clearKept i x = s.modLeg n fun l => { l with kept := l.kept.set x false } := by
  simp [State.clearKept, h]

theorem State.laneMove_clearRelease {s : State} (h : s.owner i = some n) (x : Side) :
    s.LaneMove n i x (s.clearRelease i x) := by
  rw [State.clearRelease_eq h]
  refine ⟨rfl, fun _ _ _ => rfl, fun _ _ _ => rfl, fun _ _ _ => rfl, fun m hm => s.leg_modLeg_ne _ hm, ?_, ?_, ?_⟩ <;>
    rw [State.leg_modLeg_same]
  · exact .inr rfl
  · exact .inl rfl

theorem State.laneMove_clearKept {s : State} (h : s.owner i = some n) (x : Side) :
    s.LaneMove n i x (s.clearKept i x) := by
  rw [State.clearKept_eq h]
  refine ⟨rfl, fun _ _ _ => rfl, fun _ _ _ => rfl, fun _ _ _ => rfl, fun m hm => s.leg_modLeg_ne _ hm, ?_, ?_, ?_⟩ <;>
    rw [State.leg_modLeg_same]
  · exact .inl rfl
  · exact .inr rfl

theorem State.laneMove_leaveService {s : State} (h : s.owner i = some n) (x : Side) :
    s.LaneMove n i x (s.leaveService i x) := by
  have ht := s.laneMove_modTx n i x fun p => { p with line := p.line.stopService }
  unfold State.leaveService State.leaveData
  dsimp only
  split
  · exact (ht.trans (State.laneMove_modRx _ n i x _)).trans (State.laneMove_clearKept (by exact h) x)
  · exact ht

theorem State.laneMove_outOfService {s : State} (h : s.owner i = some n) (x : Side) :
    s.LaneMove n i x (s.outOfService i x) := by
  have hl := State.laneMove_leaveService h x
  exact hl.trans (State.laneMove_clearRelease ((hl.owner i).trans h) x)

theorem State.laneMove_enterListen {s : State} (h : s.owner i = some n) (x : Side) :
    s.LaneMove n i x (s.enterListen i x) := by
  obtain ⟨warm, he⟩ := s.enterListen_eq h x
  rw [he]
  unfold State.loadLane
  exact (((State.laneMove_outOfService h x).trans (State.laneMove_modTx _ n i x _)).trans
    (State.laneMove_modRx _ n i x _)).trans (State.laneMove_modExch _ n i x _)

theorem State.laneMove_startWatch (s : State) (n : LegId) (i : Lane) (x : Side) : s.LaneMove n i x (s.startWatch i x) :=
  s.laneMove_modExch n i x _

theorem State.laneMove_returnToTune {s : State} (h : s.owner i = some n) (x : Side) (cause : ReturnCause) :
    s.LaneMove n i x (s.returnToTune i x cause) := by
  have hu := (State.laneMove_outOfService h x).trans (State.laneMove_modExch _ n i x fun e =>
    { e with lane := .tune, ownCount := 15, zeroSeen := false, countEnded := false, returnCause := some cause })
  unfold State.returnToTune
  dsimp only
  split
  · exact hu
  · exact hu.trans (State.laneMove_startWatch _ n i x)

/-- A move of one lane clears its side's release wherever it does so on the way. -/
theorem State.outOfService_released {s : State} (h : s.owner i = some n) (x : Side) :
    ((s.outOfService i x).leg n).released.get x = false := by
  have hl := State.laneMove_leaveService h x
  unfold State.outOfService
  rw [State.clearRelease_eq ((hl.owner i).trans h), State.leg_modLeg_same]
  cases x <;> rfl

theorem State.enterListen_released {s : State} (h : s.owner i = some n) (x : Side) :
    ((s.enterListen i x).leg n).released.get x = false := by
  obtain ⟨warm, he⟩ := s.enterListen_eq h x
  rw [he]
  exact State.outOfService_released h x

theorem State.returnToTune_released {s : State} (h : s.owner i = some n) (x : Side) (cause : ReturnCause) :
    ((s.returnToTune i x cause).leg n).released.get x = false := by
  have hr := State.outOfService_released h x
  unfold State.returnToTune
  dsimp only
  split <;> exact hr

/-- A lane that leaves DATA clears its side's kept mark (R17). -/
theorem State.outOfService_kept_cleared {s : State} (h : s.owner i = some n) (hd : s.laneState i x = .data) :
    ((s.outOfService i x).leg n).kept.get x = false := by
  have hl : s.leaveService i x = (s.modTx i x fun p => { p with line := p.line.stopService }).leaveData i x := if_pos hd
  have hm := State.laneMove_leaveService h x
  unfold State.outOfService
  rw [State.clearRelease_eq ((hm.owner i).trans h), State.leg_modLeg_same, hl]
  unfold State.leaveData
  rw [State.clearKept_eq (by exact h), State.leg_modLeg_same]
  cases x <;> rfl

/-! ### Paths of the lane itself -/

/-- The transmit path of a lane that leaves service: data stops at once (R18). -/
theorem State.outOfService_txPath (s : State) (i : Lane) (x : Side) :
    (s.outOfService i x).txPath i x = { s.txPath i x with line := (s.txPath i x).line.stopService } := by
  have hs := (s.serviceMoves_outOfService i x).lanes.slices
  rw [State.txPath_eq_txAt hs, State.outOfService, State.txAt_congr (State.clearRelease_tx _ i x),
    State.txAt_congr (s.leaveService_tx i x)]
  exact s.txPath_modTx_same i x _

/-- The receive path of a lane that leaves service: its eye path leaves DATA with it (R133). -/
theorem State.outOfService_rxPath (s : State) (i : Lane) (x : Side) :
    (s.outOfService i x).rxPath i x =
      if s.laneState i x = .data then { s.rxPath i x with eye := (s.rxPath i x).eye.leave } else s.rxPath i x := by
  have hs := (s.serviceMoves_outOfService i x).lanes.slices
  rw [State.rxPath_eq_rxAt hs, State.outOfService, State.rxAt_congr (State.clearRelease_rx _ i x)]
  unfold State.leaveService State.leaveData
  dsimp only
  split
  · rw [State.rxAt_congr (State.clearKept_rx _ i x)]
    exact State.rxPath_modRx_same (s.modTx i x fun p => { p with line := p.line.stopService }) i x _
  · rfl

end

/-! ### What the leg's answer gives the lanes (R16, R82, R102) -/

/-- Of lanes and paths only service orders, restart counts and lines differ. -/
structure State.OrdersMove (s t : State) : Prop where
  slices : t.slices = s.slices
  rx : t.rx = s.rx
  exchs : ∀ (j : Lane) (y : Side), t.exch j y = { s.exch j y with order := (t.exch j y).order, restarts := (t.exch j y).restarts }
  txs : ∀ (k : Lane) (y : Side), t.txAt k y = { s.txAt k y with line := (t.txAt k y).line }

theorem State.OrdersMove.refl (s : State) : s.OrdersMove s := ⟨rfl, rfl, fun _ _ => rfl, fun _ _ => rfl⟩

theorem State.OrdersMove.trans {s t u : State} (h : s.OrdersMove t) (k : t.OrdersMove u) : s.OrdersMove u :=
  ⟨k.slices.trans h.slices, k.rx.trans h.rx, fun j y => by rw [k.exchs, h.exchs], fun j y => by rw [k.txs, h.txs]⟩

theorem State.OrdersMove.laneState {s t : State} (h : s.OrdersMove t) (j : Lane) (y : Side) :
    t.laneState j y = s.laneState j y := by
  unfold State.laneState
  rw [h.exchs]

theorem State.CondsMove.orders {s t : State} (h : s.CondsMove t) : s.OrdersMove t := by
  obtain ⟨hs, htx, hrx, hex, _⟩ := h.fabric
  refine ⟨hs, hrx, fun j y => ?_, fun k y => ?_⟩
  · rw [State.exch_congr hex]
  · rw [State.txAt_congr htx]

theorem State.ordersMove_modLeg (s : State) (n : LegId) (f : Leg → Leg) : s.OrdersMove (s.modLeg n f) :=
  ⟨rfl, rfl, fun _ _ => rfl, fun _ _ => rfl⟩

theorem State.ordersMove_deriveOrders (s : State) (n : LegId) : s.OrdersMove (s.deriveOrders n) :=
  ⟨(State.deriveOrders_moves s n).slices, s.deriveOrders_rx n, fun j y => by rw [s.deriveOrders_exch n j y],
    fun k y => by rw [s.deriveOrders_path n k y]⟩

theorem State.zeroRestarts_only (s : State) (n : LegId) : s.zeroRestarts n = { s with ex := (s.zeroRestarts n).ex } :=
  State.onExchanges_induct (P := fun t => t = { s with ex := t.ex }) _ (fun i x t h => by rw [h]; rfl) _ rfl

theorem State.zeroRestarts_exch (s : State) (n : LegId) (j : Lane) (y : Side) :
    (s.zeroRestarts n).exch j y = if j ∈ s.legLanes n then { s.exch j y with restarts := 0 } else s.exch j y :=
  State.onExchanges_each (P := fun _ => True) (f := fun i x t => t.modExch i x fun e => { e with restarts := 0 })
    (fun t => t.exch j y) (fun e => { e with restarts := 0 }) (s.legLanes_nodup n) (fun _ _ _ _ _ => trivial)
    (fun t _ => t.exch_modExch_same j y _) (fun _ _ _ t h _ => t.exch_modExch_ne _ h.symm) trivial

theorem State.ordersMove_zeroRestarts (s : State) (n : LegId) : s.OrdersMove (s.zeroRestarts n) := by
  have h := s.zeroRestarts_only n
  refine ⟨by rw [h], by rw [h], fun j y => ?_, fun k y => by rw [h]; rfl⟩
  rw [s.zeroRestarts_exch]
  split <;> rfl

theorem State.zeroRestarts_legs (s : State) (n : LegId) : (s.zeroRestarts n).legs = s.legs := by
  rw [s.zeroRestarts_only n]

/-- The record of a leg that enters TRAINING (R102). -/
def Leg.inTraining (l : Leg) (now : Nat) : Leg := { l with state := .training, budget := some (now + 10000 * l.profile.budget) }

theorem State.enterTraining_leg (s : State) (n : LegId) (cause : LegCause) :
    (s.enterTraining n cause).leg n = (s.leg n).inTraining s.now := by
  show (((s.modLeg n fun l => l.inTraining s.now).zeroRestarts n)).leg n = _
  rw [State.leg_congr (State.zeroRestarts_legs _ n), State.leg_modLeg_same]

theorem State.ordersMove_enterTraining (s : State) (n : LegId) (cause : LegCause) :
    s.OrdersMove (s.enterTraining n cause) :=
  ((s.ordersMove_modLeg n fun l => l.inTraining s.now).trans (State.ordersMove_zeroRestarts _ n)).trans
    (State.queueEvent_condsMove _ _ _).orders

theorem State.enterTraining_restarts (s : State) {n : LegId} (cause : LegCause) {j : Lane} (h : s.owner j = some n) (y : Side) :
    ((s.enterTraining n cause).exch j y).restarts = 0 := by
  have hj : j ∈ (s.modLeg n fun l => l.inTraining s.now).legLanes n := (s.mem_legLanes n j).2 h
  have hz := State.zeroRestarts_exch (s.modLeg n fun l => l.inTraining s.now) n j y
  rw [if_pos hj] at hz
  exact congrArg Exchange.restarts hz

theorem State.ordersMove_trainingTest (s : State) (n : LegId) : s.OrdersMove (s.trainingTest n) := by
  unfold State.trainingTest
  split
  · exact s.ordersMove_enterTraining n _
  · exact .refl s

theorem State.ordersMove_releaseTest (s : State) (n : LegId) : s.OrdersMove (s.releaseTest n) := by
  unfold State.releaseTest
  dsimp only
  split
  · exact s.ordersMove_modLeg n _
  · exact .refl s

/-- The record of a leg that enters UP, its conditions apart (R104, R124). -/
def Leg.inUp (l : Leg) : Leg :=
  { l with state := .up, budget := none, cut := none, retry := 0, episode := none
           kept := if l.state = .lost then ⟨false, false⟩ else l.kept }

theorem State.enterUp_eq (s : State) (n : LegId) :
    s.enterUp n = ((s.modLeg n fun l => { l with
      state := .up, budget := none, cut := none, retry := 0, episode := none
      kept := if (s.leg n).state = .lost then ⟨false, false⟩ else l.kept }).endAttemptConditions n).queueLegState n
        (s.leg n).state .up .bothData := rfl

theorem State.enterUp_condsMove (s : State) (n : LegId) :
    (s.setLeg n (s.leg n).inUp).CondsMove (s.enterUp n) := by
  rw [s.enterUp_eq]
  exact (State.endAttemptConditions_condsMove _ n).trans (State.queueEvent_condsMove _ _ _)

theorem State.ordersMove_enterUp (s : State) (n : LegId) : s.OrdersMove (s.enterUp n) :=
  (s.ordersMove_modLeg n fun _ => (s.leg n).inUp).trans (s.enterUp_condsMove n).orders

theorem State.enterUp_leg (s : State) (n : LegId) :
    (s.enterUp n).leg n = { (s.leg n).inUp with conds := ((s.enterUp n).leg n).conds } := by
  rw [(s.enterUp_condsMove n).legs n, State.leg_setLeg_same]

theorem State.ordersMove_upTest (s : State) (n : LegId) : s.OrdersMove (s.upTest n) := by
  unfold State.upTest
  split
  · exact s.ordersMove_enterUp n
  · exact .refl s

theorem State.ordersMove_laneReport (s : State) (n : LegId) : s.OrdersMove (s.laneReport n) :=
  ((((s.ordersMove_trainingTest n).trans (State.ordersMove_releaseTest _ n)).trans (State.ordersMove_upTest _ n)).trans
    (State.ordersMove_deriveOrders _ n)).trans (State.marginCheck_condsMove _ n).orders

theorem State.ordersMove_reportIfMoved (s : State) (before : State) (n : LegId) (i : Lane) (x : Side) :
    s.OrdersMove (before.reportIfMoved s n i x) := by
  unfold State.reportIfMoved
  split
  · exact .refl s
  · exact s.ordersMove_laneReport n

/-- A move of one lane, answered by its leg, leaves every other lane as the statements' frame says. -/
theorem State.LaneMove.others {n : LegId} {i : Lane} {x : Side} {s t u : State} (h : s.LaneMove n i x t)
    (k : t.OrdersMove u) (hp : s.PairsApart) : s.OthersStand u i x := by
  have hs : u.slices = s.slices := k.slices.trans h.slices
  refine ⟨hs, fun j y hne => ?_⟩
  have hphys := s.phys_ne hp hne
  have htx := h.txs _ _ hphys
  have hrx := h.rxs _ _ hphys
  refine ⟨?_, ?_, ?_⟩
  · rw [← h.exchs j y hne]
    exact k.exchs j y
  · rw [State.rxPath_eq_rxAt hs, State.rxAt_congr k.rx, hrx]
    rfl
  · rw [State.txPath_eq_txAt hs, k.txs, htx]
    rfl

/-! ### Service orders derived afresh (R16) -/

theorem State.orderFor_congr {s t : State} {n : LegId} (hl : t.leg n = { s.leg n with conds := (t.leg n).conds })
    (hs : t.slices = s.slices) (hr : t.rx = s.rx) (i : Lane) (x : Side) : t.orderFor n i x = s.orderFor n i x := by
  unfold State.orderFor
  rw [hl, State.rxPath_congr hr hs]

theorem State.deriveOrders_orderFor (s : State) {i : Lane} {n : LegId} (h : s.owner i = some n) (x : Side) :
    ((s.deriveOrders n).exch i x).order = s.orderFor n i x :=
  State.onExchanges_reaches (P := fun t => t.legs = s.legs ∧ t.slices = s.slices ∧ t.rx = s.rx)
    (f := fun j y t => t.deriveOrder n j y) (Q := fun t => (t.exch i x).order = s.orderFor n i x) ((s.mem_legLanes n i).2 h)
    (fun j _ y t ⟨hl, hs, hr⟩ =>
      ⟨(t.deriveOrder_legs n j y).trans hl, (t.deriveOrder_moves n j y).slices.trans hs, (t.deriveOrder_rx n j y).trans hr⟩)
    (fun t ⟨hl, hs, hr⟩ => by
      rw [t.deriveOrder_exch]
      exact State.orderFor_congr (by rw [State.leg_congr hl]) hs hr i x)
    (fun _ _ _ t hne _ hq => by rwa [t.deriveOrder_exch_ne n hne.symm]) ⟨rfl, rfl, rfl⟩

/-- After the leg's answer every lane has the order that the leg then gives it (R16, R82). -/
theorem State.laneReport_order (s : State) {i : Lane} {n : LegId} (h : s.owner i = some n) (x : Side) :
    ((s.laneReport n).exch i x).order = (s.laneReport n).orderFor n i x := by
  have hu := ((s.ordersMove_trainingTest n).trans (State.ordersMove_releaseTest _ n)).trans (State.ordersMove_upTest _ n)
  unfold State.laneReport
  generalize ((s.trainingTest n).releaseTest n).upTest n = u at hu ⊢
  have hm := (u.deriveOrders n).marginCheck_condsMove n
  obtain ⟨hs, _, hr, hex, _⟩ := hm.fabric
  rw [State.exch_congr hex, u.deriveOrders_orderFor ((State.owner_congr hu.slices i).trans h)]
  refine (State.orderFor_congr ?_ (hs.trans (u.deriveOrders_moves n).slices) (hr.trans (u.deriveOrders_rx n)) i x).symm
  rw [hm.legs n, State.leg_congr (u.deriveOrders_legs n)]

/-! ### Side status (R81) -/

/-- The lane is past the exchange: in READY, COUNT or DATA. -/
def LaneState.beyondTune (q : LaneState) : Prop := q = .ready ∨ q = .count ∨ q = .data

/-- Every lane of side `x` of leg `n` is past the exchange, and there is one. -/
def State.BeyondTune (s : State) (n : LegId) (x : Side) : Prop :=
  (s.leg n).width ≠ 0 ∧ s.legLanes n ≠ [] ∧ ∀ j ∈ s.legLanes n, (s.laneState j x).beyondTune

/-- The status of a side whose leg has a lane, without the detour over the list of states. -/
theorem State.sideStatus_eq (s : State) {n : LegId} (hw : (s.leg n).width ≠ 0) (hl : s.legLanes n ≠ []) (x : Side) :
    s.sideStatus n x =
      if ∃ j ∈ s.legLanes n, s.laneState j x = .quiet then some .quiet
      else if ∃ j ∈ s.legLanes n, s.laneState j x = .listen then some .listening
      else if ∃ j ∈ s.legLanes n, s.laneState j x = .tune then some .tuning
      else if ∀ j ∈ s.legLanes n, s.laneState j x = .data then some .data
      else if (∃ j ∈ s.legLanes n, s.laneState j x = .ready) ∧ (s.leg n).released.get x = false then some .gated
      else some .counting := by
  unfold State.sideStatus
  simp [hw, hl]

theorem State.beyondTune_or (s : State) (n : LegId) (x : Side) (h : ¬∃ j ∈ s.legLanes n, s.laneState j x = .quiet)
    (h' : ¬∃ j ∈ s.legLanes n, s.laneState j x = .listen) (h'' : ¬∃ j ∈ s.legLanes n, s.laneState j x = .tune) :
    ∀ j ∈ s.legLanes n, (s.laneState j x).beyondTune := by
  intro j hj
  unfold LaneState.beyondTune
  cases hq : s.laneState j x with
  | quiet => exact absurd ⟨j, hj, hq⟩ h
  | listen => exact absurd ⟨j, hj, hq⟩ h'
  | tune => exact absurd ⟨j, hj, hq⟩ h''
  | _ => simp

/-- The six values of a side's status by what the lanes are. -/
theorem State.sideStatus_cases (s : State) (n : LegId) (x : Side) :
    (¬s.BeyondTune n x ∧ s.sideStatus n x ≠ some .data ∧ s.sideStatus n x ≠ some .gated ∧ s.sideStatus n x ≠ some .counting)
      ∨ s.BeyondTune n x ∧ s.sideStatus n x =
        if ∀ j ∈ s.legLanes n, s.laneState j x = .data then some .data
        else if (∃ j ∈ s.legLanes n, s.laneState j x = .ready) ∧ (s.leg n).released.get x = false then some .gated
        else some .counting := by
  by_cases hw : (s.leg n).width = 0
  · exact .inl ⟨fun h => h.1 hw, by simp [State.sideStatus, hw]⟩
  by_cases hl : s.legLanes n = []
  · exact .inl ⟨fun h => h.2.1 hl, by simp [State.sideStatus, hw, hl]⟩
  rw [s.sideStatus_eq hw hl]
  have hbad {q : LaneState} (hq : ¬q.beyondTune) (h : ∃ j ∈ s.legLanes n, s.laneState j x = q) : ¬s.BeyondTune n x := by
    obtain ⟨j, hj, e⟩ := h
    intro hb
    exact hq (e ▸ hb.2.2 j hj)
  split
  · next h => exact .inl ⟨hbad (by simp [LaneState.beyondTune]) h, by simp⟩
  split
  · next h => exact .inl ⟨hbad (by simp [LaneState.beyondTune]) h, by simp⟩
  split
  · next h => exact .inl ⟨hbad (by simp [LaneState.beyondTune]) h, by simp⟩
  · next hq hli ht => exact .inr ⟨⟨hw, hl, s.beyondTune_or n x hq hli ht⟩, rfl⟩

theorem State.sideStatus_data (s : State) (n : LegId) (x : Side) :
    s.sideStatus n x = some .data ↔ s.BeyondTune n x ∧ ∀ j ∈ s.legLanes n, s.laneState j x = .data := by
  rcases s.sideStatus_cases n x with ⟨hb, hd, _⟩ | ⟨hb, he⟩
  · exact ⟨fun h => absurd h hd, fun h => absurd h.1 hb⟩
  · rw [he]
    split
    · next h => exact ⟨fun _ => ⟨hb, h⟩, fun _ => rfl⟩
    · next h => exact ⟨fun k => by split at k <;> simp at k, fun k => absurd k.2 h⟩

theorem State.sideStatus_gated (s : State) (n : LegId) (x : Side) :
    s.sideStatus n x = some .gated ↔
      s.BeyondTune n x ∧ (∃ j ∈ s.legLanes n, s.laneState j x = .ready) ∧ (s.leg n).released.get x = false := by
  rcases s.sideStatus_cases n x with ⟨hb, _, hg, _⟩ | ⟨hb, he⟩
  · exact ⟨fun h => absurd h hg, fun h => absurd h.1 hb⟩
  · rw [he]
    split
    · next h =>
      refine ⟨fun k => by simp at k, fun k => ?_⟩
      obtain ⟨_, ⟨j, hj, hr⟩, _⟩ := k
      rw [h j hj] at hr
      simp at hr
    · split
      · next h => exact ⟨fun _ => ⟨hb, h⟩, fun _ => rfl⟩
      · next h => exact ⟨fun k => by simp at k, fun k => absurd k.2 h⟩

theorem State.sideStatus_letsRelease (s : State) (n : LegId) (x : Side) :
    (s.sideStatus n x).any SideStatus.letsRelease = true ↔ s.BeyondTune n x := by
  rcases s.sideStatus_cases n x with ⟨hb, hd, hg, hc⟩ | ⟨hb, he⟩
  · refine ⟨fun h => ?_, fun h => absurd h hb⟩
    cases hq : s.sideStatus n x with
    | none => simp [hq] at h
    | some q => cases q <;> simp_all [SideStatus.letsRelease]
  · rw [he]
    refine ⟨fun _ => hb, fun _ => ?_⟩
    split
    · rfl
    · split <;> rfl

/-- The release rule opens side `x` of leg `n` (R84). -/
def State.Opens (s : State) (n : LegId) (x : Side) : Prop :=
  (∀ y : Side, s.BeyondTune n y) ∧ (∃ j ∈ s.legLanes n, s.laneState j x = .ready) ∧ (s.leg n).released.get x = false

theorem State.opens_iff (s : State) (n : LegId) (x : Side) :
    (s.sideStatus n x == some .gated && (s.sideStatus n x.opposite).any SideStatus.letsRelease) = true ↔ s.Opens n x := by
  rw [Bool.and_eq_true, beq_iff_eq, s.sideStatus_gated, s.sideStatus_letsRelease]
  refine ⟨fun ⟨⟨hb, hr⟩, ho⟩ => ⟨fun y => ?_, hr⟩, fun ⟨hb, hr⟩ => ⟨⟨hb x, hr⟩, hb x.opposite⟩⟩
  cases x with
  | s =>
    cases y with
    | s => exact hb
    | c => exact ho
  | c =>
    cases y with
    | s => exact ho
    | c => exact hb

/-- Both sides of the leg are in DATA: every lane is (R104). -/
theorem State.bothData_iff (s : State) (n : LegId) :
    s.bothData n = true ↔
      (s.leg n).width ≠ 0 ∧ s.legLanes n ≠ [] ∧ ∀ j ∈ s.legLanes n, ∀ y : Side, s.laneState j y = .data := by
  unfold State.bothData
  rw [Bool.and_eq_true, beq_iff_eq, beq_iff_eq, s.sideStatus_data, s.sideStatus_data]
  refine ⟨fun ⟨⟨hb, hs⟩, ⟨_, hc⟩⟩ => ⟨hb.1, hb.2.1, fun j hj y => ?_⟩, fun ⟨hw, hl, hd⟩ => ?_⟩
  · cases y
    · exact hs j hj
    · exact hc j hj
  · exact ⟨⟨⟨hw, hl, fun j hj => .inr (.inr (hd j hj .s))⟩, fun j hj => hd j hj .s⟩,
      ⟨hw, hl, fun j hj => .inr (.inr (hd j hj .c))⟩, fun j hj => hd j hj .c⟩

theorem State.allPastListen_iff (s : State) (n : LegId) :
    s.allPastListen n = true ↔
      s.legLanes n ≠ [] ∧ ∀ j ∈ s.legLanes n, ∀ y : Side, s.laneState j y ≠ .listen ∧ s.laneState j y ≠ .quiet := by
  unfold State.allPastListen bothSides
  rw [Bool.and_eq_true, List.all_eq_true]
  refine and_congr (by cases s.legLanes n <;> simp) (forall₂_congr fun j _ => ?_)
  simp only [List.all_cons, List.all_nil, Bool.and_true, Bool.and_eq_true, bne_iff_ne]
  refine ⟨fun ⟨hs, hc⟩ y => ?_, fun h => ⟨h .s, h .c⟩⟩
  cases y
  · exact hs
  · exact hc

end Sys2Proof.Machine
end

section
/-! SUPPORT. The supervisor's answer to a lane's report, by the state of the leg (R82, R84, R102, R104). -/

namespace Sys2Proof.Machine

/-! ### The margin check alone (R135) -/

theorem LegConds.eq_but_margin {c d : LegConds} (h : ∀ code : FaultCode, code ≠ .marginLow → d.get code = c.get code) :
    d = { c with marginLow := d.marginLow } := by
  have hretry := h .retryOut (by simp)
  have hcut := h .legCut (by simp)
  have hside := h .sideFail (by simp)
  have htrain := h .trainTimeout (by simp)
  have hprofile := h .profileBad (by simp)
  cases c
  cases d
  simp_all [LegConds.get]

/-- The margin check alone, as acts. -/
theorem State.marginCheck_reports (s : State) (n : LegId) : s.Reports (s.marginCheck n) (s.marginActs s n) := by
  have h := (State.Reports.refl s).marginCheck n rfl
  rwa [List.nil_append] at h

theorem State.marginCheck_leg (s : State) (n : LegId) :
    (s.marginCheck n).leg n = { s.leg n with
      conds := { (s.leg n).conds with marginLow := ((s.marginCheck n).leg n).conds.marginLow } } := by
  have hc : ((s.marginCheck n).leg n).conds =
      { (s.leg n).conds with marginLow := ((s.marginCheck n).leg n).conds.marginLow } := by
    refine LegConds.eq_but_margin fun code hcode => ?_
    have h := (s.marginCheck_reports n).condition (some n) code
    rw [State.marginActs_conditionAfter s s n hcode] at h
    exact h
  rw [(s.marginCheck_condsMove n).legs n, hc]

/-- The margin condition after a margin check is what the alarms make it. -/
theorem State.marginCheck_marginLow (s : State) (n : LegId) : (s.marginCheck n).condition (some n) .marginLow = s.anyAlarm n := by
  rw [(s.marginCheck_reports n).condition (some n) .marginLow, State.marginActs_marginLow]

theorem State.CondsMove.anyAlarm {s t : State} (h : s.CondsMove t) (n : LegId) : t.anyAlarm n = s.anyAlarm n := by
  obtain ⟨hs, _, hr, _⟩ := h.fabric
  unfold State.anyAlarm
  simp only [State.legLanes_congr hs, State.rxPath_congr hr hs]

/-! ### The end of every answer: orders, then the margin condition -/

/-- The orders are derived afresh and the margin condition is checked. -/
def State.settle (s : State) (n : LegId) : State := (s.deriveOrders n).marginCheck n

/-- The leg record is as it was, but for the margin condition. -/
def Leg.SameButMargin (l k : Leg) : Prop := k = { l with conds := { l.conds with marginLow := k.conds.marginLow } }

theorem State.settle_leg (s : State) (n : LegId) : (s.leg n).SameButMargin ((s.settle n).leg n) := by
  have h := (s.deriveOrders n).marginCheck_leg n
  rw [State.leg_congr (s.deriveOrders_legs n)] at h
  exact h

theorem State.ordersMove_settle (s : State) (n : LegId) : s.OrdersMove (s.settle n) :=
  (s.ordersMove_deriveOrders n).trans (State.marginCheck_condsMove _ n).orders

/-- What the end of an answer reports. -/
theorem State.ReportsBeside.settle {s t : State} {acts : List ReportAct} {skipped : List LegId}
    (h : s.ReportsBeside t acts skipped) (n : LegId)
    (hm : t.condition (some n) .marginLow = s.condition (some n) .marginLow) :
    s.ReportsBeside (t.settle n) (acts ++ s.marginActs (t.settle n) n) skipped := by
  have hu := (t.serviceMoves_deriveOrders n).unreported
  unfold State.settle
  rw [State.marginActs_marginCheck]
  exact (h.unreported hu).marginCheck n ((hu.condition _ _).trans hm)

/-- The lanes' orders at the end of an answer are what the leg then gives (R16). -/
theorem State.settle_order (s : State) {i : Lane} {n : LegId} (h : s.owner i = some n) (x : Side) :
    ((s.settle n).exch i x).order = s.orderFor n i x := by
  obtain ⟨_, _, _, hex, _⟩ := ((s.deriveOrders n).marginCheck_condsMove n).fabric
  unfold State.settle
  rw [State.exch_congr hex, s.deriveOrders_orderFor h]

theorem State.settle_restarts (s : State) (n : LegId) (j : Lane) (y : Side) :
    ((s.settle n).exch j y).restarts = (s.exch j y).restarts := by
  obtain ⟨_, _, _, hex, _⟩ := ((s.deriveOrders n).marginCheck_condsMove n).fabric
  unfold State.settle
  rw [State.exch_congr hex, s.deriveOrders_exch n]

/-! ### The release rule (R84) -/

/-- The release rule as a flag: it opens side `x` of leg `n`. -/
def State.opensAt (s : State) (n : LegId) (x : Side) : Bool :=
  s.sideStatus n x == some .gated && (s.sideStatus n x.opposite).any SideStatus.letsRelease

theorem State.opensAt_iff (s : State) (n : LegId) (x : Side) : s.opensAt n x = true ↔ s.Opens n x := s.opens_iff n x

theorem State.opensAt_false {s : State} {n : LegId} {x : Side} (h : ¬s.Opens n x) : s.opensAt n x = false :=
  Bool.eq_false_iff.2 fun k => h ((s.opensAt_iff n x).1 k)

theorem State.releaseTest_eq {s : State} {n : LegId} (h : (s.leg n).state = .training ∨ (s.leg n).state = .lost) :
    s.releaseTest n = s.modLeg n fun l =>
      { l with released := ⟨l.released.s || s.opensAt n .s, l.released.c || s.opensAt n .c⟩ } := if_pos h

theorem State.releaseTest_released {s : State} {n : LegId} (h : (s.leg n).state = .training ∨ (s.leg n).state = .lost)
    (y : Side) : ((s.releaseTest n).leg n).released.get y = ((s.leg n).released.get y || s.opensAt n y) := by
  rw [State.releaseTest_eq h, State.leg_modLeg_same]
  cases y <;> rfl

/-- The release test touches a leg's release flags alone. -/
theorem State.releaseTest_leg (s : State) (n : LegId) :
    (s.releaseTest n).leg n = { s.leg n with released := ((s.releaseTest n).leg n).released } := by
  unfold State.releaseTest
  dsimp only
  split
  · rw [State.leg_modLeg_same]
  · rfl

theorem State.releaseTest_skipped {s : State} {n : LegId} (h : ¬((s.leg n).state = .training ∨ (s.leg n).state = .lost)) :
    s.releaseTest n = s := if_neg h

theorem State.releaseTest_bothData (s : State) (n : LegId) : (s.releaseTest n).bothData n = s.bothData n := by
  have hm := s.ordersMove_releaseTest n
  rw [Bool.eq_iff_iff, State.bothData_iff, State.bothData_iff, s.releaseTest_leg n, State.legLanes_congr hm.slices]
  simp only [hm.laneState]

/-- Only the release test touches release flags, kept marks and conditions of a leg apart. -/
theorem State.trainingTest_skipped {s : State} {n : LegId} (h : (s.leg n).state ≠ .waiting ∨ s.allPastListen n = false) :
    s.trainingTest n = s := by
  unfold State.trainingTest
  rcases h with h | h <;> simp [h]

/-! ### The answer by leg state -/

/-- A leg that is neither starting an attempt nor in one keeps its record (R82). -/
theorem State.laneReport_still {s : State} {n : LegId} (ht : (s.leg n).state ≠ .waiting ∨ s.allPastListen n = false)
    (hs : (s.leg n).state ≠ .training) (hl : (s.leg n).state ≠ .lost) : s.laneReport n = s.settle n := by
  have hn : ¬((s.leg n).state = .training ∨ (s.leg n).state = .lost) := fun h => h.elim hs hl
  unfold State.laneReport State.upTest
  rw [State.trainingTest_skipped ht, State.releaseTest_skipped hn, if_neg fun h => hn h.1]
  rfl

theorem State.releaseTest_state (s : State) (n : LegId) : ((s.releaseTest n).leg n).state = (s.leg n).state := by
  rw [s.releaseTest_leg n]

/-- In an attempt or a recovery that is not complete the release rule is tested (R84, R122). -/
theorem State.laneReport_attempt {s : State} {n : LegId} (h : (s.leg n).state = .training ∨ (s.leg n).state = .lost)
    (hd : s.bothData n = false) : s.laneReport n = (s.releaseTest n).settle n := by
  have hw : (s.leg n).state ≠ .waiting := by rcases h with h | h <;> simp [h]
  unfold State.laneReport State.upTest
  rw [State.trainingTest_skipped (.inl hw), State.releaseTest_state, State.releaseTest_bothData, hd, if_neg (by simp)]
  rfl

theorem State.setLeg_same (s : State) (n : LegId) : s.setLeg n (s.leg n) = s := by
  unfold State.setLeg State.leg
  show { s with legs := s.legs.set n.val (s.legs[n.val]) n.isLt } = s
  rw [Vector.set_getElem_self]

/-- Where no side is open the release test changes nothing. -/
theorem State.releaseTest_idle {s : State} {n : LegId} (h : ∀ y : Side, s.opensAt n y = false) : s.releaseTest n = s := by
  by_cases hs : (s.leg n).state = .training ∨ (s.leg n).state = .lost
  · rw [State.releaseTest_eq hs, h .s, h .c]
    show s.setLeg n { s.leg n with released := ⟨(s.leg n).released.s || false, (s.leg n).released.c || false⟩ } = s
    rw [Bool.or_false, Bool.or_false]
    exact s.setLeg_same n
  · exact State.releaseTest_skipped hs

/-- An attempt or a recovery with every lane in DATA enters UP (R104, R124). -/
theorem State.laneReport_up {s : State} {n : LegId} (h : (s.leg n).state = .training ∨ (s.leg n).state = .lost)
    (hd : s.bothData n = true) : s.laneReport n = (s.enterUp n).settle n := by
  have hw : (s.leg n).state ≠ .waiting := by rcases h with h | h <;> simp [h]
  have hclosed (y : Side) : s.opensAt n y = false := by
    refine State.opensAt_false fun ho => ?_
    obtain ⟨_, ⟨j, hj, hr⟩, _⟩ := ho
    obtain ⟨_, _, hall⟩ := (s.bothData_iff n).1 hd
    rw [hall j hj y] at hr
    simp at hr
  unfold State.laneReport State.upTest
  rw [State.trainingTest_skipped (.inl hw), State.releaseTest_idle hclosed, if_pos ⟨h, hd⟩]
  rfl

/-- A WAITING leg with every lane past LISTEN enters TRAINING, and the release rule is tested there (R93, R102). -/
theorem State.laneReport_training {s : State} {n : LegId} (hs : (s.leg n).state = .waiting) (hp : s.allPastListen n = true)
    (hd : s.bothData n = false) :
    s.laneReport n = ((s.enterTraining n .allSignals).releaseTest n).settle n := by
  have ht : s.trainingTest n = s.enterTraining n .allSignals := by
    unfold State.trainingTest
    simp [hs, hp]
  have hm := s.ordersMove_enterTraining n .allSignals
  have hb : (s.enterTraining n .allSignals).bothData n = false := by
    rw [← hd, Bool.eq_iff_iff, State.bothData_iff, State.bothData_iff, s.enterTraining_leg n, State.legLanes_congr hm.slices]
    simp only [hm.laneState]
    rfl
  unfold State.laneReport State.upTest
  rw [ht, State.releaseTest_bothData, hb, if_neg (by simp)]
  rfl

/-! ### The leg's record after the answer -/

/-- A leg that is in no attempt, or in one that goes on, stands but for release flags and the margin condition. -/
theorem State.laneReport_stands {s : State} {n : LegId}
    (ht : (s.leg n).state ≠ .waiting ∨ s.allPastListen n = false) (hd : s.bothData n = false) :
    (s.laneReport n).leg n = { s.leg n with
        released := ((s.laneReport n).leg n).released
        conds := { (s.leg n).conds with marginLow := ((s.laneReport n).leg n).conds.marginLow } } := by
  by_cases hs : (s.leg n).state = .training ∨ (s.leg n).state = .lost
  · rw [State.laneReport_attempt hs hd]
    have h := (s.releaseTest n).settle_leg n
    unfold Leg.SameButMargin at h
    rw [h, s.releaseTest_leg n]
  · obtain ⟨h1, h2⟩ := not_or.1 hs
    rw [State.laneReport_still ht h1 h2]
    have h := s.settle_leg n
    unfold Leg.SameButMargin at h
    rw [h]

theorem State.not_bothData {s : State} {n : LegId} {i : Lane} {x : Side} (h : s.owner i = some n)
    (hd : s.laneState i x ≠ .data) : s.bothData n = false := by
  refine Bool.eq_false_iff.2 fun hb => hd ?_
  obtain ⟨_, _, hall⟩ := (s.bothData_iff n).1 hb
  exact hall i ((s.mem_legLanes n i).2 h) x

/-- The answer never clears a release flag; it sets one where the rule opens the side in an attempt or a recovery. -/
theorem State.laneReport_released {s : State} {n : LegId}
    (h : (s.leg n).state = .training ∨ (s.leg n).state = .lost) (hd : s.bothData n = false) (y : Side) :
    ((s.laneReport n).leg n).released.get y = ((s.leg n).released.get y || s.opensAt n y) := by
  rw [State.laneReport_attempt h hd, (s.releaseTest n).settle_leg n]
  exact State.releaseTest_released h y

/-- Outside an attempt and its start the answer keeps the release flags. -/
theorem State.laneReport_released_still {s : State} {n : LegId} (ht : (s.leg n).state ≠ .waiting ∨ s.allPastListen n = false)
    (hs : (s.leg n).state ≠ .training) (hl : (s.leg n).state ≠ .lost) :
    ((s.laneReport n).leg n).released = (s.leg n).released := by
  rw [State.laneReport_still ht hs hl, s.settle_leg n]

theorem State.opensAt_lane {s : State} {n : LegId} {i : Lane} {x : Side} (h : s.owner i = some n)
    (hb : ¬(s.laneState i x).beyondTune) (y : Side) : s.opensAt n y = false := by
  refine State.opensAt_false fun ho => hb ?_
  obtain ⟨hall, _⟩ := ho
  exact (hall x).2.2 i ((s.mem_legLanes n i).2 h)

/-- The answer to a lane that is not past the exchange opens no side. -/
theorem State.laneReport_opens_none {s : State} {n : LegId} {i : Lane} {x : Side} (h : s.owner i = some n)
    (hb : ¬(s.laneState i x).beyondTune) : ((s.laneReport n).leg n).released = (s.leg n).released := by
  have hd : s.bothData n = false := State.not_bothData h fun k => hb (.inr (.inr k))
  by_cases hs : (s.leg n).state = .training ∨ (s.leg n).state = .lost
  · rw [State.laneReport_attempt hs hd, State.releaseTest_idle fun y => State.opensAt_lane h hb y, s.settle_leg n]
  · obtain ⟨h1, h2⟩ := not_or.1 hs
    by_cases hw : (s.leg n).state = .waiting ∧ s.allPastListen n = true
    · have hm := s.ordersMove_enterTraining n .allSignals
      have hidle : (s.enterTraining n .allSignals).releaseTest n = s.enterTraining n .allSignals :=
        State.releaseTest_idle fun y => State.opensAt_lane ((State.owner_congr hm.slices i).trans h)
          (by rwa [hm.laneState]) y
      rw [State.laneReport_training hw.1 hw.2 hd, hidle, State.settle_leg _ n, s.enterTraining_leg n]
      rfl
    · refine State.laneReport_released_still ?_ h1 h2
      rcases not_and_or.1 hw with k | k
      · exact .inl k
      · exact .inr (Bool.eq_false_iff.2 k)

end Sys2Proof.Machine
end

section
/-! PROOF. Signals and the exchange timers (O20 to O23; R14, R34, R70, R74, R116 to R118, R123). -/

namespace Sys2Proof.Machine

/-! ### What the leg's answer keeps of a lane -/

theorem State.OrdersMove.fresh {s t : State} (h : s.OrdersMove t) {j : Lane} {y : Side} (hf : (s.exch j y).Fresh) :
    (t.exch j y).Fresh := by
  rw [h.exchs j y]
  exact hf

theorem Exchange.Fresh.withRestarts {e : Exchange} (h : e.Fresh) (restarts : Nat) :
    ({ e with restarts } : Exchange).Fresh := h

theorem State.OrdersMove.loadedAt {s t : State} (h : s.OrdersMove t) {p : Profile} {k : Lane} {y : Side}
    (hl : s.LoadedAt p k y) : t.LoadedAt p k y :=
  ⟨hl.1.withLine (h.txs k y), (congrArg RxPath.eqCode (State.rxAt_congr h.rx k y)).trans hl.2⟩

theorem State.OrdersMove.rxPath {s t : State} (h : s.OrdersMove t) (j : Lane) (y : Side) : t.rxPath j y = s.rxPath j y :=
  State.rxPath_congr h.rx h.slices j y

theorem State.releaseTest_ex (s : State) (n : LegId) : (s.releaseTest n).ex = s.ex := by
  unfold State.releaseTest
  dsimp only
  split <;> rfl

/-- Restart counts stand but at an entry to TRAINING (R35, R102). -/
theorem State.laneReport_restarts {s : State} {n : LegId} (ht : (s.leg n).state ≠ .waiting ∨ s.allPastListen n = false)
    (hd : s.bothData n = false) (j : Lane) (y : Side) : ((s.laneReport n).exch j y).restarts = (s.exch j y).restarts := by
  by_cases hs : (s.leg n).state = .training ∨ (s.leg n).state = .lost
  · rw [State.laneReport_attempt hs hd, State.settle_restarts, State.exch_congr (s.releaseTest_ex n)]
  · obtain ⟨h1, h2⟩ := not_or.1 hs
    rw [State.laneReport_still ht h1 h2, State.settle_restarts]

theorem State.not_allPastListen {s : State} {n : LegId} {i : Lane} {x : Side} (h : s.owner i = some n)
    (hl : s.laneState i x = .listen ∨ s.laneState i x = .quiet) : s.allPastListen n = false := by
  refine Bool.eq_false_iff.2 fun hp => ?_
  obtain ⟨_, hall⟩ := (s.allPastListen_iff n).1 hp
  obtain ⟨h1, h2⟩ := hall i ((s.mem_legLanes n i).2 h) x
  exact hl.elim h1 h2

/-! ### A lane back in LISTEN (R36, R40, R85) -/

theorem State.enterListen_laneState (s : State) (i : Lane) (x : Side) : (s.enterListen i x).laneState i x = .listen :=
  (s.enterListen_fresh i x).1

theorem State.enterListen_restarts (s : State) (i : Lane) (x : Side) :
    ((s.enterListen i x).exch i x).restarts = (s.exch i x).restarts := by
  obtain ⟨warm, h⟩ := s.enterListen_exch i x
  rw [h]
  rfl

theorem State.loadLane_rxPath (s : State) (p : Profile) (i : Lane) (x : Side) :
    (s.loadLane p i x).rxPath i x = { s.rxPath i x with eqCode := (p.equalizer.get p.rate).get x } :=
  State.rxPath_modRx_same (s.modTx i x fun q => q.loadSet p.rate) i x _

/-- An entry to LISTEN keeps the signal flag (R14). -/
theorem State.enterListen_signal {s : State} {i : Lane} {n : LegId} (h : s.owner i = some n) (x : Side) :
    ((s.enterListen i x).rxPath i x).signal = (s.rxPath i x).signal := by
  obtain ⟨warm, he⟩ := s.enterListen_eq h x
  have hs := (State.laneMove_outOfService h x).slices
  have hr : ((s.outOfService i x).rxPath i x).signal = (s.rxPath i x).signal := by
    rw [s.outOfService_rxPath i x]
    split <;> rfl
  rw [he, ← hr]
  generalize s.outOfService i x = o
  show ((o.loadLane (s.leg n).profile i x).rxPath i x).signal = _
  rw [o.loadLane_rxPath]

/-- The lane that enters LISTEN, its restart count apart: the state in which its leg is told of it. -/
def State.listening (s : State) (i : Lane) (x : Side) (restarts : Nat) : State :=
  (s.enterListen i x).modExch i x fun e => { e with restarts }

theorem State.listening_same (s : State) (i : Lane) (x : Side) :
    s.listening i x (s.exch i x).restarts = s.enterListen i x := by
  rw [← s.enterListen_restarts i x]
  exact State.setExch_same _ i x

/-- A lane that its leg is told is back in LISTEN (R2, R36, R40, R85). -/
theorem State.backInListen {s u : State} {n : LegId} {i : Lane} {x : Side} (h : s.LaneMove n i x u) (hp : s.PairsApart)
    (hi : s.owner i = some n) (restarts : Nat) :
    s.BackInListen ((u.listening i x restarts).laneReport n) n i x
      ∧ (((u.listening i x restarts).laneReport n).rxPath i x).signal = (u.rxPath i x).signal
      ∧ (((u.listening i x restarts).laneReport n).exch i x).restarts = restarts := by
  have hui : u.owner i = some n := (h.owner i).trans hi
  have hlisten := State.laneMove_enterListen hui x
  have hmove : s.LaneMove n i x (u.listening i x restarts) := (h.trans hlisten).trans (State.laneMove_modExch _ n i x _)
  have horders := (u.listening i x restarts).ordersMove_laneReport n
  have hv : (u.listening i x restarts).owner i = some n := (hmove.owner i).trans hi
  have hexch : (u.listening i x restarts).exch i x = { (u.enterListen i x).exch i x with restarts } :=
    State.exch_modExch_same _ i x _
  have hstate : (u.listening i x restarts).laneState i x = .listen :=
    (congrArg Exchange.lane hexch).trans (u.enterListen_laneState i x)
  have hpast := State.not_allPastListen hv (.inl hstate)
  have hdata := State.not_bothData (x := x) hv (by rw [hstate]; simp)
  have hprofile : (u.leg n).profile = (s.leg n).profile := by rw [h.leg]
  have hloaded : (u.listening i x restarts).LoadedAt (s.leg n).profile (s.phys i x) x := by
    rw [← hprofile, ← h.phys i x]
    exact u.enterListen_loaded hui x
  have hfresh : ((u.listening i x restarts).exch i x).Fresh := by
    rw [hexch]
    exact (u.enterListen_fresh i x).withRestarts restarts
  have hreleased : ((u.listening i x restarts).leg n).released.get x = false := State.enterListen_released hui x
  have hsignal : ((u.listening i x restarts).rxPath i x).signal = (u.rxPath i x).signal := State.enterListen_signal hui x
  have hcount : ((u.listening i x restarts).exch i x).restarts = restarts := by rw [hexch]
  have hopens := State.laneReport_opens_none (x := x) hv (by rw [hstate]; simp [LaneState.beyondTune])
  have hstands := State.laneReport_stands (.inr hpast) hdata
  have hcounts := State.laneReport_restarts (.inr hpast) hdata i x
  generalize (u.listening i x restarts).laneReport n = t at *
  generalize u.listening i x restarts = v at *
  obtain ⟨htx, hrx⟩ := horders.loadedAt hloaded
  have hslices := horders.slices.trans hmove.slices
  refine ⟨⟨horders.fresh hfresh, ?_, ?_, ?_, ?_, hmove.others horders hp⟩, ?_, hcounts.trans hcount⟩
  · rw [State.txPath_eq_txAt hslices]
    exact htx
  · rw [State.rxPath_eq_rxAt hslices]
    exact hrx
  · rw [hopens]
    exact hreleased
  · unfold State.LegStands
    have hleg := hmove.leg
    rw [hstands, hleg]
  · rw [horders.rxPath]
    exact hsignal

/-! ### Signal events -/

theorem exec_signalLost {s : State} (h : s.resetHeld = false) (i : Lane) (x : Side) (a : Nat) :
    exec (.signalLost i x a) s = .next ((s.reach a).loseSignal i x) := by
  show execSignalLost i x a s = _
  simp [execSignalLost, h]

theorem exec_signalRestored {s : State} (h : s.resetHeld = false) (i : Lane) (x : Side) (a : Nat) :
    exec (.signalRestored i x a) s = .next ((s.reach a).regainSignal i x) := by
  show execSignalRestored i x a s = _
  simp [execSignalRestored, h]

theorem State.laneMove_setSignal (s : State) (n : LegId) (i : Lane) (x : Side) (b : Bool) : s.LaneMove n i x (s.setSignal i x b) :=
  s.laneMove_modRx n i x _

/-- A lane that its leg lets go back to LISTEN at a loss (R14). -/
def State.LossReturns (s : State) (n : LegId) (i : Lane) (x : Side) : Prop :=
  s.laneState i x = .tune ∨ s.laneState i x = .ready ∨ s.laneState i x = .count
    ∨ s.laneState i x = .data ∧ (s.leg n).state = .training

theorem State.loseSignal_returns {s : State} {n : LegId} {i : Lane} {x : Side} (hi : s.owner i = some n)
    (h : s.LossReturns n i x) : s.loseSignal i x = ((s.setSignal i x false).enterListen i x).laneReport n := by
  unfold State.loseSignal
  rcases h with h | h | h | ⟨h, ht⟩
  · simp [hi, h]
  · simp [hi, h]
  · simp [hi, h]
  · have hd : (s.setSignal i x false).lossInData n i x = ((s.setSignal i x false).enterListen i x).laneReport n := by
      have hs : ((s.setSignal i x false).leg n).state = .training := ht
      simp [State.lossInData, hs]
    simp [hi, h, hd]

theorem State.loseSignal_flag {s : State} {n : LegId} {i : Lane} {x : Side} (hi : s.owner i = some n)
    (h : s.laneState i x = .quiet ∨ s.laneState i x = .listen) : s.loseSignal i x = s.setSignal i x false := by
  unfold State.loseSignal
  rcases h with h | h <;> simp [hi, h]

theorem State.regainSignal_flag {s : State} {n : LegId} {i : Lane} {x : Side} (hi : s.owner i = some n)
    (h : (s.leg n).state ≠ .held) : s.regainSignal i x = s.setSignal i x true := by
  have hr : (s.setSignal i x true).restoreReported n = s.setSignal i x true := by
    have hs : ((s.setSignal i x true).leg n).state = (s.leg n).state := rfl
    unfold State.restoreReported
    rw [hs]
    split
    · next k => exact absurd k h
    · rfl
  unfold State.regainSignal
  simp only [hi, hr]
  split <;> rfl

/-- A frame-silence restart is an entry to LISTEN, counted in TRAINING (R34). -/
theorem State.restartExchange_eq (s : State) (n : LegId) (i : Lane) (x : Side) :
    s.restartExchange n i x =
      (s.listening i x ((s.exch i x).restarts + if (s.leg n).state = .training then 1 else 0)).laneReport n := by
  unfold State.restartExchange
  dsimp only
  by_cases ht : (s.leg n).state = .training
  · rw [if_pos ht, if_pos ht, ← s.enterListen_restarts i x]
    rfl
  · rw [if_neg ht, if_neg ht, Nat.add_zero, State.listening_same]

/-- Outside TRAINING a lane failure takes the lane to LISTEN, and the leg is told (R74). -/
theorem State.laneFailure_listens {s : State} {n : LegId} (hs : (s.leg n).state ≠ .training) {i : Lane} {x : Side}
    (before : State) (hb : before.laneState i x ≠ .listen) {reason : LaneFailReason} :
    before.reportIfMoved (s.laneFailure n i x reason) n i x = (s.enterListen i x).laneReport n := by
  have hf : s.laneFailure n i x reason = s.enterListen i x := if_neg hs
  unfold State.reportIfMoved
  rw [hf, if_neg]
  rw [s.enterListen_laneState]
  exact fun h => hb h.symm

/-- Settles O20: each of the three is an entry to LISTEN that the leg is told of. -/
theorem laneReturnsToListen : Obligations.LaneReturnsToListen := by
  intro s i x a w n hplan hi
  have hp := hplan.pairsApart
  refine ⟨fun hr h => ?_, fun hl hw hn => ?_, fun hl hw hn => ?_, fun hr h => ?_, fun hr h => ?_⟩
  · have hmove := (s.reach a).laneMove_setSignal n i x false
    obtain ⟨hb, hsig, hres⟩ := State.backInListen (s := s.reach a) hmove hp hi (((s.reach a).setSignal i x false).exch i x).restarts
    refine ⟨_, exec_signalLost hr i x a, ?_⟩
    rw [State.loseSignal_returns (s := s.reach a) hi h, ← State.listening_same]
    refine ⟨hb, hsig.trans ?_, hres⟩
    exact congrArg RxPath.signal (State.rxPath_modRx_same _ i x _)
  · have hsilence : (s.reach w).silence n i x = (s.reach w).restartExchange n i x := if_neg hn
    refine ⟨_, exec_frameSilenceExpiry hi hl hw, ?_⟩
    rw [hsilence, State.restartExchange_eq]
    obtain ⟨hb, _, hres⟩ := State.backInListen (x := x) (.refl (s.reach w)) hp hi
      (((s.reach w).exch i x).restarts + if ((s.reach w).leg n).state = .training then 1 else 0)
    exact ⟨hb, hres⟩
  · obtain ⟨hb, _, hres⟩ := State.backInListen (x := x) (.refl (s.reach w)) hp hi ((s.reach w).exch i x).restarts
    refine ⟨_, exec_answerTimerExpiry hi hl hw, ?_⟩
    rw [State.laneFailure_listens (s := s.reach w) hn _ (by rw [show (s.reach w).laneState i x = .tune from hl]; simp),
      ← State.listening_same]
    exact ⟨hb, hres⟩
  · rw [exec_signalLost hr, State.loseSignal_flag (s := s.reach a) hi h]
    rfl
  · rw [exec_signalRestored hr, State.regainSignal_flag (s := s.reach a) hi h]
    rfl

/-! ### Lines under orders derived afresh (R18) -/

/-- A path that follows its order obeys the one derived afresh; any other line stands. -/
theorem State.deriveOrders_txPath {s : State} {n : LegId} {i : Lane} (hp : s.PairsApart) (h : s.owner i = some n) (x : Side) :
    (s.deriveOrders n).txPath i x = { s.txPath i x with
      line := if (s.exch i x).inService then (s.txPath i x).line.obey (s.orderFor n i x) else (s.txPath i x).line } := by
  have hone := State.onExchanges_each (f := fun j y t => t.deriveOrder n j y) (i := i) (x := x)
    (P := fun t => t.legs = s.legs ∧ t.slices = s.slices ∧ t.rx = s.rx ∧ (t.exch i x).inService = (s.exch i x).inService)
    (fun t => t.txAt (s.phys i x) x)
    (fun p => { p with line := if (s.exch i x).inService then p.line.obey (s.orderFor n i x) else p.line })
    (s.legLanes_nodup n) ?_ ?_ ?_ ⟨rfl, rfl, rfl, rfl⟩
  · rw [if_pos ((s.mem_legLanes n i).2 h)] at hone
    rw [State.txPath_eq_txAt (s.deriveOrders_moves n).slices]
    exact hone
  · intro j _ y t ⟨hl, hs, hr, he⟩
    refine ⟨(t.deriveOrder_legs n j y).trans hl, (t.deriveOrder_moves n j y).slices.trans hs, (t.deriveOrder_rx n j y).trans hr, ?_⟩
    rw [← he]
    by_cases hji : (i, x) = (j, y)
    · obtain ⟨rfl, rfl⟩ := Prod.mk.inj hji
      rw [t.deriveOrder_exch]
      rfl
    · rw [t.deriveOrder_exch_ne n hji]
  · intro t ⟨hl, hs, hr, he⟩
    have ho : t.orderFor n i x = s.orderFor n i x := State.orderFor_congr (by rw [State.leg_congr hl]) hs hr i x
    unfold State.deriveOrder
    dsimp only
    rw [he, ho, ← State.phys_congr hs]
    split
    · exact State.txPath_modTx_same (t.modExch i x fun e => { e with order := s.orderFor n i x }) i x _
    · rfl
  · intro j _ y t hne ⟨_, hs, _⟩
    unfold State.deriveOrder
    dsimp only
    split
    · rw [← State.phys_congr hs]
      exact State.tx_setTxAt_ne _ _ (State.phys_ne t (hp.congr hs) hne.symm)
    · rfl

/-! ### Loss and restore within an episode (R117) -/

/-- In HELD every lane of the leg is in DATA. -/
theorem State.LanesOk.data {s : State} (h : s.LanesOk) {n : LegId} (hs : (s.leg n).state = .up ∨ (s.leg n).state = .held)
    {i : Lane} (hi : s.owner i = some n) (x : Side) : s.laneState i x = .data := by
  have ha := h.1 i n hi x
  rcases hs with hs | hs <;> rw [hs] at ha <;> simpa [LegState.admits] using ha

theorem Exchange.inService_of_data {e : Exchange} (h : e.lane = .data) : e.inService = true := by
  simp [Exchange.inService, h]

theorem State.orderFor_held {s : State} {n : LegId} (h : (s.leg n).state = .held) (i : Lane) (x : Side) :
    s.orderFor n i x = if (s.rxPath i x.opposite).signal then .data else .gap := by
  unfold State.orderFor
  rw [h]

/-- A change of one signal flag, answered with orders derived afresh. -/
def State.resignalled (s : State) (n : LegId) (i : Lane) (x : Side) (b : Bool) : State := (s.setSignal i x b).deriveOrders n

theorem State.rxPath_setSignal (s : State) (i : Lane) (x : Side) (b : Bool) :
    (s.setSignal i x b).rxPath i x = { s.rxPath i x with signal := b } := s.rxPath_modRx_same i x _

theorem State.resignalled_only (s : State) (n : LegId) (i : Lane) (x : Side) (b : Bool) :
    (s.resignalled n i x b).legs = s.legs ∧ (s.resignalled n i x b).report = s.report
      ∧ (s.resignalled n i x b).agent = s.agent ∧ (s.resignalled n i x b).slices = s.slices
      ∧ (s.resignalled n i x b).rx = (s.setRxAt (s.phys i x) x { s.rxPath i x with signal := b }).rx
      ∧ ∀ (j : Lane) (y : Side), (s.resignalled n i x b).exch j y =
        { s.exch j y with order := ((s.resignalled n i x b).exch j y).order } := by
  have hm := (s.setSignal i x b).deriveOrders_moves n
  have hf := (s.laneMove_setSignal n i x b).lanes.trans hm
  have hexch := (s.setSignal i x b).deriveOrders_exch n
  refine ⟨State.deriveOrders_legs _ n, hf.report, ?_, hf.slices, State.deriveOrders_rx _ n, hexch⟩
  unfold State.LanesMove at hf
  unfold State.resignalled
  rw [hf]

theorem State.resignalled_order (s : State) {n : LegId} (hs : (s.leg n).state = .held) (i : Lane) (x : Side) (b : Bool)
    {j : Lane} (hj : s.owner j = some n) (y : Side) :
    ((s.resignalled n i x b).exch j y).order = if ((s.resignalled n i x b).rxPath j y.opposite).signal then .data else .gap := by
  unfold State.resignalled
  rw [State.deriveOrders_orderFor _ (by exact hj), State.orderFor_held (by exact hs),
    State.rxPath_congr (State.deriveOrders_rx _ n) (State.deriveOrders_moves _ n).slices]

theorem Side.opposite_opposite (x : Side) : x.opposite.opposite = x := by cases x <;> rfl

/-- The opposite transmit path of a lane in DATA obeys what its receiver's flag asks for. -/
theorem State.resignalled_line (s : State) (hp : s.PairsApart) {n : LegId} (hs : (s.leg n).state = .held) {i : Lane}
    (hi : s.owner i = some n) (x : Side) (hd : s.laneState i x.opposite = .data) (b : Bool) :
    ((s.resignalled n i x b).txPath i x.opposite).line =
      (s.txPath i x.opposite).line.obey (if b then .data else .gap) := by
  have hx : ((s.setSignal i x b).rxPath i x.opposite.opposite).signal = b := by
    rw [Side.opposite_opposite, s.rxPath_setSignal]
  unfold State.resignalled
  rw [State.deriveOrders_txPath (s := s.setSignal i x b) (hp.congr rfl) hi, State.orderFor_held (by exact hs), hx,
    if_pos (Exchange.inService_of_data (by exact hd))]
  rfl

theorem State.loseSignal_held {s : State} {n : LegId} {i : Lane} {x : Side} (hi : s.owner i = some n)
    (hs : (s.leg n).state = .held) (hd : s.laneState i x = .data) : s.loseSignal i x = s.resignalled n i x false := by
  have h : (s.setSignal i x false).lossInData n i x = (s.setSignal i x false).deriveOrders n := by
    unfold State.lossInData
    rw [show ((s.setSignal i x false).leg n).state = .held from hs]
  unfold State.loseSignal
  simp only [hi, hd, h]
  rfl

theorem State.regainSignal_data {s : State} {n : LegId} {i : Lane} {x : Side} (hi : s.owner i = some n)
    (hs : (s.leg n).state = .held) (hd : s.laneState i x = .data) :
    s.regainSignal i x =
      if (s.setSignal i x true).sideLost n .s = true ∨ (s.setSignal i x true).sideLost n .c = true then s.resignalled n i x true
      else (s.setSignal i x true).endGlitch n := by
  have h : (s.setSignal i x true).restoreReported n =
      if (s.setSignal i x true).sideLost n .s = true ∨ (s.setSignal i x true).sideLost n .c = true then
        s.resignalled n i x true
      else (s.setSignal i x true).endGlitch n := by
    unfold State.restoreReported
    rw [show ((s.setSignal i x true).leg n).state = .held from hs]
    simp only [Bool.or_eq_true]
    rfl
  unfold State.regainSignal
  simp only [hi, hd, h]

/-- Some side has lost a path where some path of the leg is ABSENT (R17). -/
theorem State.sideLost_iff (s : State) (n : LegId) (y : Side) :
    s.sideLost n y = true ↔ ∃ j : Lane, s.owner j = some n ∧ (s.rxPath j y).signal = false := by
  unfold State.sideLost
  simp [State.mem_legLanes]

theorem State.rxPath_setSignal_ne {s : State} (hp : s.PairsApart) {i j : Lane} {x y : Side} (h : (j, y) ≠ (i, x)) (b : Bool) :
    (s.setSignal i x b).rxPath j y = s.rxPath j y := s.rxPath_modRx_ne hp _ h

/-! ### A side that starts afresh (R12, R119, R123) -/

/-- Only lanes of leg `n` on side `x`, and that side's release flag and kept mark, have moved. -/
structure State.SideMove (n : LegId) (x : Side) (s t : State) : Prop where
  service : s.ServiceMoves t
  exchs : ∀ (j : Lane) (y : Side), y ≠ x → t.exch j y = s.exch j y
  restarts : ∀ (j : Lane) (y : Side), (t.exch j y).restarts = (s.exch j y).restarts
  released : (s.leg n).released.ClearedAt x (t.leg n).released
  kept : (s.leg n).kept.ClearedAt x (t.leg n).kept

theorem State.SideMove.refl (n : LegId) (x : Side) (s : State) : s.SideMove n x s :=
  ⟨.refl s, fun _ _ _ => rfl, fun _ _ => rfl, .inl rfl, .inl rfl⟩

theorem State.SideMove.trans {n : LegId} {x : Side} {s t u : State} (h : s.SideMove n x t) (k : t.SideMove n x u) :
    s.SideMove n x u :=
  ⟨h.service.trans k.service, fun j y hy => (k.exchs j y hy).trans (h.exchs j y hy),
    fun j y => (k.restarts j y).trans (h.restarts j y), k.released.trans h.released, k.kept.trans h.kept⟩

theorem State.sideMove_enterListen {s : State} {n : LegId} {j : Lane} (h : s.owner j = some n) (x : Side) :
    s.SideMove n x (s.enterListen j x) := by
  have hm := State.laneMove_enterListen h x
  refine ⟨s.serviceMoves_enterListen j x, fun k y hy => hm.exchs k y fun e => hy (Prod.mk.inj e).2, fun k y => ?_, hm.released,
    hm.kept⟩
  by_cases he : (k, y) = (j, x)
  · obtain ⟨rfl, rfl⟩ := Prod.mk.inj he
    exact s.enterListen_restarts k y
  · rw [hm.exchs k y he]

theorem State.onLanes_keeps {P : State → Prop} {f : Lane → State → State} {lanes : List Lane}
    (hP : ∀ j ∈ lanes, ∀ t, P t → P (f j t)) {s : State} (hs : P s) : P (s.onLanes lanes f) := by
  unfold State.onLanes
  induction lanes generalizing s with
  | nil => exact hs
  | cons i rest ih => exact ih (fun j hj => hP j (List.mem_cons_of_mem i hj)) (hP i List.mem_cons_self s hs)

theorem State.sideMove_startSide (s : State) (n : LegId) (x : Side) : s.SideMove n x (s.startSide n x) := by
  unfold State.startSide
  refine State.onLanes_keeps (P := fun t => s.SideMove n x t) (f := fun j t => t.enterListen j x) (fun j hj t ht => ?_) (.refl n x s)
  exact ht.trans (State.sideMove_enterListen ((ht.service.owner j).trans ((s.mem_legLanes n j).1 hj)) x)

/-- Every lane of a side that starts afresh is in LISTEN. -/
theorem State.startSide_fresh {s : State} {n : LegId} {j : Lane} (h : s.owner j = some n) (x : Side) :
    ((s.startSide n x).exch j x).Fresh := by
  unfold State.startSide
  exact State.onLanes_reaches (P := fun _ => True) (f := fun i t => t.enterListen i x) (Q := fun t => (t.exch j x).Fresh)
    ((s.mem_legLanes n j).2 h) (fun _ _ _ _ => trivial) (fun t _ => t.enterListen_fresh j x)
    (fun i _ t hne _ hq => by rwa [t.enterListen_exch_ne fun e => hne (Prod.mk.inj e).1.symm]) trivial

/-- Every lane of a side that starts afresh is loaded by the leg's profile. -/
theorem State.startSide_loaded {s : State} {n : LegId} {j : Lane} (h : s.owner j = some n) (x : Side) :
    (s.startSide n x).LoadedAt (s.leg n).profile (s.phys j x) x := by
  unfold State.startSide
  exact State.onLanes_reaches (P := s.ServiceMoves) (f := fun i t => t.enterListen i x)
    (Q := fun t => t.LoadedAt (s.leg n).profile (s.phys j x) x) ((s.mem_legLanes n j).2 h)
    (fun i _ t ht => ht.trans (t.serviceMoves_enterListen i x))
    (fun t ht => by
      rw [← ht.profile n, ← State.phys_congr ht.lanes.slices]
      exact t.enterListen_loaded ((ht.owner j).trans h) x)
    (fun i hi t _ ht hq => by
      rw [← ht.profile n] at hq ⊢
      exact t.enterListen_keeps_loaded ((ht.owner i).trans ((s.mem_legLanes n i).1 hi)) x hq) (.refl s)

theorem State.enterListen_keeps_loaded_by {s : State} {p : Profile} {n : LegId} (hp : (s.leg n).profile = p) {j : Lane}
    (h : s.owner j = some n) (x : Side) {k : Lane} {y : Side} (hl : s.LoadedAt p k y) : (s.enterListen j x).LoadedAt p k y := by
  rw [← hp] at hl ⊢
  exact s.enterListen_keeps_loaded h x hl

/-- A side that starts afresh leaves what its leg's profile has loaded loaded. -/
theorem State.startSide_keeps_loaded (s : State) (n : LegId) (x : Side) {k : Lane} {y : Side}
    (hl : s.LoadedAt (s.leg n).profile k y) : (s.startSide n x).LoadedAt (s.leg n).profile k y := by
  unfold State.startSide
  refine (State.onLanes_keeps (P := fun t => s.ServiceMoves t ∧ t.LoadedAt (s.leg n).profile k y)
    (f := fun i t => t.enterListen i x) (fun j hj t ⟨ht, hq⟩ => ⟨ht.trans (t.serviceMoves_enterListen j x), ?_⟩)
    ⟨.refl s, hl⟩).2
  exact State.enterListen_keeps_loaded_by (ht.profile n) ((ht.owner j).trans ((s.mem_legLanes n j).1 hj)) x hq

/-- A side with a lane is not released after it starts afresh, and has no kept mark where that lane was in DATA. -/
theorem State.startSide_released {s : State} {n : LegId} {j : Lane} (h : s.owner j = some n) (x : Side) :
    ((s.startSide n x).leg n).released.get x = false := by
  unfold State.startSide
  exact State.onLanes_reaches (P := fun t => s.SideMove n x t) (f := fun i t => t.enterListen i x)
    (Q := fun t => (t.leg n).released.get x = false) ((s.mem_legLanes n j).2 h)
    (fun i hi t ht => ht.trans (State.sideMove_enterListen ((ht.service.owner i).trans ((s.mem_legLanes n i).1 hi)) x))
    (fun t ht => State.enterListen_released ((ht.service.owner j).trans h) x)
    (fun i hi t _ ht hq =>
      (State.laneMove_enterListen ((ht.service.owner i).trans ((s.mem_legLanes n i).1 hi)) x).released.cleared hq) (.refl n x s)

theorem State.loadedLane_leg (s : State) (p : Profile) (i : Lane) (x : Side) (f : Exchange → Exchange) (n : LegId) :
    ((s.loadLane p i x).modExch i x f).leg n = s.leg n := rfl

theorem State.enterListen_kept_cleared {s : State} {n : LegId} {i : Lane} {x : Side} (h : s.owner i = some n)
    (hd : s.laneState i x = .data) : ((s.enterListen i x).leg n).kept.get x = false := by
  obtain ⟨warm, he⟩ := s.enterListen_eq h x
  rw [he, State.loadedLane_leg]
  exact State.outOfService_kept_cleared h hd

theorem State.startSide_kept {s : State} {n : LegId} {j : Lane} (h : s.owner j = some n) {x : Side}
    (hd : s.laneState j x = .data) : ((s.startSide n x).leg n).kept.get x = false := by
  unfold State.startSide
  refine (State.onLanes_reaches (P := fun t => s.SideMove n x t ∧ (t.laneState j x = .data ∨ (t.leg n).kept.get x = false))
    (f := fun i t => t.enterListen i x)
    (Q := fun t => (t.leg n).kept.get x = false) ((s.mem_legLanes n j).2 h)
    (fun i hi t ⟨ht, hk⟩ => ?_) (fun t ⟨ht, hk⟩ => ?_) (fun i hi t _ ⟨ht, _⟩ hq => ?_) ⟨.refl n x s, .inl hd⟩)
  · have hi' := (ht.service.owner i).trans ((s.mem_legLanes n i).1 hi)
    refine ⟨ht.trans (State.sideMove_enterListen hi' x), ?_⟩
    rcases hk with hk | hk
    · by_cases hij : i = j
      · subst hij
        exact .inr (State.enterListen_kept_cleared hi' hk)
      · left
        unfold State.laneState
        rwa [t.enterListen_exch_ne fun e => hij (Prod.mk.inj e).1.symm]
    · exact .inr ((State.laneMove_enterListen hi' x).kept.cleared hk)
  · have hj := (ht.service.owner j).trans h
    rcases hk with hk | hk
    · exact State.enterListen_kept_cleared hj hk
    · exact (State.laneMove_enterListen hj x).kept.cleared hk
  · exact (State.laneMove_enterListen ((ht.service.owner i).trans ((s.mem_legLanes n i).1 hi)) x).kept.cleared hq

/-- An entry to LISTEN of any lane keeps every signal flag (R14). -/
theorem State.enterListen_signals {s : State} {n : LegId} {j : Lane} (h : s.owner j = some n) (x : Side) (k : Lane) (y : Side) :
    ((s.enterListen j x).rxAt k y).signal = (s.rxAt k y).signal := by
  have hm := State.laneMove_enterListen h x
  by_cases he : (k, y) = (s.phys j x, x)
  · obtain ⟨rfl, rfl⟩ := Prod.mk.inj he
    have hsig := State.enterListen_signal h y
    rw [State.rxPath_eq_rxAt hm.slices] at hsig
    exact hsig
  · rw [hm.rxs k y he]

theorem State.startSide_signals (s : State) (n : LegId) (x : Side) (k : Lane) (y : Side) :
    ((s.startSide n x).rxAt k y).signal = (s.rxAt k y).signal := by
  unfold State.startSide
  refine (State.onLanes_keeps (P := fun t => s.SideMove n x t ∧ (t.rxAt k y).signal = (s.rxAt k y).signal)
    (f := fun i t => t.enterListen i x) (fun j hj t ⟨ht, hq⟩ => ?_) ⟨.refl n x s, rfl⟩).2
  have hj' := (ht.service.owner j).trans ((s.mem_legLanes n j).1 hj)
  exact ⟨ht.trans (State.sideMove_enterListen hj' x), (State.enterListen_signals hj' x k y).trans hq⟩

theorem State.loseSignal_lost {s : State} {n : LegId} {i : Lane} {x : Side} (hi : s.owner i = some n)
    (hs : (s.leg n).state = .lost) (hd : s.laneState i x = .data) :
    s.loseSignal i x = ((s.setSignal i x false).startSide n x).laneReport n := by
  have h : (s.setSignal i x false).lossInData n i x = ((s.setSignal i x false).startSide n x).laneReport n := by
    unfold State.lossInData
    rw [show ((s.setSignal i x false).leg n).state = .lost from hs]
  unfold State.loseSignal
  simp only [hi, hd, h]

theorem Side.opposite_ne (x : Side) : x.opposite ≠ x := by cases x <;> simp [Side.opposite]

/-- A loss in LOST starts its side afresh (R123). -/
theorem State.lostSide_starts {s : State} {n : LegId} {i : Lane} {x : Side} (hi : s.owner i = some n)
    (hs : (s.leg n).state = .lost) (hd : s.laneState i x = .data) :
    ((((s.setSignal i x false).startSide n x).laneReport n).rxPath i x).signal = false
      ∧ (∀ j : Lane, s.owner j = some n →
        ((((s.setSignal i x false).startSide n x).laneReport n).exch j x).Fresh
          ∧ ((((s.setSignal i x false).startSide n x).laneReport n).txPath j x).Loaded (s.leg n).profile.rate
          ∧ ((((s.setSignal i x false).startSide n x).laneReport n).exch j x).order = .standby
          ∧ (((s.setSignal i x false).startSide n x).laneReport n).laneState j x.opposite = s.laneState j x.opposite)
      ∧ ((((s.setSignal i x false).startSide n x).laneReport n).leg n).released.get x = false
      ∧ ((((s.setSignal i x false).startSide n x).laneReport n).leg n).kept.get x = false
      ∧ ((((s.setSignal i x false).startSide n x).laneReport n).leg n).kept.get x.opposite = (s.leg n).kept.get x.opposite
      ∧ s.LegStands (((s.setSignal i x false).startSide n x).laneReport n) n
      ∧ (((s.setSignal i x false).startSide n x).laneReport n).slices = s.slices := by
  have hside := (s.setSignal i x false).sideMove_startSide n x
  have hsig := (s.setSignal i x false).startSide_signals n x (s.phys i x) x
  have hfresh {j : Lane} (hj : s.owner j = some n) := State.startSide_fresh (s := s.setSignal i x false) hj x
  have hloaded {j : Lane} (hj : s.owner j = some n) := State.startSide_loaded (s := s.setSignal i x false) hj x
  have hrel := State.startSide_released (s := s.setSignal i x false) hi x
  have hkept := State.startSide_kept (s := s.setSignal i x false) hi hd
  have horders := ((s.setSignal i x false).startSide n x).ordersMove_laneReport n
  have hstate : (((s.setSignal i x false).startSide n x).leg n).state = .lost := by
    rw [hside.service.legs n]
    exact hs
  have hui := (hside.service.owner i).trans hi
  have hlisten := (hfresh hi).1
  have hopens := State.laneReport_opens_none (x := x) hui (by
    rw [State.laneState, hlisten]
    simp [LaneState.beyondTune])
  have hstands := State.laneReport_stands (n := n) (.inl (by rw [hstate]; simp)) (State.not_bothData (x := x) hui (by
    rw [State.laneState, hlisten]
    simp))
  have horder {j : Lane} (hj : s.owner j = some n) :=
    ((s.setSignal i x false).startSide n x).laneReport_order ((hside.service.owner j).trans hj) x
  have hflag : ((s.setSignal i x false).rxAt (s.phys i x) x).signal = false := congrArg RxPath.signal (s.rxPath_setSignal i x false)
  have hleg0 : (s.setSignal i x false).leg n = s.leg n := rfl
  have hlegs := hside.service.legs n
  have hother (j : Lane) := hside.exchs j x.opposite (Side.opposite_ne x)
  have hkeptside := hside.kept
  have hslices : ((s.setSignal i x false).startSide n x).slices = s.slices := hside.service.lanes.slices
  rw [hleg0] at hlegs hkeptside
  generalize ((s.setSignal i x false).startSide n x).laneReport n = t at *
  generalize (s.setSignal i x false).startSide n x = u at *
  have hts := horders.slices.trans hslices
  have htkept : (t.leg n).kept = (u.leg n).kept := by rw [hstands]
  refine ⟨?_, fun j hj => ⟨horders.fresh (hfresh hj), ?_, ?_, ?_⟩, ?_, ?_, ?_, ?_, hts⟩
  · rw [State.rxPath_eq_rxAt hts, State.rxAt_congr horders.rx]
    exact hsig.trans hflag
  · rw [State.txPath_eq_txAt hts]
    exact (horders.loadedAt (hloaded hj)).1
  · rw [horder hj]
    unfold State.orderFor
    have htstate : (t.leg n).state = .lost := by rw [hstands]; exact hstate
    rw [htstate, htkept, hkept]
    rfl
  · rw [horders.laneState]
    exact congrArg Exchange.lane (hother j)
  · rw [hopens]
    exact hrel
  · rw [htkept]
    exact hkept
  · rw [htkept]
    exact hkeptside.opposite
  · unfold State.LegStands
    rw [hstands, hlegs]

/-- Settles O21: in LOST the side starts afresh; in HELD the flag changes and the orders are derived afresh. -/
theorem lossInLostStartsTheSide : Obligations.LossInLostStartsTheSide := by
  intro s i x a n hplan hi hr
  have hp := hplan.pairsApart
  refine ⟨fun hs hd => ?_, fun hlanes hs => ?_, fun hlanes hs hother => ?_⟩
  · refine ⟨_, exec_signalLost hr i x a, ?_⟩
    rw [State.loseSignal_lost (s := s.reach a) hi hs hd]
    exact State.lostSide_starts (s := s.reach a) hi hs hd
  · have hd (y : Side) : s.laneState i y = .data := hlanes.data (.inr hs) hi y
    obtain ⟨hl, hrep, hag, hsl, hrx, hex⟩ := (s.reach a).resignalled_only n i x false
    refine ⟨_, exec_signalLost hr i x a, ?_⟩
    rw [State.loseSignal_held (s := s.reach a) hi hs (hd x)]
    refine ⟨hl, hrep, hag, hsl, hrx, hex, fun j y hj => (s.reach a).resignalled_order hs i x false hj y, fun hline => ?_⟩
    rw [(s.reach a).resignalled_line hp hs hi x (hd _) false,
      show ((s.reach a).txPath i x.opposite).line = .data from hline]
    rfl
  · have hd (y : Side) : s.laneState i y = .data := hlanes.data (.inr hs) hi y
    obtain ⟨hl, hrep, hag, hsl, hrx, hex⟩ := (s.reach a).resignalled_only n i x true
    have hlost : ((s.reach a).setSignal i x true).sideLost n .s = true ∨ ((s.reach a).setSignal i x true).sideLost n .c = true := by
      obtain ⟨j, hj, y, hne, habs⟩ := hother
      have hy : ((s.reach a).setSignal i x true).sideLost n y = true := by
        refine (State.sideLost_iff _ n y).2 ⟨j, hj, ?_⟩
        rw [State.rxPath_setSignal_ne (s := s.reach a) hp hne]
        exact habs
      cases y with
      | s => exact .inl hy
      | c => exact .inr hy
    have hline := (s.reach a).resignalled_line hp hs hi x (hd _) true
    refine ⟨_, exec_signalRestored hr i x a, ?_⟩
    rw [State.regainSignal_data (s := s.reach a) hi hs (hd x), if_pos hlost]
    refine ⟨hl, hrep, hag, hsl, hrx, hex, fun j y hj => (s.reach a).resignalled_order hs i x true hj y, fun hg => ?_,
      fun hg hq => ?_⟩
    · rw [hline, show ((s.reach a).txPath i x.opposite).line = .gap from hg]
      rfl
    · rw [hline]
      have hsame : ((s.reach a).txPath i x.opposite).line = (s.txPath i x.opposite).line := rfl
      rw [hsame]
      generalize (s.txPath i x.opposite).line = line at hg hq ⊢
      cases line with
      | gap => exact absurd rfl hg
      | quiet => exact absurd rfl hq
      | _ => rfl

end Sys2Proof.Machine
end

section
/-! PROOF. Loss episodes: their start in UP, their end in UP, and the recovery (O22, O23, O37; R116, R118, R119). -/

namespace Sys2Proof.Machine

/-! ### A loss in UP (R116) -/

/-- The record of a leg whose episode begins (R116). -/
def Leg.inHeld (l : Leg) (now : Nat) : Leg :=
  { l with state := .held, episode := some now, bridge := some (now + 50 * l.profile.bridge) }

theorem State.enterHeld_eq (s : State) (n : LegId) :
    s.enterHeld n = ((s.modLeg n fun l => l.inHeld s.now).deriveOrders n).queueLegState n .up .held .signalLost := rfl

theorem State.loseSignal_up {s : State} {n : LegId} {i : Lane} {x : Side} (hi : s.owner i = some n)
    (hs : (s.leg n).state = .up) (hd : s.laneState i x = .data) : s.loseSignal i x = (s.setSignal i x false).enterHeld n := by
  have h : (s.setSignal i x false).lossInData n i x = (s.setSignal i x false).enterHeld n := by
    unfold State.lossInData
    rw [show ((s.setSignal i x false).leg n).state = .up from hs]
  unfold State.loseSignal
  simp only [hi, hd, h]

theorem State.deriveOrders_report (s : State) (n : LegId) : (s.deriveOrders n).report = s.report :=
  (s.deriveOrders_moves n).report

theorem State.queueEvent_mem (s : State) (leg : Option LegId) (kind : EventKind) :
    { seq := s.report.nextSeq, leg, time := s.report.headClock, kind : EventRecord } ∈ (s.queueEvent leg kind).report.events :=
  (s.queueEvent_queuedNear leg kind).mem

/-- A record queued where the report unit is still as the event found it is the event's first. -/
theorem State.queuedFirst_of_report {s t : State} (h : t.report = { s.report with attention := t.report.attention })
    (leg : Option LegId) (kind : EventKind) : s.queuedFirst (t.queueEvent leg kind) leg kind := by
  have hq := t.queueEvent_mem leg kind
  have hseq : t.report.nextSeq = s.report.nextSeq := by rw [h]
  have htime : t.report.headClock = s.report.headClock := by rw [h]
  rwa [hseq, htime] at hq

/-- A lane in DATA serves its order at a frame interval (R16, R32). -/
theorem State.startInterval_data {s : State} {i : Lane} {x : Side} (hd : s.laneState i x = .data) :
    s.startInterval i x = s.serve i x := by
  have hz : s.endCountZero i x = s := by
    unfold State.endCountZero
    have hl : (s.exch i x).lane = .data := hd
    cases s.owner i with
    | none => rfl
    | some n => simp [hl]
  unfold State.startInterval
  rw [hz]
  simp only [hd]

theorem State.serve_gap {s : State} {i : Lane} {x : Side} (h : (s.exch i x).order = .gap) :
    ((s.serve i x).txPath i x).line = .frame 0x80000026 := by
  unfold State.serve
  rw [h, ← fillWord_gap]
  exact congrArg TxPath.line (s.txPath_modTx_same i x _)

/-- The state in which a leg has taken up an episode, before it is told. -/
def State.holding (s : State) (n : LegId) : State := (s.modLeg n fun l => l.inHeld s.now).deriveOrders n

theorem State.holding_order {s : State} {n : LegId} {j : Lane} (hj : s.owner j = some n) (y : Side) :
    ((s.holding n).exch j y).order = if (s.rxPath j y.opposite).signal then .data else .gap := by
  unfold State.holding
  rw [State.deriveOrders_orderFor _ (by exact hj), State.orderFor_held (by rw [State.leg_modLeg_same]; rfl)]
  rfl

/-- Settles O22: the episode begins with the orders derived afresh and LEG_STATE queued. -/
theorem lossInUpIsBridged : Obligations.LossInUpIsBridged := by
  intro s i x a n hplan hlanes hi hr hs hall
  have hp := hplan.pairsApart
  have hd (y : Side) : s.laneState i y = .data := hlanes.data (.inl hs) hi y
  have hmove := (s.reach a).laneMove_setSignal n i x false
  have hflag := (s.reach a).rxPath_setSignal i x false
  have hother {j : Lane} {y : Side} (hne : (j, y) ≠ (i, x)) := State.rxPath_setSignal_ne (s := s.reach a) hp hne false
  have hlose := State.loseSignal_up (s := s.reach a) hi hs (hd x)
  have hex : ((s.reach a).setSignal i x false).ex = s.ex := rfl
  have htx : ((s.reach a).setSignal i x false).tx = s.tx := rfl
  have hrep : ((s.reach a).setSignal i x false).report = s.report := rfl
  have hleg : ((s.reach a).setSignal i x false).leg n = s.leg n := rfl
  have hnow : ((s.reach a).setSignal i x false).now = max s.now a := rfl
  have hsl : ((s.reach a).setSignal i x false).slices = s.slices := rfl
  refine ⟨_, (exec_signalLost hr i x a).trans (congrArg Host.Outcome.next hlose), ?_⟩
  generalize (s.reach a).setSignal i x false = u at *
  have hui {j : Lane} (hj : s.owner j = some n) : u.owner j = some n := (State.owner_congr hsl j).trans hj
  have hline : ((u.holding n).txPath i x.opposite).line = (s.txPath i x.opposite).line.obey .gap := by
    unfold State.holding
    rw [State.deriveOrders_txPath (s := u.modLeg n fun l => l.inHeld u.now) (hp.congr hsl) (hui hi),
      State.orderFor_held (by rw [State.leg_modLeg_same]; rfl)]
    dsimp only
    have hin : (u.exch i x.opposite).inService = true := Exchange.inService_of_data (by
      rw [State.exch_congr hex]
      exact hd _)
    have hsig : (u.rxPath i x.opposite.opposite).signal = false := by rw [Side.opposite_opposite, hflag]
    have hpath : (u.modLeg n fun l => l.inHeld u.now).txPath i x.opposite = s.txPath i x.opposite :=
      (State.txPath_congr htx hsl i x.opposite : u.txPath i x.opposite = s.txPath i x.opposite)
    rw [hpath, if_pos (show ((u.modLeg n fun l => l.inHeld u.now).exch i x.opposite).inService = true from hin),
      show (u.modLeg n fun l => l.inHeld u.now).rxPath i x.opposite.opposite = u.rxPath i x.opposite.opposite from rfl, hsig]
    rfl
  have horder {j : Lane} (hj : s.owner j = some n) (y : Side) := State.holding_order (s := u) (hui hj) y
  have hexch := (u.modLeg n fun l => l.inHeld u.now).deriveOrders_exch n
  have hgap : ((u.holding n).exch i x.opposite).order = .gap := by
    rw [horder hi, Side.opposite_opposite, hflag]
    rfl
  have hdata : (u.holding n).laneState i x.opposite = .data := by
    refine (congrArg Exchange.lane (hexch i x.opposite)).trans ?_
    exact (congrArg Exchange.lane (State.exch_congr hex i x.opposite)).trans (hd _)
  refine ⟨?_, ?_, fun j y => ?_, hgap, fun hl => ?_, ⟨_, rfl, ?_⟩, fun j y hj hne => ?_, ?_⟩
  · show ((u.modLeg n fun l => l.inHeld u.now).deriveOrders n).leg n = _
    rw [State.leg_congr (State.deriveOrders_legs _ n), State.leg_modLeg_same, hleg, Leg.inHeld, hnow]
  · show ((u.modLeg n fun l => l.inHeld u.now).deriveOrders n).rxPath i x = _
    rw [State.rxPath_congr (State.deriveOrders_rx _ n) (State.deriveOrders_moves _ n).slices]
    exact hflag
  · refine (hexch j y).trans ?_
    rw [show (u.modLeg n fun l => l.inHeld u.now).exch j y = s.exch j y from State.exch_congr hex j y]
    rfl
  · refine hline.trans ?_
    rw [hl]
    rfl
  · rw [State.startInterval_data (by exact hdata)]
    exact State.serve_gap hgap
  · have hne' : (j, y.opposite) ≠ (i, x) := fun h => hne (by
      obtain ⟨rfl, hy⟩ := Prod.mk.inj h
      rw [← hy, Side.opposite_opposite])
    refine (horder hj y).trans ?_
    rw [hother hne', show ((s.reach a).rxPath j y.opposite).signal = true from hall j _ hj]
    rfl
  · refine State.queuedFirst_of_report ?_ _ _
    rw [State.deriveOrders_report]
    show u.report = { s.report with attention := u.report.attention }
    rw [hrep]

/-! ### The last restore (R118) -/

/-- The record of a leg whose episode has ended in UP (R118). -/
def Leg.restored (l : Leg) (now : Nat) : Leg :=
  { l with state := .up, bridge := none, gap := l.gapAfter now, episode := none, glitch := l.glitch + 1
           rollGlitch := l.rollGlitch || l.glitch == 0xFFFF }

/-- The state in which an episode has ended, before its record joins the queue. -/
def State.restoredUp (s : State) (n : LegId) : State := (s.modLeg n fun l => l.restored s.now).deriveAttention.deriveOrders n

theorem State.modLeg_modLeg (s : State) (n : LegId) (f g : Leg → Leg) :
    (s.modLeg n f).modLeg n g = s.modLeg n fun l => g (f l) := by
  unfold State.modLeg
  rw [State.leg_setLeg_same]
  unfold State.setLeg
  dsimp only
  congr 1
  exact Vector.set_set ..

theorem State.endGlitch_eq (s : State) (n : LegId) :
    s.endGlitch n = (s.restoredUp n).queueLegState n .held .up .restored := by
  unfold State.endGlitch State.countGlitch State.restoredUp
  dsimp only
  rw [State.modLeg_modLeg]
  rfl

theorem Leg.gapAfter_of_episode {l : Leg} {start : Nat} (h : l.episode = some start) (now : Nat) :
    l.gapAfter now = min 255 (max l.gap ((now - start + 49) / 50)) := by
  unfold Leg.gapAfter
  rw [h]
  rfl

theorem State.orderFor_up {s : State} {n : LegId} (h : (s.leg n).state = .up) (i : Lane) (x : Side) : s.orderFor n i x = .data := by
  unfold State.orderFor
  rw [h]

theorem count_rollover (b : Bool) (c : BitVec 16) : (b || c == 0xFFFF) = (b || decide (c = 65535)) := rfl

/-- Settles O23: the last restore finds no side lost. -/
theorem lastRestoreEndsGlitch : Obligations.LastRestoreEndsGlitch := by
  intro s i x a start n hplan hlanes hi hr hs hepisode hall
  have hp := hplan.pairsApart
  have hd (y : Side) : s.laneState i y = .data := hlanes.data (.inr hs) hi y
  have hlost (y : Side) : ((s.reach a).setSignal i x true).sideLost n y = false := by
    refine Bool.eq_false_iff.2 fun h => ?_
    obtain ⟨j, hj, habs⟩ := (State.sideLost_iff _ n y).1 h
    by_cases hne : (j, y) = (i, x)
    · obtain ⟨rfl, rfl⟩ := Prod.mk.inj hne
      rw [State.rxPath_setSignal] at habs
      simp at habs
    · rw [State.rxPath_setSignal_ne (s := s.reach a) hp hne] at habs
      exact absurd habs (by simpa using hall j y hj hne)
  have hregain := State.regainSignal_data (s := s.reach a) hi hs (hd x)
  rw [hlost, hlost, if_neg (by simp), State.endGlitch_eq] at hregain
  have hex : ((s.reach a).setSignal i x true).ex = s.ex := rfl
  have hrep : ((s.reach a).setSignal i x true).report = s.report := rfl
  have hleg : ((s.reach a).setSignal i x true).leg n = s.leg n := rfl
  have hnow : ((s.reach a).setSignal i x true).now = max s.now a := rfl
  have hsl : ((s.reach a).setSignal i x true).slices = s.slices := rfl
  refine ⟨_, (exec_signalRestored hr i x a).trans (congrArg Host.Outcome.next hregain), ?_⟩
  generalize (s.reach a).setSignal i x true = u at *
  have horders := (u.modLeg n fun l => l.restored u.now).deriveAttention.ordersMove_deriveOrders n
  have hbase : (u.modLeg n fun l => l.restored u.now).deriveAttention.leg n = (s.leg n).restored (max s.now a) := by
    show (u.modLeg n fun l => l.restored u.now).leg n = _
    rw [State.leg_modLeg_same, hleg, hnow]
  refine ⟨?_, fun j y => ?_, fun j y hj => ?_, ?_⟩
  · show (u.restoredUp n).leg n = _
    unfold State.restoredUp
    rw [State.leg_congr (State.deriveOrders_legs _ n), hbase, Leg.restored, Leg.gapAfter_of_episode hepisode, count_rollover]
  · refine (horders.laneState j y).trans ?_
    exact congrArg Exchange.lane (State.exch_congr hex j y)
  · show ((u.restoredUp n).exch j y).order = .data
    unfold State.restoredUp
    have hj' : (u.modLeg n fun l => l.restored u.now).deriveAttention.owner j = some n := (State.owner_congr hsl j).trans hj
    rw [State.deriveOrders_orderFor _ hj', State.orderFor_up]
    rw [hbase]
    rfl
  · refine State.queuedFirst_of_report ?_ _ _
    unfold State.restoredUp
    rw [State.deriveOrders_report]
    have hreport : (u.modLeg n fun l => l.restored u.now).deriveAttention.report = { u.report with
      attention := (u.modLeg n fun l => l.restored u.now).deriveAttention.report.attention } := rfl
    rw [hreport, hrep]

/-! ### The recovery (R119) -/

/-- The record of a leg that enters LOST with the kept marks `kept` (R119). -/
def Leg.inLost (l : Leg) (kept : Sides Bool) (now : Nat) : Leg :=
  { l with state := .lost, bridge := none, cut := some (now + 20000 * l.profile.cut), kept, lost := l.lost + 1
           rollLost := l.rollLost || l.lost == 0xFFFF }

/-- The sides that have lost no path are kept (R17). -/
def State.keptSides (s : State) (n : LegId) : Sides Bool := ⟨!s.sideLost n .s, !s.sideLost n .c⟩

theorem State.keptSides_get (s : State) (n : LegId) (y : Side) : (s.keptSides n).get y = !s.sideLost n y := by
  cases y <;> rfl

/-- The state in which a recovery begins, before any side is started. -/
def State.recovering (s : State) (n : LegId) : State := (s.modLeg n fun l => l.inLost (s.keptSides n) s.now).deriveAttention

/-- A side is started unless it is kept. -/
def State.startUnless (s : State) (n : LegId) (kept : Bool) (x : Side) : State := if kept then s else s.startSide n x

/-- The state in which a recovery has started its sides. -/
def State.sidesStarted (s : State) (n : LegId) : State :=
  ((s.recovering n).startUnless n (!s.sideLost n .s) .s).startUnless n (!s.sideLost n .c) .c

theorem State.enterLost_eq (s : State) (n : LegId) :
    s.enterLost n = ((((s.sidesStarted n).releaseTest n).deriveOrders n).queueLegState n .held .lost .bridge).marginCheck n := by
  have h : (s.modLeg n fun l => { l with
      state := .lost, bridge := none, cut := some (s.now + 20000 * l.profile.cut), kept := s.keptSides n }).countLost n
      = s.recovering n := by
    unfold State.countLost State.recovering
    rw [State.modLeg_modLeg]
    rfl
  unfold State.sidesStarted
  rw [← h]
  rfl

theorem State.recovering_leg (s : State) (n : LegId) : (s.recovering n).leg n = (s.leg n).inLost (s.keptSides n) s.now := by
  show (s.modLeg n fun l => l.inLost (s.keptSides n) s.now).leg n = _
  rw [State.leg_modLeg_same]

/-- An alarm that does not stand stands after no entry to LISTEN (R133). -/
theorem State.enterListen_alarm {s : State} {n : LegId} {j : Lane} (h : s.owner j = some n) (x : Side) {k : Lane} {y : Side}
    (ha : (s.rxAt k y).eye.alarm = false) : ((s.enterListen j x).rxAt k y).eye.alarm = false := by
  obtain ⟨warm, he⟩ := s.enterListen_eq h x
  have ho : ((s.outOfService j x).rxAt k y).eye.alarm = false := by
    rcases s.outOfService_rx j x k y with e | e <;> rw [e]
    · exact ha
    · rfl
  rw [he]
  generalize s.outOfService j x = o at ho ⊢
  show ((o.loadLane (s.leg n).profile j x).rxAt k y).eye.alarm = false
  unfold State.loadLane
  rcases State.modRx_path (o.modTx j x fun q => q.loadSet (s.leg n).profile.rate) j x
    (fun r => { r with eqCode := ((s.leg n).profile.equalizer.get (s.leg n).profile.rate).get x }) k y with e | ⟨_, e⟩ <;> rw [e]
  · exact ho
  · exact ho

theorem State.startUnless_alarm {s : State} {n : LegId} (b : Bool) (x : Side) {k : Lane} {y : Side}
    (ha : (s.rxAt k y).eye.alarm = false) : ((s.startUnless n b x).rxAt k y).eye.alarm = false := by
  unfold State.startUnless
  split
  · exact ha
  · unfold State.startSide
    refine (State.onLanes_keeps (P := fun t => s.SideMove n x t ∧ (t.rxAt k y).eye.alarm = false)
      (f := fun i t => t.enterListen i x) (fun j hj t ⟨ht, hq⟩ => ?_) ⟨.refl n x s, ha⟩).2
    have hj' := (ht.service.owner j).trans ((s.mem_legLanes n j).1 hj)
    exact ⟨ht.trans (State.sideMove_enterListen hj' x), State.enterListen_alarm hj' x hq⟩

theorem State.anyAlarm_iff (s : State) (n : LegId) :
    s.anyAlarm n = true ↔ ∃ j : Lane, s.owner j = some n ∧ ∃ y : Side, (s.rxPath j y).eye.alarm = true := by
  unfold State.anyAlarm
  rw [List.any_eq_true]
  refine exists_congr fun j => and_congr (s.mem_legLanes n j) ?_
  rw [List.any_eq_true]
  exact ⟨fun ⟨y, _, h⟩ => ⟨y, h⟩, fun ⟨y, h⟩ => ⟨y, by cases y <;> simp [bothSides], h⟩⟩

theorem State.anyAlarm_false {s : State} {n : LegId} :
    s.anyAlarm n = false ↔ ∀ (j : Lane) (y : Side), s.owner j = some n → (s.rxPath j y).eye.alarm = false := by
  rw [← Bool.not_eq_true, s.anyAlarm_iff]
  simp
  exact ⟨fun h j y hj => h j hj y, fun h j hj y => h j y hj⟩

/-- What a recovery's start leaves of the leg's flags and lanes. -/
structure State.SidesStarted (s w : State) (n : LegId) : Prop where
  slices : w.slices = s.slices
  report : w.report = { s.report with attention := w.report.attention }
  leg : w.leg n = { (s.leg n).inLost (s.keptSides n) s.now with released := (w.leg n).released, kept := (w.leg n).kept }
  released : ∀ y : Side, (w.leg n).released.get y = (!s.sideLost n y && (s.leg n).released.get y)
  kept : ∀ y : Side, (w.leg n).kept.get y = !s.sideLost n y
  lost : ∀ (j : Lane) (y : Side), s.owner j = some n → s.sideLost n y = true →
    (w.exch j y).Fresh ∧ w.LoadedAt (s.leg n).profile (s.phys j y) y
  stays : ∀ (j : Lane) (y : Side), s.sideLost n y = false → w.exch j y = s.exch j y
  alarm : ∀ (k : Lane) (y : Side), (s.rxAt k y).eye.alarm = false → (w.rxAt k y).eye.alarm = false

/-- A side that is started or kept: flags, marks and lanes of that side. -/
structure State.SideDone (u v : State) (n : LegId) (x : Side) (kept : Bool) : Prop where
  move : u.SideMove n x v
  released : (v.leg n).released.get x = (kept && (u.leg n).released.get x)
  marked : (u.leg n).kept.get x = kept → (v.leg n).kept.get x = kept
  lost : ∀ j : Lane, u.owner j = some n → kept = false →
    (v.exch j x).Fresh ∧ v.LoadedAt (u.leg n).profile (u.phys j x) x
  stays : ∀ j : Lane, kept = true → v.exch j x = u.exch j x
  loaded : ∀ (k : Lane) (y : Side), u.LoadedAt (u.leg n).profile k y → v.LoadedAt (u.leg n).profile k y

theorem State.startUnless_done (u : State) {n : LegId} (x : Side) (kept : Bool)
    (h : kept = false → ∃ j : Lane, u.owner j = some n) :
    u.SideDone (u.startUnless n kept x) n x kept := by
  have hm := u.sideMove_startSide n x
  cases kept with
  | true => exact ⟨.refl n x u, by simp [State.startUnless], fun h => h, fun _ _ h => by simp at h, fun _ _ => rfl, fun _ _ h => h⟩
  | false =>
    obtain ⟨j, hj⟩ := h rfl
    refine ⟨hm, State.startSide_released hj x, hm.kept.cleared, fun k hk _ => ⟨State.startSide_fresh hk x, State.startSide_loaded hk x⟩,
      fun _ h => by simp at h, fun k y hl => u.startSide_keeps_loaded n x hl⟩

/-- Both sides of a recovery are started or kept. -/
theorem State.sidesStarted_spec (s : State) (n : LegId) : s.SidesStarted (s.sidesStarted n) n := by
  have hbase := s.recovering_leg n
  have hlane {y : Side} (h : (!s.sideLost n y) = false) : ∃ j : Lane, s.owner j = some n := by
    obtain ⟨j, hj, _⟩ := (s.sideLost_iff n y).1 (by simpa using h)
    exact ⟨j, hj⟩
  have hs := (s.recovering n).startUnless_done (n := n) .s (!s.sideLost n .s) hlane
  have hsalarm {k : Lane} {y : Side} := State.startUnless_alarm (s := s.recovering n) (n := n) (!s.sideLost n .s) .s (k := k) (y := y)
  have hrx : (s.recovering n).rx = s.rx := rfl
  have hex : (s.recovering n).ex = s.ex := rfl
  have hsl : (s.recovering n).slices = s.slices := rfl
  have hreport : (s.recovering n).report = { s.report with attention := (s.recovering n).report.attention } := rfl
  unfold State.sidesStarted
  generalize s.recovering n = u at *
  have hui (j : Lane) : u.owner j = s.owner j := State.owner_congr hsl j
  generalize u.startUnless n (!s.sideLost n .s) .s = v at *
  have hvi (j : Lane) : v.owner j = s.owner j := (hs.move.service.owner j).trans (hui j)
  have hc := v.startUnless_done (n := n) .c (!s.sideLost n .c) fun h => by
    obtain ⟨j, hj⟩ := hlane h
    exact ⟨j, (hvi j).trans hj⟩
  have hcalarm {k : Lane} {y : Side} := State.startUnless_alarm (s := v) (n := n) (!s.sideLost n .c) .c (k := k) (y := y)
  generalize v.startUnless n (!s.sideLost n .c) .c = w at *
  have huprof : (u.leg n).profile = (s.leg n).profile := by rw [hbase]; rfl
  have hvprof : (v.leg n).profile = (s.leg n).profile := (hs.move.service.profile n).trans huprof
  have hkeptbase (y : Side) : (u.leg n).kept.get y = !s.sideLost n y := by
    rw [hbase]
    exact s.keptSides_get n y
  have hrelbase : (u.leg n).released = (s.leg n).released := by rw [hbase]; rfl
  have hphys (j : Lane) (y : Side) : v.phys j y = s.phys j y := State.phys_congr (hs.move.service.lanes.slices.trans hsl) j y
  have hservice := hs.move.service.trans hc.move.service
  refine ⟨hservice.lanes.slices.trans hsl, by rw [hservice.lanes.report, hreport], by rw [hservice.legs n, hbase], fun y => ?_, fun y => ?_, fun j y hj hl => ?_, fun j y hk => ?_,
    fun k y ha => hcalarm (hsalarm (by rwa [State.rxAt_congr hrx]))⟩
  · rw [← hrelbase]
    cases y with
    | s => exact (hc.move.released.opposite : (w.leg n).released.get .s = (v.leg n).released.get .s).trans hs.released
    | c =>
      rw [hc.released]
      exact congrArg _ (hs.move.released.opposite : (v.leg n).released.get .c = (u.leg n).released.get .c)
  · cases y with
    | s => exact (hc.move.kept.opposite : (w.leg n).kept.get .s = (v.leg n).kept.get .s).trans (hs.marked (hkeptbase .s))
    | c => exact hc.marked ((hs.move.kept.opposite : (v.leg n).kept.get .c = (u.leg n).kept.get .c).trans (hkeptbase .c))
  · cases y with
    | s =>
      obtain ⟨hf, hload⟩ := hs.lost j ((hui j).trans hj) (by simp [hl])
      rw [huprof, State.phys_congr hsl] at hload
      refine ⟨by rwa [hc.move.exchs j .s (by simp)], ?_⟩
      rw [← hvprof] at hload ⊢
      exact hc.loaded _ _ hload
    | c =>
      obtain ⟨hf, hload⟩ := hc.lost j ((hvi j).trans hj) (by simp [hl])
      rw [hvprof, hphys] at hload
      exact ⟨hf, hload⟩
  · cases y with
    | s =>
      rw [hc.move.exchs j .s (by simp), hs.stays j (by simp [hk]), State.exch_congr hex]
    | c =>
      rw [hc.stays j (by simp [hk]), hs.move.exchs j .c (by simp), State.exch_congr hex]

theorem exec_bridgeExpiry {s : State} {n : LegId} {w : Nat} (hs : (s.leg n).state = .held) (hb : (s.leg n).bridge = some w) :
    exec (.bridgeExpiry n) s = .next ((s.reach w).enterLost n) := by
  show execBridgeExpiry n s = _
  simp [execBridgeExpiry, hs, hb]

theorem Sides.eq_of_get {p q : Sides Bool} (h : ∀ y : Side, p.get y = q.get y) : p = q := by
  have hs := h .s
  have hc := h .c
  cases p
  cases q
  exact congrArg₂ Sides.mk hs hc

theorem State.QueuedNear.marginCheck {s : State} {q : EventRecord} (h : s.QueuedNear q 1) (n : LegId) :
    (s.marginCheck n).QueuedNear q 3 := by
  unfold State.marginCheck
  split
  · split
    · exact h.mono (by omega)
    · have hs := (s.setCondition_events (some n) .marginLow true).1
      exact ((h.congr hs).queueEvent (by omega) _ _).mono (by omega)
  · exact h.endCondition _ _

/-- No lane is READY where a recovery has started its sides, so the release rule opens none. -/
theorem State.SidesStarted.closed {s w : State} {n : LegId} (h : s.SidesStarted w n)
    (hd : ∀ (j : Lane) (y : Side), s.owner j = some n → s.laneState j y = .data) (y : Side) : w.opensAt n y = false := by
  refine State.opensAt_false fun ho => ?_
  obtain ⟨_, ⟨j, hj, hr⟩, _⟩ := ho
  have hj' : s.owner j = some n := (State.owner_congr h.slices j).symm.trans ((w.mem_legLanes n j).1 hj)
  unfold State.laneState at hr
  cases hl : s.sideLost n y with
  | true =>
    rw [(h.lost j y hj' hl).1.1] at hr
    simp at hr
  | false =>
    rw [h.stays j y hl, show (s.exch j y).lane = .data from hd j y hj'] at hr
    simp at hr

/-- The order of a kept side in LOST, by the loss action (R16, R17). -/
def LossAction.order : LossAction → ServiceOrder
  | .fault => .fault
  | .quiet => .quiet

theorem State.orderFor_lost_kept {s : State} {n : LegId} {x : Side} (hs : (s.leg n).state = .lost)
    (hk : (s.leg n).kept.get x = true) (i : Lane) : s.orderFor n i x = (s.leg n).profile.lossAction.order := by
  unfold State.orderFor
  rw [hs]
  dsimp only
  rw [if_pos hk]
  cases (s.leg n).profile.lossAction <;> rfl

/-- The record of a leg whose recovery has begun. -/
theorem State.SidesStarted.record {s w : State} {n : LegId} (h : s.SidesStarted w n) :
    w.leg n = { s.leg n with
      state := .lost, bridge := none, cut := some (s.now + 20000 * (s.leg n).profile.cut), lost := (s.leg n).lost + 1
      rollLost := (s.leg n).rollLost || decide ((s.leg n).lost = 65535)
      kept := ⟨!s.sideLost n .s, !s.sideLost n .c⟩
      released := ⟨!s.sideLost n .s && (s.leg n).released.s, !s.sideLost n .c && (s.leg n).released.c⟩ } := by
  have hk : (w.leg n).kept = ⟨!s.sideLost n .s, !s.sideLost n .c⟩ := Sides.eq_of_get fun y => by
    rw [h.kept]
    cases y <;> rfl
  have hr : (w.leg n).released =
      ⟨!s.sideLost n .s && (s.leg n).released.s, !s.sideLost n .c && (s.leg n).released.c⟩ := Sides.eq_of_get fun y => by
    rw [h.released]
    cases y <;> rfl
  rw [h.leg, hk, hr]
  rfl

/-- Settles O37: the recovery's start, its sides started or kept, and the orders of LOST. -/
theorem bridgeExpiryStartsRecovery : Obligations.BridgeExpiryStartsRecovery := by
  intro s n w hplan hlanes hs hw
  have hd (j : Lane) (y : Side) (hj : s.owner j = some n) : s.laneState j y = .data := hlanes.data (.inr hs) hj y
  have hstart := (s.reach w).sidesStarted_spec n
  have heq := (s.reach w).enterLost_eq n
  rw [State.releaseTest_idle (hstart.closed hd)] at heq
  refine ⟨_, (exec_bridgeExpiry hs hw).trans (congrArg Host.Outcome.next heq), ?_⟩
  generalize (s.reach w).sidesStarted n = u at *
  have hrecord := hstart.record
  have hustate : (u.leg n).state = .lost := by rw [hrecord]
  have hbase : (u.deriveOrders n).CondsMove ((u.deriveOrders n).queueLegState n .held .lost .bridge) :=
    (u.deriveOrders n).queueEvent_condsMove (some n) (.legState .held .lost .bridge)
  have hmargin := hbase.trans (State.marginCheck_condsMove _ n)
  obtain ⟨hsl, htx, hrx, hex, _⟩ := hmargin.fabric
  have hfollow := (u.ordersMove_deriveOrders n).trans hmargin.orders
  have hts := hfollow.slices.trans hstart.slices
  have hleg := ((u.deriveOrders n).queueLegState n .held .lost .bridge).marginCheck_leg n
  have hlow := ((u.deriveOrders n).queueLegState n .held .lost .bridge).marginCheck_marginLow n
  have hq : ((u.deriveOrders n).queueLegState n .held .lost .bridge).QueuedNear _ 1 :=
    (u.deriveOrders n).queueEvent_queuedNear (some n) (.legState .held .lost .bridge)
  have hqueued := (hq.marginCheck n).mem
  have horder (j : Lane) (y : Side) (hj : s.owner j = some n) :=
    u.deriveOrders_orderFor ((State.owner_congr hstart.slices j).trans hj) y
  rw [show ((u.deriveOrders n).queueLegState n .held .lost .bridge).leg n = u.leg n from State.leg_congr (u.deriveOrders_legs n) n]
    at hleg
  have hderive : ((u.deriveOrders n).queueLegState n .held .lost .bridge).anyAlarm n = u.anyAlarm n := by
    rw [hbase.anyAlarm]
    unfold State.anyAlarm
    simp only [State.legLanes_congr (u.deriveOrders_moves n).slices,
      State.rxPath_congr (u.deriveOrders_rx n) (u.deriveOrders_moves n).slices]
  have hreport := (u.deriveOrders_report n).trans hstart.report
  have hseq : (u.deriveOrders n).report.nextSeq = s.report.nextSeq := by rw [hreport]; rfl
  have hclock : (u.deriveOrders n).report.headClock = s.report.headClock := by rw [hreport]; rfl
  rw [hseq, hclock] at hqueued
  rw [hderive] at hlow
  generalize ((u.deriveOrders n).queueLegState n .held .lost .bridge).marginCheck n = t at *
  refine ⟨?_, fun _ ha => ?_, fun j y hj => ?_, hqueued⟩
  · rw [hleg, hrecord]
    rfl
  · refine hlow.trans (State.anyAlarm_false.2 fun j y hj => ?_)
    rw [State.owner_congr hstart.slices] at hj
    rw [State.rxPath_eq_rxAt hstart.slices]
    exact hstart.alarm _ y (State.anyAlarm_false.1 ha j y hj)
  · cases hl : s.sideLost n y with
    | true =>
      obtain ⟨hfresh, hload⟩ := hstart.lost j y hj hl
      obtain ⟨htxl, hrxl⟩ := hfollow.loadedAt hload
      rw [if_pos rfl, State.txPath_eq_txAt hts, State.rxPath_eq_rxAt hts]
      exact ⟨hfollow.fresh hfresh, htxl, hrxl⟩
    | false =>
      rw [if_neg (by simp), hfollow.laneState]
      refine ⟨?_, ?_⟩
      · unfold State.laneState
        rw [hstart.stays j y hl]
        exact hd j y hj
      · have hkept : (u.leg n).kept.get y = true := by
          rw [hstart.kept y, show (s.reach w).sideLost n y = false from hl]
          rfl
        rw [State.exch_congr hex]
        refine (horder j y hj).trans ?_
        rw [State.orderFor_lost_kept hustate hkept, hrecord]
        show (s.leg n).profile.lossAction.order = _
        generalize (s.leg n).profile.lossAction = action
        cases action <;> rfl

end Sys2Proof.Machine
end

section
/-! PROOF. Measurement records (O24 to O26; R2, R15, R62 to R67, R71 to R74, R129 to R135). -/

namespace Sys2Proof.Machine

/-! ### A record's values while the flag is ABSENT (R2) -/

theorem seen_toNat (signal : Bool) (v : BitVec 7) : (seen signal v).toNat = if signal then v.toNat else 0 := by
  cases signal <;> rfl

theorem seen_toInt (signal : Bool) (v : BitVec 7) : (seen signal v).toInt = if signal then v.toInt else 0 := by
  cases signal
  · exact BitVec.toInt_zero
  · rfl

/-- A record of a lane in TUNE or READY reaches its requester (R15). -/
theorem exec_record_training {s : State} {i : Lane} {x : Side} {n : LegId} (eye rp rq : BitVec 7) {e : Nat} {vp vq : Int}
    (hi : s.owner i = some n) (he : e = if (s.rxPath i x).signal then eye.toNat else 0)
    (hp : vp = if (s.rxPath i x).signal then rp.toInt else 0) (hq : vq = if (s.rxPath i x).signal then rq.toInt else 0)
    (hl : s.laneState i x = .tune ∨ s.laneState i x = .ready) :
    exec (.measurementRecord i x eye rp rq) s = .next (s.reportIfMoved (s.requesterRecord n i x e vp vq) n i x) := by
  rw [← seen_toNat] at he
  rw [← seen_toInt] at hp hq
  show Host.Outcome.next (s.takeRecord i x eye rp rq) = _
  unfold State.takeRecord
  rw [he, hp, hq]
  rcases hl with hl | hl <;> simp only [hi, hl]

theorem exec_record_discarded {s : State} {i : Lane} {x : Side} {n : LegId} (eye rp rq : BitVec 7) (hi : s.owner i = some n)
    (hl : s.laneState i x = .quiet ∨ s.laneState i x = .listen ∨ s.laneState i x = .count) :
    exec (.measurementRecord i x eye rp rq) s = .next s := by
  show Host.Outcome.next (s.takeRecord i x eye rp rq) = _
  unfold State.takeRecord
  rcases hl with hl | hl | hl <;> simp only [hi, hl]

/-- A lane that has not moved is not reported (R82). -/
theorem State.reportIfMoved_same {s t : State} {n : LegId} {i : Lane} {x : Side} (h : t.laneState i x = s.laneState i x) :
    s.reportIfMoved t n i x = t := if_pos h

theorem State.reportIfMoved_moved {s t : State} {n : LegId} {i : Lane} {x : Side} (h : t.laneState i x ≠ s.laneState i x) :
    s.reportIfMoved t n i x = t.laneReport n := if_neg h

/-- What changes in an exchange but its lane state is not reported. -/
theorem State.reportIfMoved_setExch {s : State} {n : LegId} {i : Lane} {x : Side} {e : Exchange}
    (h : e.lane = (s.exch i x).lane) : s.reportIfMoved (s.setExch i x e) n i x = s.setExch i x e :=
  State.reportIfMoved_same ((congrArg Exchange.lane (s.exch_setExch_same i x e)).trans h)

/-! ### The policy (R63, R64) -/

theorem policyDelta_eq {r : Int} {band : Nat} (h : band < r.natAbs) : policyDelta r band = r.sign * min 3 (r.natAbs / band : Nat) := by
  unfold policyDelta
  dsimp only
  split
  · next hr => rw [Int.sign_eq_one_of_pos hr, Int.one_mul, Nat.cast_min, Nat.cast_ofNat]
  · next hr =>
    have hneg : r < 0 := by omega
    rw [Int.sign_eq_neg_one_of_neg hneg, Int.neg_one_mul, Nat.cast_min, Nat.cast_ofNat]

/-- The request that the policy makes below the cap (R63, R64). -/
theorem policy_asks {p : Profile} {r : Requester} {e : Nat} {vp vq : Int} {tap : Tap} {delta : Int}
    (h : r.Asks p e vp vq tap delta) : policy p r e vp vq = .request tap delta := by
  obtain ⟨hcap, h⟩ := h
  have hasks : decide (r.accepted < Config.requestCap) = true := decide_eq_true hcap
  unfold policy
  dsimp only
  rw [hasks]
  split at h
  · next hq =>
    obtain ⟨rfl, rfl⟩ := h
    rw [if_pos (by simp [hq.1, hq.2]), policyDelta_eq hq.1]
  · next hq =>
    rw [if_neg (by simpa using hq)]
    split at h
    · next hp =>
      obtain ⟨rfl, rfl⟩ := h
      rw [if_pos (by simp [hp.1, hp.2]), policyDelta_eq hp.1]
    · next hp =>
      obtain ⟨he, hm, rfl, rfl⟩ := h
      rw [if_neg (by simpa using hp), if_pos (by simp [he, Marks.get, hm])]

/-- Where the policy asks for nothing, the eye is judged (R63, R66). -/
theorem policy_judges {p : Profile} {r : Requester} {e : Nat} {vp vq : Int} (h : r.AsksNothing p e vp vq) :
    policy p r e vp vq = if p.target ≤ e then .content false else if p.minimum ≤ e then .content true else .eyeShort := by
  unfold policy
  dsimp only
  rcases h with h | ⟨hq, hp, he⟩
  · have hasks : decide (r.accepted < Config.requestCap) = false := decide_eq_false (Nat.not_lt.2 h)
    rw [hasks]
    rfl
  · rw [if_neg, if_neg, if_neg]
    · simp only [Bool.and_eq_true, decide_eq_true_eq, Bool.not_eq_true', Marks.get, not_and]
      rintro ⟨_, hlt⟩ hm
      rcases he with he | he
      · omega
      · rw [he] at hm
        simp at hm
    · simp only [Bool.and_eq_true, decide_eq_true_eq, Bool.not_eq_true', not_and]
      rintro ⟨_, hlt⟩ hm
      rcases hp with hp | hp
      · omega
      · rw [hp] at hm
        simp at hm
    · simp only [Bool.and_eq_true, decide_eq_true_eq, Bool.not_eq_true', not_and]
      rintro ⟨_, hlt⟩ hm
      rcases hq with hq | hq
      · omega
      · rw [hq] at hm
        simp at hm

/-! ### What a record makes its requester do (R62) -/

theorem State.requesterRecord_inFlight {s : State} {n : LegId} {i : Lane} {x : Side} (h : (s.exch i x).req.phase ≠ .idle)
    (e : Nat) (vp vq : Int) : s.requesterRecord n i x e vp vq = s := by
  unfold State.requesterRecord
  dsimp only
  rw [if_pos h]

theorem State.requesterRecord_stale {s : State} {n : LegId} {i : Lane} {x : Side} (h : (s.exch i x).req.phase = .idle)
    (hs : (s.exch i x).req.stale = true) (e : Nat) (vp vq : Int) :
    s.requesterRecord n i x e vp vq =
      s.setExch i x { s.exch i x with req := { (s.exch i x).req with stale := false } } := by
  unfold State.requesterRecord
  dsimp only
  rw [if_neg (by simp [h]), if_pos hs]
  rfl

theorem State.requesterRecord_seeking {s : State} {n : LegId} {i : Lane} {x : Side} (h : (s.exch i x).req.phase = .idle)
    (hs : (s.exch i x).req.stale = false) (hm : (s.exch i x).req.mode = .seeking) (e : Nat) (vp vq : Int) :
    s.requesterRecord n i x e vp vq = s.policyTake n i x e vp vq := by
  unfold State.requesterRecord
  dsimp only
  rw [if_neg (by simp [h]), if_neg (by simp [hs]), hm]

theorem State.requesterRecord_content {s : State} {n : LegId} {i : Lane} {x : Side} (h : (s.exch i x).req.phase = .idle)
    (hs : (s.exch i x).req.stale = false) (hm : (s.exch i x).req.mode = .content) (e : Nat) (vp vq : Int) :
    s.requesterRecord n i x e vp vq =
      if (s.leg n).profile.minimum ≤ e then s else (s.endContentment i x).policyTake n i x e vp vq := by
  unfold State.requesterRecord
  dsimp only
  rw [if_neg (by simp [h]), if_neg (by simp [hs]), hm]

theorem State.policyTake_asks {s : State} {n : LegId} {i : Lane} {x : Side} {e : Nat} {vp vq : Int} {tap : Tap} {delta : Int}
    (h : (s.exch i x).req.Asks (s.leg n).profile e vp vq tap delta) :
    s.policyTake n i x e vp vq = s.setExch i x ((s.exch i x).requesting tap delta) := by
  unfold State.policyTake
  rw [policy_asks h]
  rfl

theorem State.policyTake_request {s : State} {n : LegId} {i : Lane} {x : Side} {e : Nat} {vp vq : Int} {tap : Tap} {delta : Int}
    (h : (s.exch i x).req.Asks (s.leg n).profile e vp vq tap delta) :
    s.reportIfMoved (s.policyTake n i x e vp vq) n i x = s.setExch i x ((s.exch i x).requesting tap delta) := by
  rw [State.policyTake_asks h]
  exact State.reportIfMoved_setExch rfl

/-- Settles O24: a record goes by the lane's state, the phase, the stale mark and the policy. -/
theorem recordMakesRequest : Obligations.RecordMakesRequest := by
  intro s i x eye rp rq n e vp vq hi he hp hq
  refine ⟨fun hl => exec_record_discarded eye rp rq hi hl, fun hl hph => ?_, fun hl hph hst => ?_, fun hl hm hcap hph hst => ?_⟩
  · rw [exec_record_training eye rp rq hi he hp hq hl, State.requesterRecord_inFlight hph, State.reportIfMoved_same rfl]
  · rw [exec_record_training eye rp rq hi he hp hq hl, State.requesterRecord_stale hph hst]
    exact congrArg Host.Outcome.next (State.reportIfMoved_setExch rfl)
  · have hmake {tap : Tap} {delta : Int} (h : (s.exch i x).req.Asks (s.leg n).profile e vp vq tap delta) :
        exec (.measurementRecord i x eye rp rq) s = .next (s.setExch i x ((s.exch i x).requesting tap delta)) := by
      rw [exec_record_training eye rp rq hi he hp hq (.inl hl), State.requesterRecord_seeking hph hst hm,
        State.policyTake_request h]
    refine ⟨fun h => hmake ⟨hcap, ?_⟩, fun h h' => hmake ⟨hcap, ?_⟩, fun h h' h'' => hmake ⟨hcap, ?_⟩⟩
    · rw [if_pos h]
      exact ⟨rfl, rfl⟩
    · rw [if_neg h, if_pos h']
      exact ⟨rfl, rfl⟩
    · rw [if_neg h, if_neg h']
      exact ⟨h''.1, h''.2, rfl, rfl⟩

/-! ### Eye records (R129 to R135) -/

theorem exec_record_data {s : State} {i : Lane} {x : Side} {n : LegId} (eye rp rq : BitVec 7) {e : Nat}
    (hi : s.owner i = some n) (he : e = if (s.rxPath i x).signal then eye.toNat else 0) (hl : s.laneState i x = .data) :
    exec (.measurementRecord i x eye rp rq) s = .next (s.eyeRecord n i x e) := by
  rw [← seen_toNat] at he
  show Host.Outcome.next (s.takeRecord i x eye rp rq) = _
  unfold State.takeRecord
  rw [he]
  simp only [hi, hl]

/-- The alarm test counts a record that asks for a change, and changes the alarm at the eighth in a row (R132). -/
theorem EyeMonitor.alarmTest_spec (m : EyeMonitor) (level : Nat) :
    m.alarmTest level = { m with alarm := (m.alarmTest level).alarm, run := (m.alarmTest level).run }
      ∧ if (if m.alarm then level + 4 ≤ m.current else m.current < level) then
          if m.run = 7 then (m.alarmTest level).alarm = !m.alarm ∧ (m.alarmTest level).run = 0
          else (m.alarmTest level).alarm = m.alarm ∧ (m.alarmTest level).run = m.run + 1
        else (m.alarmTest level).alarm = m.alarm ∧ (m.alarmTest level).run = 0 := by
  have hcounts : (if m.alarm then decide (level + 4 ≤ m.current) else decide (m.current < level)) = true ↔
      if m.alarm then level + 4 ≤ m.current else m.current < level := by
    cases m.alarm <;> simp
  unfold EyeMonitor.alarmTest
  dsimp only
  simp only [hcounts]
  by_cases hc : if m.alarm then level + 4 ≤ m.current else m.current < level
  · rw [if_pos hc, if_pos hc]
    by_cases hr : m.run = 7
    · rw [if_pos (by omega : m.run + 1 = 8), if_pos hr]
      exact ⟨rfl, rfl, rfl⟩
    · rw [if_neg (by omega : ¬m.run + 1 = 8), if_neg hr]
      exact ⟨rfl, rfl, rfl⟩
  · rw [if_neg hc, if_neg hc]
    exact ⟨rfl, rfl, rfl⟩

/-- The monitor before the alarm test: primed, or updated (R129, R130). -/
def EyeMonitor.measured (m : EyeMonitor) (eye : Nat) : EyeMonitor := if m.phase = .priming then m.prime eye else m.update eye

theorem EyeMonitor.take_measured {m : EyeMonitor} (h : m.phase ≠ .idle) (level eye : Nat) :
    m.take level eye = (m.measured eye).alarmTest level := by
  unfold EyeMonitor.take EyeMonitor.measured
  cases hp : m.phase with
  | idle => exact absurd hp h
  | priming => rfl
  | running => rfl

/-- What a record makes of the values before the alarm test (R129, R130). -/
theorem EyeMonitor.measured_spec {m : EyeMonitor} (h : m.phase ≠ .idle) (e : Nat) :
    (m.measured e).acc = (if m.phase = .priming then 8 * e else m.acc - m.acc / 8 + e)
      ∧ (m.measured e).phase = .running ∧ ((m.measured e).alarm = m.alarm ∧ (m.measured e).run = m.run)
      ∧ (m.phase = .priming → (m.measured e).current = e ∧ (m.measured e).minimum = e ∧ (m.measured e).maximum = e
        ∧ (m.measured e).valid = true)
      ∧ (m.phase = .running → (m.measured e).current = (m.acc - m.acc / 8 + e) / 8
        ∧ (m.measured e).minimum = min m.minimum ((m.acc - m.acc / 8 + e) / 8)
        ∧ (m.measured e).maximum = max m.maximum ((m.acc - m.acc / 8 + e) / 8) ∧ (m.measured e).valid = m.valid) := by
  unfold EyeMonitor.measured
  cases hp : m.phase with
  | idle => exact absurd hp h
  | priming => exact ⟨rfl, rfl, ⟨rfl, rfl⟩, fun _ => ⟨rfl, rfl, rfl, rfl⟩, fun k => by simp at k⟩
  | running => exact ⟨rfl, hp, ⟨rfl, rfl⟩, fun k => by simp at k, fun _ => ⟨rfl, rfl, rfl, rfl⟩⟩

/-- Settles O26: the monitor takes the record, then the margin condition is checked. -/
theorem eyeRecordUpdates : Obligations.EyeRecordUpdates := by
  intro s i x eye rp rq n e a hi hl he ha hphase
  refine ⟨_, exec_record_data eye rp rq hi he hl, ?_⟩
  have hbase := s.rxPath_modRx_same i x fun r => { r with eye := r.eye.take (s.leg n).profile.alarmLevel e }
  have hunreported : s.Reports (s.modRx i x fun r => { r with eye := r.eye.take (s.leg n).profile.alarmLevel e }) [] :=
    (State.Reports.refl s).apart rfl rfl
  have hrx0 : (s.modRx i x fun r => { r with eye := r.eye.take (s.leg n).profile.alarmLevel e }).rx
    = (s.setRxAt (s.phys i x) x { s.rxPath i x with eye := (s.rxPath i x).eye.take (s.leg n).profile.alarmLevel e }).rx := rfl
  have hlow := (s.modRx i x fun r => { r with eye := r.eye.take (s.leg n).profile.alarmLevel e }).marginCheck_marginLow n
  have hleg := (s.modRx i x fun r => { r with eye := r.eye.take (s.leg n).profile.alarmLevel e }).marginCheck_leg n
  have hmove := (s.modRx i x fun r => { r with eye := r.eye.take (s.leg n).profile.alarmLevel e }).marginCheck_condsMove n
  have hreports := hunreported.marginCheck n rfl
  have halarm := hmove.anyAlarm n
  rw [← State.marginActs_marginCheck, List.nil_append] at hreports
  unfold State.eyeRecord
  obtain ⟨hsl, htx, hrx, hex, _⟩ := hmove.fabric
  generalize (s.modRx i x fun r => { r with eye := r.eye.take (s.leg n).profile.alarmLevel e }).marginCheck n = t at *
  have hpath : t.rxPath i x = { s.rxPath i x with eye := (s.rxPath i x).eye.take (s.leg n).profile.alarmLevel e } :=
    (State.rxPath_congr hrx hsl i x).trans hbase
  refine ⟨?_, htx, hex, hsl, ?_, ?_⟩
  · rw [hpath]
    exact hrx.trans hrx0
  · unfold State.LegStands
    rw [hleg]
    rfl
  · rw [hpath]
    dsimp only
    rw [EyeMonitor.take_measured hphase]
    obtain ⟨hkeep, htest⟩ := ((s.rxPath i x).eye.measured e).alarmTest_spec (s.leg n).profile.alarmLevel
    obtain ⟨hacc, hrun, hflags, hprime, hupdate⟩ := EyeMonitor.measured_spec hphase e
    generalize (s.rxPath i x).eye = m at *
    generalize m.measured e = q at *
    generalize q.alarmTest (s.leg n).profile.alarmLevel = z at *
    have hcurrent : z.current = q.current := by rw [hkeep]
    rw [hflags.1, hflags.2, ← hcurrent] at htest
    refine ⟨?_, ?_, fun h => ?_, fun h => ?_, htest, hlow.trans halarm.symm, hreports⟩
    · rw [hkeep, ha]
      exact hacc
    · rw [hkeep]
      exact hrun
    · rw [hkeep]
      exact hprime h
    · rw [if_neg (by rw [h]; simp)] at ha
      rw [hkeep, ha]
      exact hupdate h

/-! ### A search that ends content (R71, R78) -/

/-- The exchange of a receiver that has become content (R71, R78). -/
def Exchange.contented (e : Exchange) : Exchange :=
  { e with req := { e.req with mode := .content }
           lane := if e.partnerVerdict = .content ∧ e.lane = .tune then .ready else e.lane }

theorem State.becomeContent_eq (s : State) (n : LegId) (i : Lane) (x : Side) (low : Bool) (eye : Nat) :
    s.becomeContent n i x low eye =
      (s.setExch i x (s.exch i x).contented).queueEvent (some n) (.laneTuned x i low eye (s.exch i x).req.taps) := by
  have hready (t : State) (k : EventKind) :
      (t.queueEvent (some n) k).enterReady i x = (t.enterReady i x).queueEvent (some n) k := rfl
  unfold State.becomeContent
  dsimp only
  by_cases h : (s.exch i x).partnerVerdict = .content ∧ s.laneState i x = .tune
  · have hc : (s.exch i x).contented = { s.exch i x with req := { (s.exch i x).req with mode := .content }, lane := .ready } := by
      unfold Exchange.contented
      rw [if_pos (show (s.exch i x).partnerVerdict = .content ∧ (s.exch i x).lane = .tune from h)]
    rw [if_pos h, hready, hc]
    unfold State.enterReady
    rw [State.modExch_modExch]
    rfl
  · have hc : (s.exch i x).contented = { s.exch i x with req := { (s.exch i x).req with mode := .content } } := by
      unfold Exchange.contented
      rw [if_neg (show ¬((s.exch i x).partnerVerdict = .content ∧ (s.exch i x).lane = .tune) from h)]
    rw [if_neg h, hc]
    rfl

/-! ### A record that joined before the leg's answer -/

theorem State.QueuedNear.endCondition_more {s : State} {q : EventRecord} {k : Nat} (h : s.QueuedNear q k) (hk : k + 1 < 32)
    (owner : Option LegId) (code : FaultCode) : (s.endCondition owner code).QueuedNear q (k + 2) := by
  have hs := (s.setCondition_events owner code false).1
  unfold State.endCondition
  dsimp only
  split
  · split
    · exact (h.congr hs).mono (by omega)
    · have hu := (h.congr hs).queueEvent (by omega)
      split
      · exact State.QueuedNear.queueEvent (hu _ _) hk _ _
      · exact (hu _ _).mono (by omega)
  · exact h.mono (by omega)

theorem State.QueuedNear.marginCheck_more {s : State} {q : EventRecord} {k : Nat} (h : s.QueuedNear q k) (hk : k + 1 < 32)
    (n : LegId) : (s.marginCheck n).QueuedNear q (k + 2) := by
  unfold State.marginCheck
  split
  · split
    · exact h.mono (by omega)
    · have hs := (s.setCondition_events (some n) .marginLow true).1
      exact ((h.congr hs).queueEvent (by omega) _ _).mono (by omega)
  · exact h.endCondition_more hk _ _

theorem State.QueuedNear.settle {s : State} {q : EventRecord} {k : Nat} (h : s.QueuedNear q k) (hk : k + 1 < 32)
    (n : LegId) : (s.settle n).QueuedNear q (k + 2) :=
  State.QueuedNear.marginCheck_more (h.congr (congrArg Report.events (s.deriveOrders_report n))) hk n

theorem State.releaseTest_report (s : State) (n : LegId) : (s.releaseTest n).report = s.report := by
  unfold State.releaseTest
  dsimp only
  split <;> rfl

theorem State.QueuedNear.releaseTest {s : State} {q : EventRecord} {k : Nat} (h : s.QueuedNear q k) (n : LegId) :
    (s.releaseTest n).QueuedNear q k := h.congr (congrArg Report.events (s.releaseTest_report n))

theorem State.QueuedNear.enterTraining {s : State} {q : EventRecord} {k : Nat} (h : s.QueuedNear q k) (hk : k < 32) (n : LegId)
    (cause : LegCause) : (s.enterTraining n cause).QueuedNear q (k + 1) := by
  have hz : ((s.modLeg n fun l => l.inTraining s.now).zeroRestarts n).report = s.report := by
    rw [State.zeroRestarts_only]
    rfl
  have hq : ((s.modLeg n fun l => l.inTraining s.now).zeroRestarts n).QueuedNear q k := h.congr (congrArg Report.events hz)
  exact hq.queueEvent hk _ _

/-- A record that joined just before a report of a lane not in DATA stands after the leg's answer (R156). -/
theorem State.QueuedNear.laneReport {s : State} {q : EventRecord} (h : s.QueuedNear q 1) {n : LegId}
    (hd : s.bothData n = false) : (s.laneReport n).QueuedNear q 4 := by
  by_cases hs : (s.leg n).state = .training ∨ (s.leg n).state = .lost
  · rw [State.laneReport_attempt hs hd]
    exact ((h.releaseTest n).settle (by omega) n).mono (by omega)
  · obtain ⟨h1, h2⟩ := not_or.1 hs
    by_cases hw : (s.leg n).state = .waiting ∧ s.allPastListen n = true
    · rw [State.laneReport_training hw.1 hw.2 hd]
      exact ((h.enterTraining (by omega) n _).releaseTest n).settle (by omega) n
    · rw [State.laneReport_still ?_ h1 h2]
      · exact (h.settle (by omega) n).mono (by omega)
      · rcases not_and_or.1 hw with k | k
        · exact .inl k
        · exact .inr (Bool.eq_false_iff.2 k)

/-- A receiver that becomes content, and its leg's answer (R71, R78, R82). -/
theorem State.becomeContent_reported {s : State} {n : LegId} {i : Lane} {x : Side} (hp : s.PairsApart) (hi : s.owner i = some n)
    (hl : s.laneState i x = .tune) (low : Bool) (e : Nat) :
    ((s.reportIfMoved (s.becomeContent n i x low e) n i x).exch i x).req = { (s.exch i x).req with mode := .content }
      ∧ (s.reportIfMoved (s.becomeContent n i x low e) n i x).laneState i x =
        (if (s.exch i x).partnerVerdict = .content then .ready else .tune)
      ∧ s.queuedFirst (s.reportIfMoved (s.becomeContent n i x low e) n i x) (some n)
        (.laneTuned x i low e (s.exch i x).req.taps)
      ∧ s.OthersStand (s.reportIfMoved (s.becomeContent n i x low e) n i x) i x := by
  have hlane : (s.exch i x).contented.lane = if (s.exch i x).partnerVerdict = .content then .ready else .tune := by
    have hl' : (s.exch i x).lane = .tune := hl
    unfold Exchange.contented
    rw [hl']
    simp
  have hmove : s.LaneMove n i x (s.setExch i x (s.exch i x).contented) := s.laneMove_modExch n i x Exchange.contented
  rw [s.becomeContent_eq]
  have hq : ((s.setExch i x (s.exch i x).contented).queueEvent (some n) (.laneTuned x i low e (s.exch i x).req.taps)).QueuedNear
      { seq := s.report.nextSeq, leg := some n, time := s.report.headClock, kind := .laneTuned x i low e (s.exch i x).req.taps } 1 :=
    State.queueEvent_queuedNear _ _ _
  have hexch : ((s.setExch i x (s.exch i x).contented).queueEvent (some n)
      (.laneTuned x i low e (s.exch i x).req.taps)).exch i x = (s.exch i x).contented := s.exch_setExch_same i x _
  have hqueue : (s.setExch i x (s.exch i x).contented).OrdersMove ((s.setExch i x (s.exch i x).contented).queueEvent (some n)
    (.laneTuned x i low e (s.exch i x).req.taps)) := (State.queueEvent_condsMove _ _ _).orders
  generalize (s.setExch i x (s.exch i x).contented).queueEvent (some n) (.laneTuned x i low e (s.exch i x).req.taps) = v at *
  have hreport := v.ordersMove_reportIfMoved s n i x
  have hexchs := hreport.exchs i x
  have hstate := hreport.laneState i x
  have hvi : v.owner i = some n := (State.owner_congr (hqueue.slices.trans hmove.slices) i).trans hi
  have hnear : (s.reportIfMoved v n i x).QueuedNear
      { seq := s.report.nextSeq, leg := some n, time := s.report.headClock, kind := .laneTuned x i low e (s.exch i x).req.taps } 4 := by
    unfold State.reportIfMoved
    split
    · exact hq.mono (by omega)
    · refine hq.laneReport (State.not_bothData (x := x) hvi ?_)
      rw [State.laneState, hexch, hlane]
      split <;> simp
  refine ⟨?_, ?_, hnear.mem, hmove.others (hqueue.trans hreport) hp⟩
  · rw [hexchs, hexch]
    rfl
  · rw [hstate, State.laneState, hexch, hlane]

/-! ### Contentment that ends (R72, R80) -/

theorem State.laneMove_endContentment {s : State} {n : LegId} {i : Lane} (hi : s.owner i = some n) (x : Side) :
    s.LaneMove n i x (s.endContentment i x) := by
  have ht := s.laneMove_modExch n i x fun e => { e with req := { e.req with mode := .seeking } }
  unfold State.endContentment
  dsimp only
  split
  · exact ht.trans (State.laneMove_returnToTune ((ht.owner i).trans hi) x _)
  · exact ht

/-- The exchange of a lane that has returned to TUNE (R80, R90, R91). -/
def Exchange.returned (e : Exchange) (cause : ReturnCause) (watch : Option Nat) : Exchange :=
  { e with lane := .tune, ownCount := 15, zeroSeen := false, countEnded := false, returnCause := some cause, watch }

theorem State.outOfService_now (s : State) (i : Lane) (x : Side) : (s.outOfService i x).now = s.now := by
  have h := (s.serviceMoves_outOfService i x).lanes
  unfold State.LanesMove at h
  rw [h]

/-- A return to TUNE, from READY with the watch running on, else with the watch started (R34, R80). -/
theorem State.returnToTune_exch_eq (s : State) (i : Lane) (x : Side) (cause : ReturnCause) :
    (s.returnToTune i x cause).exch i x =
      (s.exch i x).returned cause (if s.laneState i x = .ready then (s.exch i x).watch else some (s.now + 640)) := by
  have ho := s.outOfService_exch i i x x
  have hn := s.outOfService_now i x
  have hu : ((s.outOfService i x).modExch i x fun e =>
      { e with lane := .tune, ownCount := 15, zeroSeen := false, countEnded := false, returnCause := some cause }).exch i x =
      (s.exch i x).returned cause (s.exch i x).watch := by
    rw [State.exch_modExch_same, ho]
    rfl
  unfold State.returnToTune
  dsimp only
  split
  · exact hu
  · unfold State.startWatch
    rw [State.exch_modExch_same]
    change ({ (((s.outOfService i x).modExch i x fun e => { e with
      lane := .tune, ownCount := 15, zeroSeen := false, countEnded := false, returnCause := some cause }).exch i x) with
        watch := some ((s.outOfService i x).now + Config.silenceMicros) } : Exchange) = _
    rw [hu, hn]
    rfl

/-- A lane whose contentment ends keeps every receive path, every coefficient set and every restart count. -/
theorem State.endContentment_keeps {s : State} {i : Lane} {x : Side} (hl : s.laneState i x ≠ .data) :
    (s.endContentment i x).rx = s.rx
      ∧ (∀ (k : Lane) (y : Side), (s.endContentment i x).txAt k y =
        { s.txAt k y with line := ((s.endContentment i x).txAt k y).line })
      ∧ ∀ (j : Lane) (y : Side), ((s.endContentment i x).exch j y).restarts = (s.exch j y).restarts := by
  have hrx : (s.outOfService i x).rx = s.rx := by
    unfold State.outOfService
    rw [State.clearRelease_rx]
    unfold State.leaveService
    dsimp only
    rw [if_neg hl]
    rfl
  refine ⟨?_, fun k y => ?_, fun j y => ?_⟩
  · rw [s.endContentment_eq]
    split
    · exact hrx
    · rfl
  · rw [s.endContentment_eq]
    split
    · exact (s.outOfService_path i x k y).1
    · rfl
  · by_cases h : (j, y) = (i, x)
    · obtain ⟨rfl, rfl⟩ := Prod.mk.inj h
      rw [s.endContentment_exch]
      unfold Exchange.discontent
      split <;> rfl
    · rw [s.endContentment_eq, State.exch_modExch_ne _ _ h]
      split
      · rw [s.outOfService_exch]
      · rfl

/-! ### A lane failure after contentment has ended (R72, R73, R105) -/

/-- What an event has reported since `v` it has reported since `s`, where the report unit and the conditions are the same. -/
theorem State.ReportsBeside.since {s v t : State} {acts : List ReportAct} {skipped : List LegId}
    (h : v.ReportsBeside t acts skipped) (hr : v.report = s.report)
    (hc : ∀ (o : Option LegId) (c : FaultCode), v.condition o c = s.condition o c) : s.ReportsBeside t acts skipped := by
  have hdesk : v.desk = s.desk := by
    unfold State.desk
    rw [hr, funext fun o => funext fun c => hc o c]
  unfold State.ReportsBeside State.ReportsTo State.Joined at h ⊢
  rw [hdesk, hr] at h
  exact h

/-- What keeps all that a failed attempt speaks of, one side's flags apart. -/
structure State.BeforeFailure (s v : State) (n : LegId) : Prop where
  lanes : s.LanesMove v
  leg : v.leg n = { s.leg n with released := (v.leg n).released, kept := (v.leg n).kept }
  conds : ∀ m : LegId, (v.leg m).conds = (s.leg m).conds
  rx : v.rx = s.rx
  txs : ∀ (k : Lane) (y : Side), v.txAt k y = { s.txAt k y with line := (v.txAt k y).line }
  restarts : ∀ (j : Lane) (y : Side), (v.exch j y).restarts = (s.exch j y).restarts

theorem State.beforeFailure_endContentment {s : State} {n : LegId} {i : Lane} {x : Side} (hi : s.owner i = some n)
    (hl : s.laneState i x ≠ .data) : s.BeforeFailure (s.endContentment i x) n := by
  have hm := State.laneMove_endContentment hi x
  obtain ⟨hrx, htx, hres⟩ := State.endContentment_keeps hl
  refine ⟨hm.lanes, hm.leg, fun m => ?_, hrx, htx, hres⟩
  by_cases h : m = n
  · rw [h, hm.leg]
  · rw [hm.legs m h]

theorem State.BeforeFailure.condition {s v : State} {n : LegId} (h : s.BeforeFailure v n) (o : Option LegId) (c : FaultCode) :
    v.condition o c = s.condition o c :=
  (State.Unreported.mk (by rw [h.lanes.report]) h.conds : s.Unreported v).condition o c

theorem State.BeforeFailure.failed {s v t : State} {n : LegId} {failure : LastFailure} {code : FaultCode} {now : Nat}
    (h : s.BeforeFailure v n) (hf : v.Failed t n failure code now) : s.Failed t n failure code now := by
  have hslices := h.lanes.slices
  have hagent : v.agent = s.agent := by
    have hl := h.lanes
    unfold State.LanesMove at hl
    rw [hl]
  have hacts : v.failureActs t n failure code = s.failureActs t n failure code := by
    unfold State.failureActs
    rw [State.marginActs_congr t (h.condition (some n) .marginLow), h.leg]
  obtain ⟨hstate, hleg, hcond, hsl, hrep, hlanes⟩ := hf
  have hprofile : (v.leg n).profile = (s.leg n).profile := by rw [h.leg]
  have hretry : (v.leg n).retry = (s.leg n).retry := by rw [h.leg]
  refine ⟨?_, ?_, hcond, hsl.trans hslices, ?_, fun j y hj => ?_⟩
  · rwa [hprofile, hretry] at hstate
  · rw [h.leg] at hleg
    exact hleg
  · rw [hacts, hagent] at hrep
    exact hrep.since h.lanes.report h.condition
  · obtain ⟨hq, ho, htx, hsig, hres⟩ := hlanes j y ((State.owner_congr hslices j).trans hj)
    refine ⟨hq, ho, ?_, ?_, hres.trans (h.restarts j y)⟩
    · rw [htx, State.txPath_eq_txAt hslices, h.txs]
      rfl
    · rw [hsig, State.rxPath_congr h.rx hslices]

theorem State.BeforeFailure.askedIfOut {s v t : State} {n : LegId} (h : s.BeforeFailure v n) (ha : v.AskedIfOut t n) :
    s.AskedIfOut t n := by
  have hagent : v.agent = s.agent := by
    have hl := h.lanes
    unfold State.LanesMove at hl
    rw [hl]
  have hslices := h.lanes.slices
  unfold State.AskedIfOut State.RecordAsked at ha ⊢
  split
  · next hs =>
    rw [if_pos hs, hagent] at ha
    obtain ⟨haccepted, hskipped⟩ := ha
    refine ⟨fun hz => ?_, hskipped⟩
    obtain ⟨h1, h2, h3, r, hr, hholds, hcause, hbefore⟩ := haccepted hz
    refine ⟨h1, h2, h3, r, hr, hholds.of_same (by rw [h.lanes.report]) (by rw [hagent]) (by rw [h.leg]) (by rw [h.leg])
      (by rw [h.leg]) hslices fun j y _ => ⟨?_, ?_⟩, hcause, by rw [hbefore, h.leg]⟩
    · rw [State.txPath_eq_txAt hslices, h.txs]
      rfl
    · rw [State.rxPath_congr h.rx hslices]
  · next hs =>
    rw [if_neg hs] at ha
    exact ha.trans hagent

/-! ### A used record that is judged (R63, R65, R73) -/

theorem Requester.AsksNothing.seeking {r : Requester} {p : Profile} {e : Nat} {vp vq : Int} (h : r.AsksNothing p e vp vq) :
    ({ r with mode := .seeking } : Requester).AsksNothing p e vp vq := h

theorem State.policyTake_content {s : State} {n : LegId} {i : Lane} {x : Side} {e : Nat} {vp vq : Int}
    (h : (s.exch i x).req.AsksNothing (s.leg n).profile e vp vq)
    (he : (s.leg n).profile.target ≤ e ∨ (s.leg n).profile.minimum ≤ e) :
    s.policyTake n i x e vp vq = s.becomeContent n i x (decide (e < (s.leg n).profile.target)) e := by
  unfold State.policyTake
  rw [policy_judges h]
  by_cases ht : (s.leg n).profile.target ≤ e
  · rw [if_pos ht, decide_eq_false (by omega)]
  · rw [if_neg ht, if_pos (he.resolve_left ht), decide_eq_true (by omega)]

theorem State.policyTake_short {s : State} {n : LegId} {i : Lane} {x : Side} {e : Nat} {vp vq : Int}
    (h : (s.exch i x).req.AsksNothing (s.leg n).profile e vp vq) (ht : e < (s.leg n).profile.target)
    (hm : e < (s.leg n).profile.minimum) : s.policyTake n i x e vp vq = s.laneFailure n i x .eyeShort := by
  unfold State.policyTake
  rw [policy_judges h, if_neg (by omega), if_neg (by omega)]

/-- The state in which a receiver is judged: its contentment has ended if it stood. -/
def State.judged (s : State) (i : Lane) (x : Side) : State :=
  if (s.exch i x).req.mode = .content then s.endContentment i x else s

theorem Exchange.discontent_asks {e : Exchange} {p : Profile} {v : Nat} {vp vq : Int} (h : e.req.AsksNothing p v vp vq) :
    e.discontent.req.AsksNothing p v vp vq := by
  rw [Exchange.discontent_req]
  exact h.seeking

theorem State.requesterRecord_short {s : State} {n : LegId} {i : Lane} {x : Side} (hi : s.owner i = some n)
    (hph : (s.exch i x).req.phase = .idle) (hst : (s.exch i x).req.stale = false) {e : Nat} {vp vq : Int}
    (h : (s.exch i x).req.AsksNothing (s.leg n).profile e vp vq) (ht : e < (s.leg n).profile.target)
    (hm : e < (s.leg n).profile.minimum) :
    s.requesterRecord n i x e vp vq = (s.judged i x).laneFailure n i x .eyeShort := by
  unfold State.judged
  cases hmode : (s.exch i x).req.mode with
  | seeking =>
    rw [State.requesterRecord_seeking hph hst hmode, State.policyTake_short h ht hm, if_neg (by simp)]
  | content =>
    have hprofile : ((s.endContentment i x).leg n).profile = (s.leg n).profile := by
      rw [(State.laneMove_endContentment hi x).leg]
    rw [State.requesterRecord_content hph hst hmode, if_neg (by omega), if_pos rfl]
    refine State.policyTake_short ?_ (by rwa [hprofile]) (by rwa [hprofile])
    rw [hprofile, s.endContentment_exch]
    exact Exchange.discontent_asks h

theorem State.judged_beforeFailure {s : State} {n : LegId} {i : Lane} {x : Side} (hi : s.owner i = some n)
    (hl : s.laneState i x ≠ .data) : s.BeforeFailure (s.judged i x) n := by
  unfold State.judged
  split
  · exact State.beforeFailure_endContentment hi hl
  · exact ⟨.refl s, rfl, fun _ => rfl, rfl, fun _ _ => rfl, fun _ _ => rfl⟩

theorem State.judged_laneMove {s : State} {n : LegId} {i : Lane} {x : Side} (hi : s.owner i = some n) :
    s.LaneMove n i x (s.judged i x) := by
  unfold State.judged
  split
  · exact State.laneMove_endContentment hi x
  · exact .refl s

/-- A used record that is too short outside TRAINING starts the lane afresh (R73, R74). -/
theorem State.short_listens {s : State} {n : LegId} {i : Lane} {x : Side} (hp : s.PairsApart) (hi : s.owner i = some n)
    (hl : s.laneState i x = .tune ∨ s.laneState i x = .ready) (hs : (s.leg n).state ≠ .training) :
    s.BackInListen (s.reportIfMoved ((s.judged i x).laneFailure n i x .eyeShort) n i x) n i x
      ∧ ((s.reportIfMoved ((s.judged i x).laneFailure n i x .eyeShort) n i x).exch i x).restarts = (s.exch i x).restarts := by
  have hm := State.judged_laneMove (x := x) hi
  have hb := State.judged_beforeFailure (x := x) hi (by rcases hl with hl | hl <;> simp [hl])
  have hs' : ((s.judged i x).leg n).state ≠ .training := by
    rw [hm.leg]
    exact hs
  rw [State.laneFailure_listens hs' s (by rcases hl with hl | hl <;> simp [hl]), ← State.listening_same]
  obtain ⟨hback, _, hres⟩ := State.backInListen hm hp hi ((s.judged i x).exch i x).restarts
  exact ⟨hback, hres.trans (hb.restarts i x)⟩

/-- A used record that is too short in TRAINING ends the attempt (R73, R74, R105). -/
theorem State.short_fails {s : State} {n : LegId} {i : Lane} {x : Side} (hi : s.owner i = some n)
    (hl : s.laneState i x = .tune ∨ s.laneState i x = .ready) (hs : (s.leg n).state = .training) :
    s.Failed (s.reportIfMoved ((s.judged i x).laneFailure n i x .eyeShort) n i x) n (.lane .eyeShort x i) .sideFail s.now
      ∧ s.AskedIfOut (s.reportIfMoved ((s.judged i x).laneFailure n i x .eyeShort) n i x) n := by
  have hb := State.judged_beforeFailure (x := x) hi (by rcases hl with hl | hl <;> simp [hl])
  have hs' : ((s.judged i x).leg n).state = .training := by
    rw [hb.leg]
    exact hs
  have hnow : (s.judged i x).now = s.now := by
    have hl := hb.lanes
    unfold State.LanesMove at hl
    rw [hl]
  have hf := (s.judged i x).failAttempt_failed n (code := .sideFail) (.lane .eyeShort x i) (.inr (.inl rfl))
  have ha := (s.judged i x).failAttempt_askedIfOut n (code := .sideFail) (.lane .eyeShort x i) (.inr (.inl rfl)) (by simp)
  rw [hnow] at hf
  rw [State.laneFailure_training hs']
  exact ⟨hb.failed hf, hb.askedIfOut ha⟩

/-- A used record that ends contentment and asks for more (R72). -/
theorem State.discontent_asks {s : State} {n : LegId} {i : Lane} {x : Side} (hp : s.PairsApart) (hi : s.owner i = some n)
    (hl : s.laneState i x = .tune ∨ s.laneState i x = .ready) {e : Nat} {vp vq : Int} {tap : Tap} {delta : Int}
    (hasks : (s.exch i x).req.Asks (s.leg n).profile e vp vq tap delta) :
    s.OthersStand (s.reportIfMoved ((s.endContentment i x).policyTake n i x e vp vq) n i x) i x
      ∧ (s.reportIfMoved ((s.endContentment i x).policyTake n i x e vp vq) n i x).exch i x =
        { (s.exch i x).discontent.requesting tap delta with
          order := ((s.reportIfMoved ((s.endContentment i x).policyTake n i x e vp vq) n i x).exch i x).order
          restarts := ((s.reportIfMoved ((s.endContentment i x).policyTake n i x e vp vq) n i x).exch i x).restarts }
      ∧ ((s.leg n).state ≠ .waiting → s.LegStands (s.reportIfMoved ((s.endContentment i x).policyTake n i x e vp vq) n i x) n)
      ∧ (s.laneState i x = .ready →
        ((s.reportIfMoved ((s.endContentment i x).policyTake n i x e vp vq) n i x).leg n).released.get x = false)
      ∧ (s.laneState i x = .tune → s.reportIfMoved ((s.endContentment i x).policyTake n i x e vp vq) n i x =
        { s with ex := (s.reportIfMoved ((s.endContentment i x).policyTake n i x e vp vq) n i x).ex }) := by
  have hend := State.laneMove_endContentment hi x
  have hprofile : ((s.endContentment i x).leg n).profile = (s.leg n).profile := by rw [hend.leg]
  have hpolicy : (s.endContentment i x).policyTake n i x e vp vq =
      (s.endContentment i x).setExch i x ((s.exch i x).discontent.requesting tap delta) := by
    rw [State.policyTake_asks (tap := tap) (delta := delta)]
    · rw [s.endContentment_exch]
    · rw [hprofile, s.endContentment_exch, Exchange.discontent_req]
      exact hasks
  have hmove : s.LaneMove n i x ((s.endContentment i x).setExch i x ((s.exch i x).discontent.requesting tap delta)) :=
    hend.trans (State.laneMove_modExch _ n i x fun _ => (s.exch i x).discontent.requesting tap delta)
  have hexch := (s.endContentment i x).exch_setExch_same i x ((s.exch i x).discontent.requesting tap delta)
  have hreleased (hr : s.laneState i x = .ready) :
      (((s.endContentment i x).setExch i x ((s.exch i x).discontent.requesting tap delta)).leg n).released.get x = false := by
    rw [s.endContentment_eq, if_pos hr]
    exact State.outOfService_released hi x
  have htune (ht : s.laneState i x = .tune) :
      (s.endContentment i x).setExch i x ((s.exch i x).discontent.requesting tap delta) = { s with
        ex := ((s.endContentment i x).setExch i x ((s.exch i x).discontent.requesting tap delta)).ex } := by
    rw [s.endContentment_eq, if_neg (by simp [ht])]
    rfl
  rw [hpolicy]
  generalize (s.endContentment i x).setExch i x ((s.exch i x).discontent.requesting tap delta) = v at *
  have hlane : v.laneState i x = .tune := by
    rw [State.laneState, hexch]
    exact Exchange.discontent_lane hl
  have hvi : v.owner i = some n := (hmove.owner i).trans hi
  have horders := v.ordersMove_reportIfMoved s n i x
  have hexchs := horders.exchs i x
  rw [hexch] at hexchs
  refine ⟨hmove.others horders hp, hexchs, fun hw => ?_, fun hr => ?_, fun ht => ?_⟩
  · unfold State.reportIfMoved State.LegStands
    split
    · rw [hmove.leg]
    · rw [State.laneReport_stands (.inl (by rw [hmove.leg]; exact hw)) (State.not_bothData (x := x) hvi (by simp [hlane])),
        hmove.leg]
  · rw [State.reportIfMoved_moved (by rw [hlane, hr]; simp),
      State.laneReport_opens_none (x := x) hvi (by simp [hlane, LaneState.beyondTune])]
    exact hreleased hr
  · rw [State.reportIfMoved_same (hlane.trans ht.symm)]
    exact htune ht

/-- Settles O25: a used record is judged, or ends contentment first. -/
theorem recordEndsTheSearch : Obligations.RecordEndsTheSearch := by
  intro s i x eye rp rq n p r tap delta e vp vq hplan hi he hvp hvq hprofile hreq hph hst
  subst hprofile hreq
  have hp := hplan.pairsApart
  refine ⟨fun hm hl hnothing hjudge => ?_, fun hl hnothing ht hmin => ?_, fun hm hl => ⟨fun hmin => ?_, fun hmin hasks => ?_⟩⟩
  · refine ⟨_, exec_record_training eye rp rq hi he hvp hvq (.inl hl), ?_⟩
    rw [State.requesterRecord_seeking hph hst hm, State.policyTake_content hnothing hjudge]
    exact State.becomeContent_reported hp hi hl _ e
  · have hl' : s.laneState i x = .tune ∨ s.laneState i x = .ready := hl.imp id And.left
    refine ⟨fun hs => ⟨_, exec_record_training eye rp rq hi he hvp hvq hl', ?_⟩,
      fun hs => ⟨_, exec_record_training eye rp rq hi he hvp hvq hl', ?_⟩⟩
    · rw [State.requesterRecord_short hi hph hst hnothing ht hmin]
      exact State.short_listens hp hi hl' hs
    · rw [State.requesterRecord_short hi hph hst hnothing ht hmin]
      exact State.short_fails hi hl' hs
  · rw [exec_record_training eye rp rq hi he hvp hvq hl, State.requesterRecord_content hph hst hm, if_pos hmin,
      State.reportIfMoved_same rfl]
  · refine ⟨_, exec_record_training eye rp rq hi he hvp hvq hl, ?_⟩
    rw [State.requesterRecord_content hph hst hm, if_neg (by omega)]
    exact State.discontent_asks hp hi hl hasks

end Sys2Proof.Machine
end

section
/-! PROOF. The frames that intervals start (O33; R16, R21, R26 to R32, R67, R79, R87). -/

namespace Sys2Proof.Machine

/-! ### A tuning frame (R21, R67) -/

/-- The exchange once a frame interval has begun: its request is out. -/
def Exchange.started (e : Exchange) (now : Nat) : Exchange := { e with req := e.req.frameStarts now }

theorem State.sendTuning_eq (s : State) (i : Lane) (x : Side) :
    s.sendTuning i x =
      s.sends i x ((s.exch i x).started s.now) (.frame (tuneWord (((s.exch i x).started s.now).compose (s.releasedAt i x)))) := by
  have h : (s.modExch i x fun e => { e with req := e.req.frameStarts s.now }).exch i x = (s.exch i x).started s.now :=
    s.exch_modExch_same i x _
  unfold State.sendTuning
  dsimp only
  rw [h]
  rfl

theorem Exchange.started_idle {e : Exchange} (h : e.req.phase = .idle) (now : Nat) : e.started now = e := by
  unfold Exchange.started Requester.frameStarts
  rw [h]

theorem Requester.frameStarts_outstanding {r : Requester} (h : r.phase = .outstanding) (now : Nat) :
    r.frameStarts now = { r with firstFrame := false } := by
  unfold Requester.frameStarts
  split
  · rename_i hp
    simp [h] at hp
  · rfl
  · rename_i hp
    simp [h] at hp

/-- A lane whose count-0 frame is not open has none to end. -/
theorem State.endCountZero_none {s : State} {i : Lane} {x : Side}
    (h : ¬((s.exch i x).lane = .count ∧ (s.exch i x).ownCount = 0 ∧ (s.exch i x).countEnded = false)) : s.endCountZero i x = s := by
  unfold State.endCountZero
  split
  · rfl
  · exact if_neg h

theorem State.startInterval_tuning {s : State} {i : Lane} {x : Side}
    (h : (s.exch i x).lane = .listen ∨ (s.exch i x).lane = .tune ∨ (s.exch i x).lane = .ready) :
    s.startInterval i x = s.sendTuning i x := by
  have hz : s.endCountZero i x = s := State.endCountZero_none fun k => by rcases h with h | h | h <;> simp [h] at k
  unfold State.startInterval State.laneState
  rw [hz]
  rcases h with h | h | h <;> simp only [h]

theorem State.startInterval_count {s : State} {i : Lane} {x : Side} (h : (s.exch i x).lane = .count)
    (hc : (s.exch i x).countEnded = false) (h0 : (s.exch i x).ownCount ≠ 0) :
    s.startInterval i x = (s.modExch i x fun e => { e with ownCount := nextCount e.ownCount }).sendTuning i x := by
  have hz : s.endCountZero i x = s := State.endCountZero_none fun k => h0 k.2.1
  unfold State.startInterval State.laneState
  rw [hz]
  simp [h, hc]

theorem State.startInterval_service {s : State} {i : Lane} {x : Side}
    (h : (s.exch i x).lane = .data ∨ (s.exch i x).lane = .count ∧ (s.exch i x).countEnded = true) :
    s.startInterval i x = s.serve i x := by
  have hz : s.endCountZero i x = s := State.endCountZero_none fun k => by rcases h with h | h <;> simp [h] at k
  unfold State.startInterval State.laneState
  rw [hz]
  rcases h with h | h <;> simp [h]

/-! ### A frame under a service order (R16, R32) -/

theorem State.serve_frame {s : State} {i : Lane} {x : Side} {w : ControlWord}
    (h : s.serve i x = s.beginFrame i x w) : s.serve i x = s.sends i x (s.exch i x) (.frame w) := by
  rw [h]
  unfold State.sends
  rw [s.setExch_same]
  rfl

/-- The frame that an interval starts under each service order. -/
theorem State.serve_spec (s : State) (i : Lane) (x : Side) :
    ((s.exch i x).order = .standby → s.serve i x = s.sends i x (s.exch i x) (.frame 0x80000017))
      ∧ ((s.exch i x).order = .gap → s.serve i x = s.sends i x (s.exch i x) (.frame 0x80000026))
      ∧ ((s.exch i x).order = .fault → s.serve i x = s.sends i x (s.exch i x) (.frame 0x80000035))
      ∧ ((s.exch i x).order = .data → s.serve i x = s.sends i x (s.exch i x) .data)
      ∧ ((s.exch i x).order = .quiet →
        s.serve i x = { s with tx := (s.setTxAt (s.phys i x) x { s.txPath i x with line := .quiet }).tx }) := by
  refine ⟨fun h => State.serve_frame ?_, fun h => State.serve_frame ?_, fun h => State.serve_frame ?_, fun h => ?_, fun h => ?_⟩
  · unfold State.serve
    rw [h, ← fillWord_standby]
  · unfold State.serve
    rw [h, ← fillWord_gap]
  · unfold State.serve
    rw [h, ← fillWord_fault]
  · unfold State.serve State.sends
    rw [h, s.setExch_same]
    rfl
  · unfold State.serve
    rw [h]
    rfl

/-! ### An interval that finds the count-0 frame open (log 9) -/

theorem State.dataIfBoth_countEnded {s : State} {i : Lane} {x : Side} (h : (s.exch i x).countEnded = true) :
    ((s.dataIfBoth i x).exch i x).countEnded = true := by
  unfold State.dataIfBoth
  split
  · unfold State.enterData
    rw [State.exch_modExch_same]
    exact h
  · exact h

theorem State.endCountZero_twice (s : State) (i : Lane) (x : Side) :
    (s.endCountZero i x).endCountZero i x = s.endCountZero i x := by
  by_cases ho : ∃ n, s.owner i = some n ∧
      ((s.exch i x).lane = .count ∧ (s.exch i x).ownCount = 0 ∧ (s.exch i x).countEnded = false)
  · obtain ⟨n, hi, hc⟩ := ho
    have hended : ((s.endCountZero i x).exch i x).countEnded = true := by
      unfold State.endCountZero
      rw [hi]
      dsimp only
      rw [if_pos hc, (State.ordersMove_reportIfMoved _ s n i x).exchs]
      refine State.dataIfBoth_countEnded ?_
      exact congrArg Exchange.countEnded (s.exch_modExch_same i x fun e => { e with countEnded := true })
    exact State.endCountZero_none fun k => by simp [hended] at k
  · have hs : s.endCountZero i x = s := by
      cases hi : s.owner i with
      | none =>
        unfold State.endCountZero
        rw [hi]
      | some n => exact State.endCountZero_none fun k => ho ⟨n, hi, k⟩
    rw [hs, hs]

theorem State.startInterval_after (s : State) (i : Lane) (x : Side) :
    s.startInterval i x = (s.endCountZero i x).startInterval i x := by
  have h := s.endCountZero_twice i x
  unfold State.startInterval
  rw [h]

theorem State.startInterval_quiet {s : State} {i : Lane} {x : Side} (h : (s.exch i x).lane = .quiet) : s.startInterval i x = s := by
  have hz : s.endCountZero i x = s := State.endCountZero_none fun k => by simp [h] at k
  unfold State.startInterval State.laneState
  rw [hz]
  simp only [h]

/-! ### The words -/

theorem listenWord_eq (e : Exchange) (h : e.lane = .listen) (released : Bool) : tuneWord (e.compose released) = 0x400003CD := by
  have hc : e.compose released = { tap := .none, delta := 0, seq := 0, echo := 0, applied := 0, outcome := .none, limit := .none
                                   verdict := .seeking, count := 15 } := by
    simp only [Exchange.compose, Exchange.requestFields, Exchange.answerFields, Exchange.verdictSent, Exchange.countSent, h]
    rfl
  rw [hc]
  decide

/-- The fields that every tuning frame of an exchange beyond LISTEN shares: no request, the last answer given. -/
def Exchange.plainFields (e : Exchange) : TuneFields :=
  { tap := .none, delta := 0, seq := e.req.lastSeq, echo := e.lastGiven.echo, applied := e.lastGiven.applied
    outcome := e.lastGiven.outcome, limit := e.lastGiven.limit, verdict := .seeking, count := 15 }

theorem Exchange.compose_request {e : Exchange} (h : e.lane = .tune) (hm : e.req.mode = .seeking) {q : Request}
    (hq : e.req.current = some q) (released : Bool) :
    e.compose released = { e.plainFields with tap := q.tap.request, delta := q.delta, seq := q.seq } := by
  simp only [Exchange.compose, Exchange.requestFields, Exchange.answerFields, Exchange.verdictSent, Exchange.countSent, h, hm, hq]
  rfl

theorem Exchange.compose_none {e : Exchange} (h : e.lane = .tune) (hq : e.req.current = none) (released : Bool) :
    e.compose released = e.plainFields := by
  cases hm : e.req.mode <;> simp only [Exchange.compose, Exchange.requestFields, Exchange.answerFields, Exchange.verdictSent,
    Exchange.countSent, h, hq, hm] <;> rfl

theorem Exchange.compose_ready {e : Exchange} (h : e.lane = .ready) (released : Bool) :
    e.compose released = { e.plainFields with verdict := if released then .content else .seeking } := by
  simp only [Exchange.compose, Exchange.requestFields, Exchange.answerFields, Exchange.verdictSent, Exchange.countSent, h]
  rfl

theorem Exchange.compose_count {e : Exchange} (h : e.lane = .count) (released : Bool) :
    e.compose released = { e.plainFields with verdict := .content, count := e.ownCount } := by
  simp only [Exchange.compose, Exchange.requestFields, Exchange.answerFields, Exchange.verdictSent, Exchange.countSent, h]
  rfl

/-- Settles O33: each lane state composes its frame from the exchange. -/
theorem intervalStartsFrame : Obligations.IntervalStartsFrame := by
  intro s i x q e f he hreq hf
  subst he
  obtain ⟨hnone, htune, _, _, _, _, _⟩ := hreq
  have hexec : exec (.frameIntervalStart i x) s = .next (s.startInterval i x) := rfl
  have hidle (h : (s.exch i x).lane ≠ .tune) : (s.exch i x).req.phase = .idle := by
    by_contra k
    exact h (htune k).1
  rw [hexec]
  refine ⟨fun h => ?_, fun h hq hp => ?_, fun h hq hp => ?_, fun h hq => ?_, fun h => ?_, fun h h0 hc => ?_, fun h => ?_, fun h => ?_,
    fun h h0 hc => ?_⟩
  · rw [State.startInterval_tuning (.inl h), s.sendTuning_eq, Exchange.started_idle (hidle (by simp [h])), listenWord_eq _ h]
  · have hmode := (htune (by simp [hp])).2
    have hstart : (s.exch i x).started s.now = { s.exch i x with req := { (s.exch i x).req with
        phase := .outstanding, firstFrame := true, answerTimer := some (s.now + 1280) } } := by
      unfold Exchange.started Requester.frameStarts
      rw [hp]
      rfl
    rw [State.startInterval_tuning (.inr (.inl h)), s.sendTuning_eq,
      Exchange.compose_request (e := (s.exch i x).started s.now) (q := q) h (by rw [hstart]; exact hmode)
        (by rw [hstart]; exact hq), hstart, hf]
    rfl
  · have hmode := (htune (by simp [hp])).2
    have hstart : (s.exch i x).started s.now = { s.exch i x with req := { (s.exch i x).req with firstFrame := false } } := by
      unfold Exchange.started
      rw [Requester.frameStarts_outstanding hp]
    rw [State.startInterval_tuning (.inr (.inl h)), s.sendTuning_eq,
      Exchange.compose_request (e := (s.exch i x).started s.now) (q := q) h (by rw [hstart]; exact hmode)
        (by rw [hstart]; exact hq), hstart, hf]
    rfl
  · rw [State.startInterval_tuning (.inr (.inl h)), s.sendTuning_eq, Exchange.started_idle (hnone.1 hq),
      Exchange.compose_none h hq, hf]
    rfl
  · rw [State.startInterval_tuning (.inr (.inr h)), s.sendTuning_eq, Exchange.started_idle (hidle (by simp [h])),
      Exchange.compose_ready h, hf]
    rfl
  · have hexch : (s.modExch i x fun e => { e with ownCount := nextCount e.ownCount }).exch i x =
      { s.exch i x with ownCount := nextCount (s.exch i x).ownCount } := s.exch_modExch_same i x _
    have hph : ({ s.exch i x with ownCount := nextCount (s.exch i x).ownCount } : Exchange).req.phase = .idle :=
      hidle (by simp [h])
    rw [State.startInterval_count h hc h0, State.sendTuning_eq, hexch, Exchange.started_idle hph,
      Exchange.compose_count (e := { s.exch i x with ownCount := nextCount (s.exch i x).ownCount }) h, hf]
    unfold State.sends
    rw [show (s.modExch i x fun e => { e with ownCount := nextCount e.ownCount }).setExch i x
        { s.exch i x with ownCount := nextCount (s.exch i x).ownCount } =
      s.setExch i x { s.exch i x with ownCount := nextCount (s.exch i x).ownCount } from State.modExch_modExch s i x _ fun _ => _]
    rfl
  · rw [State.startInterval_service h]
    obtain ⟨h1, h2, h3, h4, h5⟩ := s.serve_spec i x
    exact ⟨fun k => congrArg _ (h1 k), fun k => congrArg _ (h2 k), fun k => congrArg _ (h3 k), fun k => congrArg _ (h4 k),
      fun k => congrArg _ (h5 k)⟩
  · rw [State.startInterval_quiet h]
  · exact ⟨_, rfl, congrArg Host.Outcome.next (s.startInterval_after i x)⟩

end Sys2Proof.Machine
end

section
/-! SUPPORT. The responder's answer (R44 to R51): the wanted value clamped, the limit, the applied delta. -/

namespace Sys2Proof.Machine

/-! ### The clamp (R45, R46) -/

/-- A feasible set lies within the feasible interval of each of its taps. -/
theorem Coef.feasible_within {C F : Nat} {u : Coef} (h : u.feasible C F = true) (tap : Tap) :
    0 ≤ lowBound F u tap ∧ lowBound F u tap ≤ u.get tap ∧ (u.get tap : Int) ≤ highBound C F u tap := by
  refine ⟨?_, Coef.feasible_between h tap⟩
  cases tap <;> simp only [lowBound] <;> omega

theorem newTap_eq {C F : Nat} {u : Coef} (h : u.feasible C F = true) (tap : Tap) (d : Int) :
    newTap C F u tap d = max (lowBound F u tap) (min (highBound C F u tap) (u.get tap + d)) := by
  have hw := Coef.feasible_within h tap
  unfold newTap
  dsimp only
  split
  · omega
  · split <;> omega

/-- Any value of a tap within its feasible interval leaves the set feasible. -/
theorem Coef.feasible_set {C F : Nat} {u : Coef} (h : u.feasible C F = true) {tap : Tap} {v : Int}
    (hl : lowBound F u tap ≤ v) (hh : v ≤ highBound C F u tap) : (u.set tap v.toNat).feasible C F = true := by
  rw [Coef.feasible_iff] at *
  cases tap <;> simp only [lowBound, highBound, Coef.set] at * <;> omega

theorem moveTap_feasible {C F : Nat} {u : Coef} (h : u.feasible C F = true) (tap : Tap) (d : Int) :
    (moveTap C F u tap d).feasible C F = true := by
  have hw := Coef.feasible_within h tap
  have hb := newTap_between C F u tap d (by omega)
  exact Coef.feasible_set h hb.1 hb.2

/-- What a tap is moved by is what the peak is moved by. -/
theorem moveTap_peak {C F : Nat} {u : Coef} (h : u.feasible C F = true) (tap : Tap) (d : Int) :
    appliedDelta C F u tap d = ((moveTap C F u tap d).peak : Int) - u.peak := by
  have hw := Coef.feasible_within h tap
  have hb := newTap_between C F u tap d (by omega)
  unfold appliedDelta moveTap
  generalize newTap C F u tap d = v at hb ⊢
  have hv : (v.toNat : Int) = v := Int.toNat_of_nonneg (by omega)
  cases tap <;> simp only [Coef.peak, Coef.set, Coef.get] <;> omega

/-- A request that is not applied whole has reached the bound in its direction. -/
theorem newTap_bound {C F : Nat} {u : Coef} (h : u.feasible C F = true) {tap : Tap} {d : Int}
    (ha : appliedDelta C F u tap d ≠ d) :
    if 0 < d then newTap C F u tap d = highBound C F u tap else d < 0 ∧ newTap C F u tap d = lowBound F u tap := by
  have hw := Coef.feasible_within h tap
  have hn := newTap_eq h tap d
  unfold appliedDelta at ha
  split <;> omega

/-! ### The limit (R48) -/

theorem firstLimit_cons (l : AnswerLimit) (v : Int) (terms : List (AnswerLimit × Int)) (b : Int) :
    firstLimit ((l, v) :: terms) b = if v = b then l else firstLimit terms b := by
  unfold firstLimit
  by_cases h : v = b
  · rw [List.find?_cons_of_pos (by simpa using h), if_pos h]
  · rw [List.find?_cons_of_neg (by simpa using h), if_neg h]

/-- The limit at the least of three terms. -/
theorem firstLimit_three (k l m : AnswerLimit) (a b c : Int) :
    firstLimit [(k, a), (l, b), (m, c)] (min a (min b c)) =
      if min a (min b c) = a then k else if min a (min b c) = b then l else m := by
  rw [firstLimit_cons, firstLimit_cons, firstLimit_cons]
  by_cases ha : min a (min b c) = a
  · rw [if_pos ha.symm, if_pos ha]
  · by_cases hb : min a (min b c) = b
    · rw [if_neg fun k => ha k.symm, if_pos hb.symm, if_neg ha, if_pos hb]
    · rw [if_neg fun k => ha k.symm, if_neg fun k => hb k.symm, if_pos (by omega), if_neg ha, if_neg hb]

/-- The limit at the greater or lesser of two terms. -/
theorem firstLimit_two (k l : AnswerLimit) {a b v : Int} (h : v = a ∨ v = b) :
    firstLimit [(k, a), (l, b)] v = if v = a then k else l := by
  rw [firstLimit_cons, firstLimit_cons]
  by_cases ha : v = a
  · rw [if_pos ha.symm, if_pos ha]
  · rw [if_neg fun k => ha k.symm, if_pos (h.resolve_left ha).symm, if_neg ha]

theorem firstLimit_one (k : AnswerLimit) (a : Int) : firstLimit [(k, a)] a = k := by
  rw [firstLimit_cons, if_pos rfl]

theorem limitOf_high {C F : Nat} {u : Coef} {tap : Tap} {d : Int} (ha : appliedDelta C F u tap d ≠ d) (hd : 0 < d) :
    limitOf C F u tap d = firstLimit (highTerms C F u tap) (highBound C F u tap) := by
  unfold limitOf
  rw [if_neg ha, if_pos hd]

theorem limitOf_low {C F : Nat} {u : Coef} {tap : Tap} {d : Int} (ha : appliedDelta C F u tap d ≠ d) (hd : ¬0 < d) :
    limitOf C F u tap d = firstLimit (lowTerms F u tap) (lowBound F u tap) := by
  unfold limitOf
  rw [if_neg ha, if_neg hd]

/-- The limit of a PRE request that was not applied whole. -/
theorem limitOf_pre {C F : Nat} {u : Coef} (h : u.feasible C F = true) {d : Int} (ha : appliedDelta C F u .pre d ≠ d) :
    limitOf C F u .pre d = if d < 0 ∨ (moveTap C F u .pre d).pre = 15 then .tap
      else if ((moveTap C F u .pre d).pre : Int) = (C : Int) - u.main - u.post then .ceiling else .floor := by
  have hb := newTap_bound h ha
  have hw := Coef.feasible_within h .pre
  have hm : (moveTap C F u .pre d).pre = (newTap C F u .pre d).toNat := rfl
  by_cases hd : 0 < d
  · rw [if_pos hd] at hb
    rw [hm, hb, limitOf_high ha hd]
    have hv : ((highBound C F u .pre).toNat : Int) = highBound C F u .pre := Int.toNat_of_nonneg (by omega)
    rw [hv]
    refine (firstLimit_three ..).trans ?_
    show (if highBound C F u .pre = 15 then _ else if highBound C F u .pre = _ then _ else _) = _
    simp only [show (d < 0 ∨ (highBound C F u .pre).toNat = 15) ↔ highBound C F u .pre = 15 by omega]
  · rw [if_neg hd] at hb
    rw [limitOf_low ha hd, if_pos (.inl hb.1)]
    exact firstLimit_one _ _

theorem limitOf_post {C F : Nat} {u : Coef} (h : u.feasible C F = true) {d : Int} (ha : appliedDelta C F u .post d ≠ d) :
    limitOf C F u .post d = if d < 0 ∨ (moveTap C F u .post d).post = 23 then .tap
      else if ((moveTap C F u .post d).post : Int) = (C : Int) - u.main - u.pre then .ceiling else .floor := by
  have hb := newTap_bound h ha
  have hw := Coef.feasible_within h .post
  have hm : (moveTap C F u .post d).post = (newTap C F u .post d).toNat := rfl
  by_cases hd : 0 < d
  · rw [if_pos hd] at hb
    rw [hm, hb, limitOf_high ha hd]
    have hv : ((highBound C F u .post).toNat : Int) = highBound C F u .post := Int.toNat_of_nonneg (by omega)
    rw [hv]
    refine (firstLimit_three ..).trans ?_
    show (if highBound C F u .post = 23 then _ else if highBound C F u .post = _ then _ else _) = _
    simp only [show (d < 0 ∨ (highBound C F u .post).toNat = 23) ↔ highBound C F u .post = 23 by omega]
  · rw [if_neg hd] at hb
    rw [limitOf_low ha hd, if_pos (.inl hb.1)]
    exact firstLimit_one _ _

theorem limitOf_main {C F : Nat} {u : Coef} (h : u.feasible C F = true) {d : Int} (ha : appliedDelta C F u .main d ≠ d) :
    limitOf C F u .main d = if d < 0 then (if (moveTap C F u .main d).main = 20 then .tap else .floor)
      else if (moveTap C F u .main d).main = 60 then .tap else .ceiling := by
  have hb := newTap_bound h ha
  have hw := Coef.feasible_within h .main
  have hm : (moveTap C F u .main d).main = (newTap C F u .main d).toNat := rfl
  by_cases hd : 0 < d
  · rw [if_pos hd] at hb
    rw [hm, hb, limitOf_high ha hd, if_neg (by omega)]
    refine (firstLimit_two _ _ (by simp only [highBound]; omega)).trans ?_
    simp only [show (highBound C F u .main).toNat = 60 ↔ highBound C F u .main = 60 by omega]
  · rw [if_neg hd] at hb
    rw [hm, hb.2, limitOf_low ha hd, if_pos hb.1]
    refine (firstLimit_two _ _ (by simp only [lowBound]; omega)).trans ?_
    simp only [show (lowBound F u .main).toNat = 20 ↔ lowBound F u .main = 20 by omega]

/-- NONE is the limit of a request applied whole and of no other. -/
theorem limitOf_none_iff {C F : Nat} {u : Coef} (h : u.feasible C F = true) (tap : Tap) (d : Int) :
    limitOf C F u tap d = .none ↔ appliedDelta C F u tap d = d := by
  refine ⟨fun k => ?_, fun k => if_pos k⟩
  by_contra ha
  cases tap with
  | pre =>
    rw [limitOf_pre h ha] at k
    split at k
    · simp at k
    · split at k <;> simp at k
  | main =>
    rw [limitOf_main h ha] at k
    split at k <;> split at k <;> simp at k
  | post =>
    rw [limitOf_post h ha] at k
    split at k
    · simp at k
    · split at k <;> simp at k

/-! ### The exchange and the path once the request fields are taken (R27, R44) -/

/-- The answer to a new request of frame `f`; nothing for tap NONE. -/
def TuneFields.answer (f : TuneFields) (C F : Nat) (u : Coef) : Option Answer :=
  match f.tap with
  | .none => none
  | .pre => some (answerFor C F u .pre f.delta f.seq)
  | .main => some (answerFor C F u .main f.delta f.seq)
  | .post => some (answerFor C F u .post f.delta f.seq)
  | .restart => some { echo := f.seq, applied := 0, outcome := .applied, limit := .none }

/-- The exchange after the request fields of `f`, the set in use being `u`. -/
def Exchange.answering (e : Exchange) (f : TuneFields) (C F : Nat) (u : Coef) : Exchange :=
  if e.lastAnswered = some f.seq then e
  else
    match f.answer C F u with
    | none => e
    | some a => { e.give a with warm := if f.tap = .restart then false else e.warm }

/-- The set in use after a new request of frame `f`. -/
def TxPath.asked (p : TxPath) (f : TuneFields) (C F : Nat) (r : RateClass) : TxPath :=
  match f.tap with
  | .none => p
  | .pre => { p with inUse := moveTap C F p.inUse .pre f.delta }
  | .main => { p with inUse := moveTap C F p.inUse .main f.delta }
  | .post => { p with inUse := moveTap C F p.inUse .post f.delta }
  | .restart => { p with inUse := p.start.get r }

theorem State.takeRequest_exch (s : State) (i : Lane) (x : Side) (f : TuneFields) :
    (s.takeRequest i x f).exch i x =
      (s.exch i x).answering f (s.profileAt i).ceiling (s.profileAt i).floor (s.txPath i x).inUse := by
  unfold State.takeRequest Exchange.answering TuneFields.answer
  split
  · rfl
  · cases hf : f.tap with
    | none => rfl
    | restart => exact State.exch_modExch_same _ i x _
    | _ => exact State.exch_modExch_same _ i x _

theorem State.processTap_txPath (s : State) (i : Lane) (x : Side) (tap : Tap) (d : Int) (q : BitVec 3) :
    (s.processTap i x tap d q).txPath i x =
      { s.txPath i x with inUse := moveTap (s.profileAt i).ceiling (s.profileAt i).floor (s.txPath i x).inUse tap d } :=
  s.txPath_modTx_same i x fun p => { p with
    inUse := moveTap (s.profileAt i).ceiling (s.profileAt i).floor (s.txPath i x).inUse tap d }

theorem State.takeRequest_txPath (s : State) (i : Lane) (x : Side) (f : TuneFields) :
    (s.takeRequest i x f).txPath i x = if (s.exch i x).lastAnswered = some f.seq then s.txPath i x
      else (s.txPath i x).asked f (s.profileAt i).ceiling (s.profileAt i).floor (s.profileAt i).rate := by
  unfold State.takeRequest TxPath.asked
  split
  · rfl
  · cases hf : f.tap with
    | none => rfl
    | restart => exact s.txPath_modTx_same i x fun p => { p with inUse := p.start.get (s.workingClass i) }
    | pre => exact s.processTap_txPath i x .pre f.delta f.seq
    | main => exact s.processTap_txPath i x .main f.delta f.seq
    | post => exact s.processTap_txPath i x .post f.delta f.seq

theorem State.laneMove_takeRequest (s : State) (n : LegId) (i : Lane) (x : Side) (f : TuneFields) :
    s.LaneMove n i x (s.takeRequest i x f) := by
  have htap (tap : Tap) : s.LaneMove n i x (s.processTap i x tap f.delta f.seq) := by
    unfold State.processTap
    exact (s.laneMove_modTx n i x _).trans (State.laneMove_modExch _ n i x _)
  unfold State.takeRequest
  split
  · exact .refl s
  · cases f.tap with
    | none => exact .refl s
    | restart => exact (s.laneMove_modTx n i x _).trans (State.laneMove_modExch _ n i x _)
    | pre => exact htap .pre
    | main => exact htap .main
    | post => exact htap .post

/-! ### The answer, in the statements' words -/

/-- The answers that two exchanges have given are the same, and so is the start indicator. -/
structure Exchange.SameAnswers (e g : Exchange) : Prop where
  given : g.lastGiven = e.lastGiven
  last : g.lastAnswered = e.lastAnswered
  answered : g.answered = e.answered
  warm : g.warm = e.warm

theorem Exchange.SameAnswers.trans {e g h : Exchange} (k : e.SameAnswers g) (l : g.SameAnswers h) : e.SameAnswers h :=
  ⟨l.given.trans k.given, l.last.trans k.last, l.answered.trans k.answered, l.warm.trans k.warm⟩

theorem Exchange.answering_repeat {e : Exchange} {f : TuneFields} (h : e.lastAnswered = some f.seq ∨ f.tap = .none) (C F : Nat)
    (u : Coef) : e.answering f C F u = e := by
  unfold Exchange.answering TuneFields.answer
  split
  · rfl
  · next hn =>
    rw [h.resolve_left hn]

/-- The exchange after a new request: the answer is the last given, and one more. -/
theorem Exchange.answering_new {e : Exchange} {f : TuneFields} (h : e.lastAnswered ≠ some f.seq) {C F : Nat} {u : Coef}
    {a : Answer} (ha : f.answer C F u = some a) :
    e.answering f C F u = { e.give a with warm := if f.tap = .restart then false else e.warm } := by
  unfold Exchange.answering
  rw [if_neg h, ha]

/-- Taking the request fields depends on the answers given alone. -/
theorem Exchange.SameAnswers.answering {e g : Exchange} (h : e.SameAnswers g) (f : TuneFields) (C F : Nat) (u : Coef) :
    (e.answering f C F u).SameAnswers (g.answering f C F u) := by
  unfold Exchange.answering
  rw [h.last]
  split
  · exact h
  · split
    · exact h
    · next a _ =>
      exact ⟨rfl, rfl, congrArg (· + 1) h.answered, by
        show (if f.tap = .restart then false else g.warm) = if f.tap = .restart then false else e.warm
        rw [h.warm]⟩

/-- What a lane's path and exchange hold once a request of a frame has been processed. -/
structure State.Processed (s t : State) (i : Lane) (x : Side) (f : TuneFields) (C F : Nat) (r : RateClass) : Prop where
  path : t.txPath i x = { (if (s.exch i x).lastAnswered = some f.seq then s.txPath i x else (s.txPath i x).asked f C F r) with
    line := (t.txPath i x).line }
  answers : ((s.exch i x).answering f C F (s.txPath i x).inUse).SameAnswers (t.exch i x)

theorem State.Processed.passedOver {s t : State} {i : Lane} {x : Side} {f : TuneFields} {C F : Nat} {r : RateClass}
    (h : s.Processed t i x f C F r) (hf : (s.exch i x).lastAnswered = some f.seq ∨ f.tap = .none) : s.RequestPassedOver t i x := by
  obtain ⟨hpath, hans⟩ := h
  rw [Exchange.answering_repeat hf] at hans
  refine ⟨?_, hans.warm, hans.given, hans.answered, hans.last⟩
  rw [hpath]
  rcases hf with hf | hf
  · rw [if_pos hf]
  · split
    · rfl
    · unfold TxPath.asked
      rw [hf]

/-- A new request on one tap has been answered as R45 to R50 say. -/
theorem State.Processed.tapAnswered {s t : State} {n : LegId} {i : Lane} {x : Side} {f : TuneFields} {C F : Nat}
    (h : s.Processed t i x f C F (s.leg n).profile.rate) (hnew : (s.exch i x).lastAnswered ≠ some f.seq) {tap : Tap}
    (ht : f.tap = tap.request) {u : Coef} (hu : u = (s.txPath i x).inUse) (hfit : u.feasible C F = true) :
    s.RequestAnswered t n i x f u C F := by
  obtain ⟨hpath, hans⟩ := h
  rw [← hu] at hans
  have hanswer : f.answer C F u = some (answerFor C F u tap f.delta f.seq) := by
    unfold TuneFields.answer
    cases tap <;> rw [ht] <;> rfl
  have hcold : f.tap ≠ .restart := by
    rw [ht]
    cases tap <;> simp [Tap.request]
  have hset : (t.txPath i x).inUse = moveTap C F u tap f.delta := by
    rw [hpath, if_neg hnew, hu]
    unfold TxPath.asked
    cases tap <;> rw [ht] <;> rfl
  have htap (v : Tap) (hv : f.tap = v.request) : tap = v := by
    rw [ht] at hv
    cases tap <;> cases v <;> simp [Tap.request] at hv ⊢
  rw [Exchange.answering_new hnew hanswer, if_neg hcold] at hans
  obtain ⟨hgiven, hlast, hcount, hwarm⟩ := hans
  have hgiven : (t.exch i x).lastGiven = answerFor C F u tap f.delta f.seq := hgiven
  refine ⟨fun _ => ?_, fun hv => ?_, fun hv => ?_, fun hv => ?_, hlast, hcount, by rw [hgiven]; rfl, fun _ => ⟨?_, ?_, ?_, hwarm⟩,
    fun ha => ⟨fun hv => ?_, fun hv => ?_, fun hv => ?_⟩, fun hv => absurd hv hcold⟩
  · rw [hset]
    exact moveTap_feasible hfit tap f.delta
  · obtain rfl := htap .pre hv
    rw [hset, moveTap, newTap_eq hfit]
    rfl
  · obtain rfl := htap .main hv
    rw [hset, moveTap, newTap_eq hfit]
    rfl
  · obtain rfl := htap .post hv
    rw [hset, moveTap, newTap_eq hfit]
    rfl
  · rw [hgiven, hset]
    exact moveTap_peak hfit tap f.delta
  · rw [hgiven]
    rfl
  · rw [hgiven]
    exact limitOf_none_iff hfit tap f.delta
  · obtain rfl := htap .pre hv
    rw [hgiven] at ha ⊢
    rw [hset]
    exact limitOf_pre hfit ha
  · obtain rfl := htap .post hv
    rw [hgiven] at ha ⊢
    rw [hset]
    exact limitOf_post hfit ha
  · obtain rfl := htap .main hv
    rw [hgiven] at ha ⊢
    rw [hset]
    exact limitOf_main hfit ha

/-- A new request has been answered as R44 to R51 say. -/
theorem State.Processed.requestAnswered {s t : State} {n : LegId} {i : Lane} {x : Side} {f : TuneFields} {C F : Nat}
    (h : s.Processed t i x f C F (s.leg n).profile.rate) (hnew : (s.exch i x).lastAnswered ≠ some f.seq) (hf : f.tap ≠ .none)
    {u : Coef} (hu : u = (s.txPath i x).inUse) (hfit : u.feasible C F = true) : s.RequestAnswered t n i x f u C F := by
  cases ht : f.tap with
  | none => exact absurd ht hf
  | pre => exact h.tapAnswered (tap := .pre) hnew ht hu hfit
  | main => exact h.tapAnswered (tap := .main) hnew ht hu hfit
  | post => exact h.tapAnswered (tap := .post) hnew ht hu hfit
  | restart =>
    obtain ⟨hpath, hans⟩ := h
    rw [if_neg hnew] at hpath
    have hasked : (s.txPath i x).asked f C F (s.leg n).profile.rate =
        { s.txPath i x with inUse := (s.txPath i x).start.get (s.leg n).profile.rate } := by
      unfold TxPath.asked
      rw [ht]
    rw [Exchange.answering_new hnew (a := { echo := f.seq, applied := 0, outcome := .applied, limit := .none }) (by
      unfold TuneFields.answer
      rw [ht]), if_pos ht] at hans
    obtain ⟨hgiven, hlast, hcount, hwarm⟩ := hans
    have hgiven : (t.exch i x).lastGiven = { echo := f.seq, applied := 0, outcome := .applied, limit := .none } := hgiven
    have hother {q : ReqTap} {P : Prop} (hq : q ≠ .restart) (hv : f.tap = q) : P := absurd (hv.symm.trans ht) hq
    refine ⟨fun k => absurd ht k, hother (by simp), hother (by simp), hother (by simp), hlast, hcount, by rw [hgiven],
      fun k => absurd ht k, fun _ => ⟨hother (by simp), hother (by simp), hother (by simp)⟩, fun _ => ⟨?_, hgiven, hwarm, ?_⟩⟩
    · rw [hpath, hasked]
    · rw [hpath, hasked]

end Sys2Proof.Machine
end

section
/-! PROOF. A TUNE frame taken in TUNE and READY (O27 to O29; R25, R44 to R52, R68 to R71, R78, R80, R86, R102). -/

namespace Sys2Proof.Machine

/-! ### What the frame makes of the exchange (R25) -/

/-- Watch restarted, verdict and count recorded (R25, R30, R31). -/
def Exchange.noted (e : Exchange) (now : Nat) (f : TuneFields) : Exchange :=
  { e with watch := some (now + 640), partnerVerdict := f.verdict, partnerCount := f.count }

/-- What the verdict makes of an exchange in TUNE or READY (R78, R80, R86). -/
def Exchange.moved (e : Exchange) (released : Bool) (v : Verdict) : Exchange :=
  match e.lane, v with
  | .tune, .content => if e.req.mode = .content then { e with lane := .ready } else e
  | .ready, .content =>
    if released then { e with lane := .count, watch := none, zeroSeen := e.partnerCount == 0, countEnded := false } else e
  | .ready, .seeking => e.returned .partnerRevert e.watch
  | _, _ => e

theorem Exchange.moved_keeps (e : Exchange) (released : Bool) (v : Verdict) :
    e.moved released v = { e with
      lane := (e.moved released v).lane, watch := (e.moved released v).watch, ownCount := (e.moved released v).ownCount
      zeroSeen := (e.moved released v).zeroSeen, countEnded := (e.moved released v).countEnded
      returnCause := (e.moved released v).returnCause } := by
  unfold Exchange.moved
  split
  · split <;> rfl
  · split <;> rfl
  · rfl
  · rfl

theorem Exchange.moved_tune {e : Exchange} (h : e.lane = .tune) (released : Bool) (v : Verdict) :
    (e.moved released v).lane = if v = .content ∧ e.req.mode = .content then .ready else .tune := by
  unfold Exchange.moved
  rw [h]
  cases v with
  | seeking => simpa using h
  | content =>
    by_cases hm : e.req.mode = .content
    · simp [hm]
    · simpa [hm] using h

theorem Exchange.moved_ready {e : Exchange} (h : e.lane = .ready) (released : Bool) (v : Verdict) :
    (e.moved released v).lane = if v = .seeking then .tune else if released then .count else .ready := by
  unfold Exchange.moved
  rw [h]
  cases v with
  | seeking => rfl
  | content => cases released <;> simp [h]

theorem Exchange.moved_watch (e : Exchange) {released : Bool} {v : Verdict} (h : (e.moved released v).lane ≠ .count) :
    (e.moved released v).watch = e.watch := by
  unfold Exchange.moved at h ⊢
  split at h
  · split <;> rfl
  · split at h
    · exact absurd rfl h
    · next hr => rw [if_neg hr]
  · rfl
  · rfl

theorem Exchange.moved_stays {e : Exchange} (h : e.lane = .tune) {released : Bool} {v : Verdict}
    (hv : v = .content → e.req.mode ≠ .content) : e.moved released v = e := by
  unfold Exchange.moved
  rw [h]
  cases v with
  | seeking => rfl
  | content => exact if_neg (hv rfl)

theorem Exchange.answering_keeps (e : Exchange) (f : TuneFields) (C F : Nat) (u : Coef) :
    e.answering f C F u = { e with
      lastGiven := (e.answering f C F u).lastGiven, lastAnswered := (e.answering f C F u).lastAnswered
      answered := (e.answering f C F u).answered, warm := (e.answering f C F u).warm } := by
  unfold Exchange.answering
  split
  · rfl
  · split <;> rfl

/-! ### The answer fields (R68, R69) -/

theorem Marks.exhaust_eq (m : Marks) (tap : Tap) (d : Int) :
    m.exhaust tap (decide (0 < d)) =
      { prePlus := m.prePlus || decide (tap = .pre ∧ 0 < d)
        preMinus := m.preMinus || decide (tap = .pre ∧ d ≤ 0)
        mainPlus := m.mainPlus || decide (tap = .main ∧ 0 < d)
        postPlus := m.postPlus || decide (tap = .post ∧ 0 < d)
        postMinus := m.postMinus || decide (tap = .post ∧ d ≤ 0) } := by
  by_cases hd : 0 < d
  · have hn : ¬d ≤ 0 := by omega
    cases tap <;> simp [Marks.exhaust, hd, hn]
  · have hn : d ≤ 0 := by omega
    cases tap <;> simp [Marks.exhaust, hd, hn]

theorem TapsReceived.add_eq (t : TapsReceived) (tap : Tap) (d : Int) :
    t.add tap d =
      { pre := if tap = .pre then max (-128) (min 127 (t.pre + d)) else t.pre
        main := if tap = .main then max (-128) (min 127 (t.main + d)) else t.main
        post := if tap = .post then max (-128) (min 127 (t.post + d)) else t.post } := by
  cases tap <;> rfl

theorem Requester.readAnswer_eq (r : Requester) (f : TuneFields) : r.readAnswer f = r.afterAnswer f := by
  unfold Requester.readAnswer Requester.afterAnswer
  cases r.current with
  | none => rfl
  | some q =>
    have ha : r.accepts q f = true ↔ r.phase = .outstanding ∧ r.firstFrame = false ∧ f.echo = q.seq ∧ f.outcome ≠ .none := by
      unfold Requester.accepts
      simp [and_assoc]
    dsimp only
    simp only [ha]
    split
    · unfold Requester.accept
      rw [Marks.exhaust_eq, TapsReceived.add_eq]
      rfl
    · rfl

/-! ### The state after the frame -/

theorem State.handoverMove_exch (s : State) (n : LegId) (i : Lane) (x : Side) (v : Verdict) :
    (s.handoverMove n i x v).exch i x = (s.exch i x).moved ((s.leg n).released.get x) v := by
  unfold State.handoverMove State.laneState Exchange.moved
  cases hl : (s.exch i x).lane with
  | tune =>
    cases v with
    | seeking => rfl
    | content =>
      dsimp only
      split
      · exact s.exch_modExch_same i x _
      · rfl
  | ready =>
    cases v with
    | seeking =>
      dsimp only
      rw [s.returnToTune_exch_eq, if_pos (show s.laneState i x = .ready from hl)]
    | content =>
      dsimp only
      cases hr : (s.leg n).released.get x with
      | true =>
        rw [if_pos (show s.isReleased n x = true from hr), if_pos rfl]
        exact s.exch_modExch_same i x _
      | false => rw [if_neg (show ¬s.isReleased n x = true by simp [State.isReleased, hr]), if_neg (by simp)]
  | _ => rfl

theorem State.laneMove_handoverMove {s : State} {n : LegId} {i : Lane} (h : s.owner i = some n) (x : Side) (v : Verdict) :
    s.LaneMove n i x (s.handoverMove n i x v) := by
  unfold State.handoverMove
  split
  · split
    · exact s.laneMove_modExch n i x _
    · exact .refl s
  · split
    · exact s.laneMove_modExch n i x _
    · exact .refl s
  · exact State.laneMove_returnToTune h x _
  · exact .refl s

/-- The lane once verdict and count are recorded. -/
def State.noted (s : State) (i : Lane) (x : Side) (f : TuneFields) : State := s.setExch i x ((s.exch i x).noted s.now f)

theorem State.recordHandover_noted (s : State) (i : Lane) (x : Side) (f : TuneFields) :
    (s.startWatch i x).recordHandover i x f = s.noted i x f := by
  unfold State.recordHandover State.startWatch
  rw [State.modExch_modExch]
  rfl

theorem State.laneMove_noted (s : State) (n : LegId) (i : Lane) (x : Side) (f : TuneFields) : s.LaneMove n i x (s.noted i x f) :=
  s.laneMove_modExch n i x fun e => e.noted s.now f

theorem State.tuneInTraining_eq (s : State) (n : LegId) (i : Lane) (x : Side) (f : TuneFields) :
    s.tuneInTraining n i x f = (((s.noted i x f).handoverMove n i x f.verdict).takeRequest i x f).takeAnswer i x f := by
  unfold State.tuneInTraining
  rw [s.recordHandover_noted]

theorem State.laneMove_tuneInTraining {s : State} {n : LegId} {i : Lane} (h : s.owner i = some n) (x : Side) (f : TuneFields) :
    s.LaneMove n i x (s.tuneInTraining n i x f) := by
  rw [s.tuneInTraining_eq]
  exact (((s.laneMove_noted n i x f).trans (State.laneMove_handoverMove (by exact h) x f.verdict)).trans
    (State.laneMove_takeRequest _ n i x f)).trans (State.laneMove_modExch _ n i x _)

/-- The exchange after a TUNE frame taken in TUNE or READY: recorded, moved, its request taken, its answer read (R25). -/
def State.framed (s : State) (n : LegId) (i : Lane) (x : Side) (f : TuneFields) : Exchange :=
  { ((((s.exch i x).noted s.now f).moved ((s.leg n).released.get x) f.verdict).answering f (s.leg n).profile.ceiling
      (s.leg n).profile.floor (s.txPath i x).inUse) with req := (s.exch i x).req.afterAnswer f }

/-- What a TUNE frame taken in TUNE or READY gives lane and path. -/
structure State.FrameTaken (s t : State) (n : LegId) (i : Lane) (x : Side) (f : TuneFields) : Prop where
  exch : t.exch i x = { s.framed n i x f with order := (t.exch i x).order, restarts := (t.exch i x).restarts }
  path : t.txPath i x = { (if (s.exch i x).lastAnswered = some f.seq then s.txPath i x
    else (s.txPath i x).asked f (s.leg n).profile.ceiling (s.leg n).profile.floor (s.leg n).profile.rate) with
      line := (t.txPath i x).line }

theorem State.framed_req (e : Exchange) (now : Nat) (f : TuneFields) (released : Bool) (C F : Nat) (u : Coef) :
    ((((e.noted now f).moved released f.verdict).answering f C F u)).req = e.req := by
  rw [Exchange.answering_keeps, Exchange.moved_keeps]
  rfl

theorem TxPath.asked_line (p : TxPath) (f : TuneFields) (C F : Nat) (r : RateClass) (l : LineOut) :
    ({ p with line := l } : TxPath).asked f C F r = { p.asked f C F r with line := l } := by
  unfold TxPath.asked
  split <;> rfl

theorem State.tuneInTraining_exch {s : State} {n : LegId} {i : Lane} (h : s.owner i = some n) (x : Side) (f : TuneFields) :
    (s.tuneInTraining n i x f).exch i x = s.framed n i x f
      ∧ (s.tuneInTraining n i x f).txPath i x = { (if (s.exch i x).lastAnswered = some f.seq then s.txPath i x
        else (s.txPath i x).asked f (s.leg n).profile.ceiling (s.leg n).profile.floor (s.leg n).profile.rate) with
          line := ((s.tuneInTraining n i x f).txPath i x).line } := by
  have hpath := State.handoverMove_path (s.noted i x f) n i x f.verdict (s.phys i x) x
  have hmove := (s.laneMove_noted n i x f).trans (State.laneMove_handoverMove (by exact h) x f.verdict)
  have hexch : ((s.noted i x f).handoverMove n i x f.verdict).exch i x =
      ((s.exch i x).noted s.now f).moved ((s.leg n).released.get x) f.verdict := by
    rw [State.handoverMove_exch, State.noted, State.exch_setExch_same]
    rfl
  rw [s.tuneInTraining_eq]
  generalize (s.noted i x f).handoverMove n i x f.verdict = v at *
  have hv : v.txPath i x = { s.txPath i x with line := (v.txPath i x).line } := by
    rw [State.txPath_eq_txAt hmove.slices, hpath.1]
    rfl
  have hprofile : v.profileAt i = (s.leg n).profile := by
    unfold State.profileAt
    rw [(hmove.owner i).trans h]
    show (v.leg n).profile = _
    rw [hmove.leg]
  have hlast : (v.exch i x).lastAnswered = (s.exch i x).lastAnswered := by
    rw [hexch, Exchange.moved_keeps]
    rfl
  refine ⟨?_, ?_⟩
  · show ((v.takeRequest i x f).modExch i x fun e => { e with req := e.req.readAnswer f }).exch i x = _
    rw [State.exch_modExch_same, v.takeRequest_exch, hprofile, hexch, hv, State.framed_req, Requester.readAnswer_eq]
    rfl
  · show (v.takeRequest i x f).txPath i x = { (_ : TxPath) with line := ((v.takeRequest i x f).txPath i x).line }
    rw [v.takeRequest_txPath, hprofile, hlast, hv, TxPath.asked_line]
    split <;> rfl

theorem State.frameTaken {s t : State} {n : LegId} {i : Lane} {x : Side} {f : TuneFields} (h : s.owner i = some n)
    (hm : (s.tuneInTraining n i x f).OrdersMove t) : s.FrameTaken t n i x f := by
  obtain ⟨hexch, hpath⟩ := State.tuneInTraining_exch h x f
  have hs := (State.laneMove_tuneInTraining h x f).slices
  refine ⟨?_, ?_⟩
  · rw [← hexch]
    exact hm.exchs i x
  · have hp : t.txPath i x = { (s.tuneInTraining n i x f).txPath i x with line := (t.txPath i x).line } := by
      rw [State.txPath_eq_txAt hm.slices, hm.txs]
      rfl
    rw [hp, hpath]

section
variable {s t : State} {n : LegId} {i : Lane} {x : Side} {f : TuneFields}

theorem State.FrameTaken.processed (h : s.FrameTaken t n i x f) :
    s.Processed t i x f (s.leg n).profile.ceiling (s.leg n).profile.floor (s.leg n).profile.rate := by
  refine ⟨h.path, ?_⟩
  have hsame : (s.exch i x).SameAnswers (((s.exch i x).noted s.now f).moved ((s.leg n).released.get x) f.verdict) := by
    rw [Exchange.moved_keeps]
    exact ⟨rfl, rfl, rfl, rfl⟩
  refine (hsame.answering f _ _ _).trans ?_
  rw [h.exch]
  exact ⟨rfl, rfl, rfl, rfl⟩

theorem State.FrameTaken.lane (h : s.FrameTaken t n i x f) :
    t.laneState i x = (((s.exch i x).noted s.now f).moved ((s.leg n).released.get x) f.verdict).lane := by
  unfold State.laneState
  rw [h.exch, State.framed, Exchange.answering_keeps]

theorem State.FrameTaken.req (h : s.FrameTaken t n i x f) : (t.exch i x).req = (s.exch i x).req.afterAnswer f := by
  rw [h.exch]
  rfl

theorem State.FrameTaken.recorded (h : s.FrameTaken t n i x f) :
    (t.exch i x).partnerVerdict = f.verdict ∧ (t.exch i x).partnerCount = f.count := by
  rw [h.exch, State.framed, Exchange.answering_keeps, Exchange.moved_keeps]
  exact ⟨rfl, rfl⟩

theorem State.FrameTaken.watch (h : s.FrameTaken t n i x f) (hl : t.laneState i x ≠ .count) :
    (t.exch i x).watch = some (s.now + 640) := by
  rw [h.lane] at hl
  have hw := Exchange.moved_watch _ hl
  rw [h.exch, State.framed, Exchange.answering_keeps]
  exact hw

end

/-! ### The frame's event -/

theorem exec_tuneFrame {s : State} {i : Lane} {x : Side} {w : ControlWord} {f : TuneFields} {n : LegId} (hi : s.owner i = some n)
    (hw : readWord w = some (.tune f)) :
    exec (.tuneFrameArrives i x w) s = .next (s.reportIfMoved (s.takeTune n i x f) n i x) := by
  show Host.Outcome.next (s.arrive i x w) = _
  unfold State.arrive
  rw [hi, hw]

theorem State.takeTune_training {s : State} {i : Lane} {x : Side} (n : LegId) (f : TuneFields)
    (hl : s.laneState i x = .tune ∨ s.laneState i x = .ready) : s.takeTune n i x f = s.tuneInTraining n i x f := by
  unfold State.takeTune
  rcases hl with hl | hl <;> rw [hl]

theorem State.takeTune_frameTaken {s : State} {i : Lane} {x : Side} {f : TuneFields} {n : LegId} (hp : s.PairsApart)
    (hi : s.owner i = some n) (hl : s.laneState i x = .tune ∨ s.laneState i x = .ready) :
    s.FrameTaken (s.reportIfMoved (s.takeTune n i x f) n i x) n i x f
      ∧ s.OthersStand (s.reportIfMoved (s.takeTune n i x f) n i x) i x := by
  rw [State.takeTune_training n f hl]
  have hm := State.ordersMove_reportIfMoved (s.tuneInTraining n i x f) s n i x
  exact ⟨State.frameTaken hi hm, (State.laneMove_tuneInTraining hi x f).others hm hp⟩

/-- Settles O27: the frame is taken, its request answered from the set in use. -/
theorem requestIsClampedAndAnswered : Obligations.RequestIsClampedAndAnswered := by
  intro s i x w f n u C F hplan hi hl hw hu hC hF
  obtain ⟨hf, hothers⟩ := State.takeTune_frameTaken (f := f) hplan.pairsApart hi hl
  subst hC hF
  refine ⟨_, exec_tuneFrame hi hw, hothers, fun h => ?_, fun h => ?_, fun hnew htap hfit =>
    hf.processed.requestAnswered hnew htap hu hfit, hf.processed.passedOver⟩
  · rw [hf.lane]
    exact Exchange.moved_tune (e := (s.exch i x).noted s.now f) h _ _
  · rw [hf.lane]
    exact Exchange.moved_ready (e := (s.exch i x).noted s.now f) h _ _

theorem Requester.afterAnswer_idle {r : Requester} (h : r.current = none) (f : TuneFields) : r.afterAnswer f = r := by
  unfold Requester.afterAnswer
  rw [h]

/-- A frame without a request that does not move the lane has its answer read alone. -/
theorem State.tuneInTraining_answer {s : State} {i : Lane} {x : Side} {f : TuneFields} (n : LegId) (hl : s.laneState i x = .tune)
    (ht : f.tap = .none) (hm : (s.exch i x).req.mode = .seeking ∨ f.verdict = .seeking) :
    s.tuneInTraining n i x f = s.setExch i x { s.exch i x with
      watch := some (s.now + 640), partnerVerdict := f.verdict, partnerCount := f.count
      req := (s.exch i x).req.afterAnswer f } := by
  have hexch : (s.noted i x f).exch i x = (s.exch i x).noted s.now f := s.exch_setExch_same i x _
  have hstill : (s.noted i x f).handoverMove n i x f.verdict = s.noted i x f := by
    unfold State.handoverMove State.laneState
    rw [hexch, show ((s.exch i x).noted s.now f).lane = .tune from hl]
    cases hv : f.verdict with
    | seeking => rfl
    | content => exact if_neg (by
        rcases hm with hm | hm
        · show (s.exch i x).req.mode ≠ .content
          rw [hm]
          simp
        · rw [hv] at hm
          simp at hm)
  have hpass : (s.noted i x f).takeRequest i x f = s.noted i x f := by
    unfold State.takeRequest
    rw [ht]
    exact ite_self _
  rw [s.tuneInTraining_eq, hstill, hpass]
  unfold State.takeAnswer State.noted
  show (s.modExch i x fun e => e.noted s.now f).modExch i x _ = _
  rw [State.modExch_modExch]
  show s.setExch i x { (s.exch i x).noted s.now f with req := (s.exch i x).req.readAnswer f } = _
  rw [Requester.readAnswer_eq]
  rfl

/-- Settles O28: the answer fields are read after the request fields. -/
theorem answerIsAcceptedOrIgnored : Obligations.AnswerIsAcceptedOrIgnored := by
  intro s i x w f n r u C F hplan hi hl hw hr hu hC hF
  obtain ⟨hf, hothers⟩ := State.takeTune_frameTaken (f := f) hplan.pairsApart hi hl
  subst hr hC hF
  refine ⟨⟨_, exec_tuneFrame hi hw, hothers, hf.req, fun hok hcontent => ?_, fun hnew htap hfit =>
    hf.processed.requestAnswered hnew htap hu hfit, hf.processed.passedOver, hf.recorded.1, hf.recorded.2, hf.watch⟩,
    fun hlt ht hm => ?_⟩
  · obtain ⟨hnone, hphase, _⟩ := hok
    rw [hf.req]
    refine Requester.afterAnswer_idle (hnone.2 ?_) f
    by_contra k
    obtain ⟨h1, h2⟩ := hphase k
    rcases hcontent with hc | hc
    · rw [h2] at hc
      simp at hc
    · rw [State.laneState, h1] at hc
      simp at hc
  · rw [exec_tuneFrame hi hw, State.takeTune_training n f hl, State.tuneInTraining_answer n hlt ht hm]
    exact congrArg Host.Outcome.next (State.reportIfMoved_setExch rfl)

end Sys2Proof.Machine
end

section
/-! PROOF. Entry to TUNE and to READY, the release gate, fill and invalid frames (O29 to O31; R13, R24, R33, R78, R80 to R86, R93,
R102). -/

namespace Sys2Proof.Machine

/-! ### Groups of a plan in order (R4) -/

theorem State.PlanOk.width {s : State} (h : s.PlanOk) {i : Lane} {n : LegId} (hi : s.owner i = some n) : (s.leg n).width ≠ 0 := by
  obtain ⟨_, howns, _⟩ := h
  have hg := ((howns i n).1 hi).2
  unfold State.inGroup at hg
  omega

theorem State.owner_lanes {s : State} {i : Lane} {n : LegId} (hi : s.owner i = some n) : s.legLanes n ≠ [] :=
  List.ne_nil_of_mem ((s.mem_legLanes n i).2 hi)

/-! ### A WAITING leg whose lanes are all past LISTEN (R93, R102) -/

/-- LEG_STATE joins the queue at an entry to TRAINING (R113). -/
theorem State.enterTraining_queued (u : State) (n : LegId) (cause : LegCause) :
    (u.enterTraining n cause).QueuedNear { seq := u.report.nextSeq, leg := some n, time := u.report.headClock
                                           kind := .legState (u.leg n).state .training cause } 1 := by
  have hz : ((u.modLeg n fun l => l.inTraining u.now).zeroRestarts n).report = u.report := by
    rw [State.zeroRestarts_only]
    rfl
  have hq := State.queueEvent_queuedNear ((u.modLeg n fun l => l.inTraining u.now).zeroRestarts n) (some n)
    (.legState (u.leg n).state .training cause)
  rw [hz] at hq
  exact hq

/-- The attempt that a lane's report begins: budget, restart counts, LEG_STATE, and the release rule tested. -/
theorem State.laneReport_attempts {u : State} {n : LegId} (hs : (u.leg n).state = .waiting) (hp : u.allPastListen n = true)
    (hd : u.bothData n = false) :
    ((u.laneReport n).leg n).state = .training
      ∧ ((u.laneReport n).leg n).budget = some (u.now + 10000 * (u.leg n).profile.budget)
      ∧ (∀ (j : Lane) (y : Side), u.owner j = some n → ((u.laneReport n).exch j y).restarts = 0)
      ∧ u.queuedFirst (u.laneReport n) (some n) (.legState .waiting .training .allSignals)
      ∧ ∀ y : Side, ((u.laneReport n).leg n).released.get y =
          ((u.leg n).released.get y || (u.enterTraining n .allSignals).opensAt n y) := by
  have hleg := u.enterTraining_leg n .allSignals
  have hrest (j : Lane) (y : Side) (hj : u.owner j = some n) := u.enterTraining_restarts .allSignals hj y
  have hq := u.enterTraining_queued n .allSignals
  rw [hs] at hq
  rw [State.laneReport_training hs hp hd]
  generalize u.enterTraining n .allSignals = v at *
  have hstate : (v.leg n).state = .training := by rw [hleg]; rfl
  have hsame := (v.releaseTest n).settle_leg n
  unfold Leg.SameButMargin at hsame
  refine ⟨?_, ?_, fun j y hj => ?_, ((hq.releaseTest n).settle (by omega) n).mem, fun y => ?_⟩
  · rw [hsame, v.releaseTest_leg n]
    exact hstate
  · rw [hsame, v.releaseTest_leg n, hleg]
    rfl
  · rw [State.settle_restarts, State.exch_congr (v.releaseTest_ex n)]
    exact hrest j y hj
  · rw [hsame]
    refine (State.releaseTest_released (.inl hstate) y).trans ?_
    rw [hleg]
    rfl

/-! ### The first frame (R13) -/

theorem State.laneMove_enterTune (s : State) (n : LegId) (i : Lane) (x : Side) : s.LaneMove n i x (s.enterTune i x) :=
  (s.laneMove_modExch n i x _).trans (State.laneMove_startWatch _ n i x)

theorem State.enterTune_exch (s : State) (i : Lane) (x : Side) :
    (s.enterTune i x).exch i x = { s.exch i x with lane := .tune, watch := some (s.now + 640) } := by
  unfold State.enterTune State.startWatch
  rw [State.modExch_modExch]
  exact s.exch_modExch_same i x fun e => { e with lane := .tune, watch := some (s.now + 640) }

/-- What a frame gives a lane that has just entered TUNE it gives the lane as it was in LISTEN. -/
theorem State.Processed.ofListen {s t : State} {i : Lane} {x : Side} {f : TuneFields} {C F : Nat} {r : RateClass}
    (h : (s.enterTune i x).Processed t i x f C F r) : s.Processed t i x f C F r := by
  have hexch := s.enterTune_exch i x
  have hsame : (s.exch i x).SameAnswers ((s.enterTune i x).exch i x) := by
    rw [hexch]
    exact ⟨rfl, rfl, rfl, rfl⟩
  refine ⟨?_, (hsame.answering f C F _).trans h.answers⟩
  have hp := h.path
  rw [hexch] at hp
  exact hp

theorem State.takeTune_listen {s : State} {i : Lane} {x : Side} (n : LegId) (f : TuneFields) (hl : s.laneState i x = .listen) :
    s.takeTune n i x f = if (s.rxPath i x).signal then (s.enterTune i x).tuneInTraining n i x f else s := by
  unfold State.takeTune
  rw [hl]

/-- Settles O29: the lane enters TUNE, the frame is taken there, and the leg hears of it. -/
theorem firstFrameEntersTune : Obligations.FirstFrameEntersTune := by
  intro s i x w f n hplan hi hl hmode hw
  rw [exec_tuneFrame hi hw, State.takeTune_listen n f hl]
  refine ⟨fun h => ?_, fun h => ?_⟩
  · rw [if_neg (by simp [h])]
    exact congrArg Host.Outcome.next (State.reportIfMoved_same rfl)
  rw [if_pos h]
  have hexch := s.enterTune_exch i x
  have hmove := (s.laneMove_enterTune n i x).trans (State.laneMove_tuneInTraining (s := s.enterTune i x) (by exact hi) x f)
  have hframe (t : State) (ht : ((s.enterTune i x).tuneInTraining n i x f).OrdersMove t) : (s.enterTune i x).FrameTaken t n i x f :=
    State.frameTaken (by exact hi) ht
  have hstay : (((s.enterTune i x).exch i x).noted (s.enterTune i x).now f).moved (((s.enterTune i x).leg n).released.get x)
      f.verdict = ((s.enterTune i x).exch i x).noted (s.enterTune i x).now f := by
    refine Exchange.moved_stays ?_ fun _ => ?_
    · rw [hexch]
      rfl
    · rw [hexch]
      show (s.exch i x).req.mode ≠ .content
      rw [hmode]
      simp
  have hlane (t : State) (ht : (s.enterTune i x).FrameTaken t n i x f) : t.laneState i x = .tune := by
    rw [ht.lane, hstay, hexch]
    rfl
  generalize (s.enterTune i x).tuneInTraining n i x f = u at *
  have hu := hlane u (hframe u (.refl u))
  rw [State.reportIfMoved_moved (by rw [hu, hl]; simp)]
  have hreport := u.ordersMove_laneReport n
  have hf := hframe _ hreport
  have hproc : s.Processed (u.laneReport n) i x f _ _ _ := State.Processed.ofListen hf.processed
  have hui := (hmove.owner i).trans hi
  have hd : u.bothData n = false := State.not_bothData hui (x := x) (by simp [hu])
  have hstate : (u.leg n).state = (s.leg n).state := by rw [hmove.leg]
  have hothers (j : Lane) (y : Side) (hne : (j, y) ≠ (i, x)) : u.laneState j y = s.laneState j y :=
    congrArg Exchange.lane (hmove.exchs j y hne)
  have hnow : u.now = s.now := by
    have hm := hmove.lanes
    unfold State.LanesMove at hm
    rw [hm]
  refine ⟨_, rfl, hlane _ hf, hf.watch (by simp [hlane _ hf]), hf.recorded.1, hf.recorded.2, hmove.others hreport hplan.pairsApart,
    fun hnone htap hfit => ?_, fun ht => hproc.passedOver (.inr ht), fun hs hall => ?_, fun hs hsome => ?_⟩
  · exact hproc.requestAnswered (by rw [hnone]; simp) htap rfl hfit
  · have hpast : u.allPastListen n = true := by
      refine (u.allPastListen_iff n).2 ⟨State.owner_lanes hui, fun j hj y => ?_⟩
      by_cases hne : (j, y) = (i, x)
      · obtain ⟨rfl, rfl⟩ := Prod.mk.inj hne
        simp [hu]
      · rw [hothers j y hne]
        obtain ⟨h1, h2, _⟩ := hall j y ((hmove.owner j).symm.trans ((u.mem_legLanes n j).1 hj)) hne
        exact ⟨h1, h2⟩
    obtain ⟨h1, h2, h3, h4, _⟩ := State.laneReport_attempts (hstate.trans hs) hpast hd
    refine ⟨h1, ?_, fun j y hj => h3 j y ((hmove.owner j).trans hj), ?_⟩
    · rw [h2, hnow, hmove.leg]
    · unfold State.queuedFirst at h4 ⊢
      rwa [hmove.lanes.report] at h4
  · obtain ⟨j, hj, y, hne, hlist⟩ := hsome
    have hnot : u.allPastListen n = false := by
      refine Bool.eq_false_iff.2 fun k => ?_
      obtain ⟨_, hall⟩ := (u.allPastListen_iff n).1 k
      have hbad := (hall j ((u.mem_legLanes n j).2 ((hmove.owner j).trans hj)) y).1
      rw [hothers j y hne] at hbad
      exact hbad hlist
    rw [State.laneReport_stands (.inr hnot) hd]
    exact hstate.trans hs

/-! ### Fill and invalid frames (R24, R33) -/

theorem exec_fillFrame {s : State} {i : Lane} {x : Side} {w : ControlWord} {r : FillReason} {n : LegId} (hi : s.owner i = some n)
    (hw : readWord w = some (.fill r)) :
    exec (.fillFrameArrives i x w) s = .next (s.reportIfMoved (s.takeFill i x) n i x) := by
  show Host.Outcome.next (s.arrive i x w) = _
  unfold State.arrive
  rw [hi, hw]

theorem exec_invalidFrame {s : State} {i : Lane} {x : Side} {w : ControlWord} {n : LegId} (hi : s.owner i = some n)
    (hw : readWord w = none) : exec (.invalidFrame i x w) s = .next (s.takeInvalid i x) := by
  show Host.Outcome.next (s.arrive i x w) = _
  unfold State.arrive
  rw [hi, hw]

/-- The lane of a READY exchange that hears a fill frame, before its return to TUNE. -/
def State.filled (s : State) (i : Lane) (x : Side) : State :=
  s.setExch i x { s.exch i x with watch := some (s.now + 640), partnerVerdict := .seeking }

theorem State.filled_eq (s : State) (i : Lane) (x : Side) :
    (s.startWatch i x).modExch i x (fun e => { e with partnerVerdict := .seeking }) = s.filled i x := by
  unfold State.startWatch
  rw [State.modExch_modExch]
  rfl

/-- A partner count heard in COUNT while the lane does not enter DATA. -/
theorem State.countArrived_waits {s : State} {i : Lane} {x : Side} {g : Exchange → Exchange}
    (h : ¬((g (s.exch i x)).countEnded = true ∧ ((g (s.exch i x)).zeroSeen || (g (s.exch i x)).partnerCount == 0) = true)) :
    (s.modExch i x g).countArrived i x =
      s.setExch i x { g (s.exch i x) with zeroSeen := (g (s.exch i x)).zeroSeen || (g (s.exch i x)).partnerCount == 0 } := by
  have heq : (s.modExch i x g).modExch i x (fun e => { e with zeroSeen := e.zeroSeen || e.partnerCount == 0 }) =
      s.setExch i x { g (s.exch i x) with zeroSeen := (g (s.exch i x)).zeroSeen || (g (s.exch i x)).partnerCount == 0 } := by
    rw [State.modExch_modExch]
    rfl
  unfold State.countArrived State.dataIfBoth
  rw [heq, State.exch_setExch_same, if_neg]
  rwa [Bool.and_eq_true]

/-- A lane that returns from READY to TUNE, and its leg's answer (R80, R82). -/
theorem State.returned_reported {s u : State} {n : LegId} {i : Lane} {x : Side} (hp : s.PairsApart) (hi : s.owner i = some n)
    (hl : s.laneState i x = .ready) (hm : s.LaneMove n i x u) (hu : u.laneState i x = .tune)
    (hr : (u.leg n).released.get x = false) :
    (s.reportIfMoved u n i x).laneState i x = .tune ∧ ((s.reportIfMoved u n i x).leg n).released.get x = false
      ∧ ((s.leg n).state ≠ .waiting → s.LegStands (s.reportIfMoved u n i x) n) ∧ s.OthersStand (s.reportIfMoved u n i x) i x := by
  have hreport := u.ordersMove_laneReport n
  have hui := (hm.owner i).trans hi
  have hb : ¬(u.laneState i x).beyondTune := by
    rw [hu]
    unfold LaneState.beyondTune
    simp
  have hstate : (u.leg n).state = (s.leg n).state := by rw [hm.leg]
  rw [State.reportIfMoved_moved (by rw [hu, hl]; simp)]
  refine ⟨(hreport.laneState i x).trans hu, ?_, fun hs => ?_, hm.others hreport hp⟩
  · rw [State.laneReport_opens_none hui hb]
    exact hr
  · have hstands := State.laneReport_stands (s := u) (n := n) (.inl (by rwa [hstate])) (State.not_bothData hui (x := x) (by simp [hu]))
    unfold State.LegStands
    rw [hstands, hm.leg]

/-- Settles O30: a fill frame by lane state, an invalid one counted. -/
theorem fillAndInvalidFrames : Obligations.FillAndInvalidFrames := by
  intro s i x w v r n hplan hi hw hv
  rw [exec_fillFrame hi hw, exec_invalidFrame hi hv]
  refine ⟨fun h => ⟨?_, fun u f hu => ?_⟩, fun h => ?_, fun h => ?_, fun h hc => ?_, fun h => ?_, fun h => ?_, fun h => ?_, fun h => ?_⟩
  · have ht : s.takeFill i x = s := by
      unfold State.takeFill
      rw [h]
    rw [ht, State.reportIfMoved_same rfl]
  · have ht : s.takeTune n i x f = s := by
      unfold State.takeTune
      rw [h]
    rw [exec_tuneFrame hi hu, ht, State.reportIfMoved_same rfl]
  · have ht : s.takeFill i x = s := by
      unfold State.takeFill
      rw [h]
    rw [ht, State.reportIfMoved_same rfl]
  · have ht : s.takeFill i x = s.filled i x := by
      unfold State.takeFill
      rw [h, ← s.filled_eq]
    rw [ht]
    exact congrArg Host.Outcome.next (State.reportIfMoved_setExch rfl)
  · have ht : s.takeFill i x =
        s.setExch i x { s.exch i x with partnerVerdict := .content, partnerCount := 0, zeroSeen := true } := by
      unfold State.takeFill
      rw [h]
      dsimp only
      rw [State.countArrived_waits (by simp [hc])]
      simp
    rw [ht]
    exact congrArg Host.Outcome.next (State.reportIfMoved_setExch rfl)
  · have ht : s.takeFill i x = s.setExch i x { s.exch i x with partnerVerdict := .content, partnerCount := 0 } := by
      unfold State.takeFill
      rw [h]
      rfl
    rw [ht]
    exact congrArg Host.Outcome.next (State.reportIfMoved_setExch rfl)
  · have ht : s.takeFill i x = (s.filled i x).returnToTune i x .partnerRevert := by
      unfold State.takeFill
      rw [h, ← s.filled_eq]
    have hfill : (s.filled i x).exch i x = { s.exch i x with watch := some (s.now + 640), partnerVerdict := .seeking } :=
      s.exch_setExch_same i x _
    have hready : (s.filled i x).laneState i x = .ready := (congrArg Exchange.lane hfill).trans h
    have hexch := (s.filled i x).returnToTune_exch_eq i x .partnerRevert
    rw [if_pos hready, hfill] at hexch
    have hm : s.LaneMove n i x ((s.filled i x).returnToTune i x .partnerRevert) :=
      (s.laneMove_modExch n i x fun e => { e with watch := some (s.now + 640), partnerVerdict := .seeking }).trans
        (State.laneMove_returnToTune (s := s.filled i x) (by exact hi) x _)
    have hrel := State.returnToTune_released (s := s.filled i x) (i := i) (n := n) (by exact hi) x .partnerRevert
    rw [ht]
    generalize (s.filled i x).returnToTune i x .partnerRevert = u at *
    have hu : u.laneState i x = .tune := congrArg Exchange.lane hexch
    obtain ⟨h1, h2, h3, h4⟩ := State.returned_reported hplan.pairsApart hi h hm hu hrel
    have hfinal := (u.ordersMove_reportIfMoved s n i x).exchs i x
    rw [hexch] at hfinal
    refine ⟨_, rfl, h1, ?_, ?_, ?_, ?_, ?_, ?_, h2, h3, h4⟩ <;> rw [hfinal] <;> rfl
  · have ht : s.takeInvalid i x = s.setExch i x { s.exch i x with badFrames := min 255 ((s.exch i x).badFrames + 1) } := if_neg h
    rw [ht]
  · have ht : s.takeInvalid i x = s := if_pos h
    rw [ht]

end Sys2Proof.Machine
end

section
/-! PROOF. The release gate (O31; R71, R78, R80 to R86, R93, R122). -/

namespace Sys2Proof.Machine

/-! ### A lane that has become READY -/

theorem Side.eq_opposite {x z : Side} (h : z ≠ x) : z = x.opposite := by
  cases z <;> cases x
  · exact absurd rfl h
  · rfl
  · rfl
  · exact absurd rfl h

/-- Lane `i` side `x` has become READY, and nothing else has moved. -/
structure State.Readied (s v : State) (n : LegId) (i : Lane) (x : Side) : Prop where
  slices : v.slices = s.slices
  leg : v.leg n = s.leg n
  ready : v.laneState i x = .ready
  lanes : ∀ (j : Lane) (y : Side), (j, y) ≠ (i, x) → v.laneState j y = s.laneState j y
  others : ∀ t : State, v.OrdersMove t → s.OthersStand t i x
  now : v.now = s.now
  clock : v.report.headClock = s.report.headClock

section
variable {s v : State} {n : LegId} {i : Lane} {x : Side}

theorem State.Readied.owner (h : s.Readied v n i x) (j : Lane) : v.owner j = s.owner j := State.owner_congr h.slices j

theorem State.Readied.lane_iff (h : s.Readied v n i x) (j : Lane) (y : Side) :
    v.laneState j y = if (j, y) = (i, x) then .ready else s.laneState j y := by
  split
  · next k =>
    obtain ⟨rfl, rfl⟩ := Prod.mk.inj k
    exact h.ready
  · next k => exact h.lanes j y k

/-- Where every lane is READY each side that is not released opens (R84). -/
theorem State.opensAt_ready {u : State} (hw : (u.leg n).width ≠ 0) (hi : u.owner i = some n)
    (hall : ∀ (j : Lane) (y : Side), u.owner j = some n → u.laneState j y = .ready) (y : Side) :
    ((u.leg n).released.get y || u.opensAt n y) = true := by
  cases hr : (u.leg n).released.get y with
  | true => rfl
  | false =>
    refine (u.opensAt_iff n y).2 ⟨fun z => ⟨hw, State.owner_lanes hi, fun j hj => .inl ?_⟩, ⟨i, (u.mem_legLanes n i).2 hi, ?_⟩, hr⟩
    · exact hall j z ((u.mem_legLanes n j).1 hj)
    · exact hall i y hi

/-- In an attempt or a recovery the release rule is tested where a lane becomes READY. -/
theorem State.Readied.gateTested (h : s.Readied v n i x) (hplan : s.PlanOk) (hi : s.owner i = some n)
    (hs : (s.leg n).state = .training ∨ (s.leg n).state = .lost) : s.GateTested (v.laneReport n) n i x := by
  have hvi := (h.owner i).trans hi
  have hd : v.bothData n = false := State.not_bothData hvi (x := x) (by simp [h.ready])
  have hvs : (v.leg n).state = .training ∨ (v.leg n).state = .lost := by rwa [h.leg]
  have hstands := State.laneReport_stands (s := v) (n := n) (.inl (by rcases hvs with k | k <;> simp [k])) hd
  have hrel := State.laneReport_released hvs hd
  have hw : (v.leg n).width ≠ 0 := by
    rw [h.leg]
    exact hplan.width hi
  have hreport := v.ordersMove_laneReport n
  refine ⟨(hreport.laneState i x).trans h.ready, ?_, ?_, h.others _ hreport, fun hall hnone => ⟨fun hready => ?_, fun j y hj hne hjt => ?_⟩,
    fun hside hopp => ?_⟩
  · unfold State.LegStands
    rw [hstands, h.leg]
  · rw [hstands, h.leg]
  · have hopen (y : Side) : ((v.leg n).released.get y || v.opensAt n y) = true := by
      refine State.opensAt_ready hw hvi (fun j z hj => ?_) y
      rw [h.lane_iff]
      split
      · rfl
      · next hne => exact hready j z ((h.owner j).symm.trans hj) hne
    refine Sides.eq_of_get fun y => ?_
    rw [hrel y, hopen y]
    cases y <;> rfl
  · have hclosed (z : Side) : v.opensAt n z = false := by
      refine State.opensAt_lane ((h.owner j).trans hj) (x := y) ?_ z
      rw [h.lanes j y hne, hjt]
      unfold LaneState.beyondTune
      simp
    refine Sides.eq_of_get fun z => ?_
    rw [hrel z, hclosed z, h.leg, hnone]
    cases z <;> rfl
  · have hopp' (j : Lane) (hj : v.owner j = some n) : v.laneState j x.opposite = .count ∨ v.laneState j x.opposite = .data
        ∨ v.laneState j x.opposite = .ready ∧ (v.leg n).released.get x.opposite = true := by
      rw [h.lanes j x.opposite (fun k => Side.opposite_ne x (Prod.mk.inj k).2), h.leg]
      exact hopp j ((h.owner j).symm.trans hj)
    have hclosed : v.opensAt n x.opposite = false := by
      refine State.opensAt_false fun ho => ?_
      obtain ⟨_, ⟨j, hj, hready⟩, hr⟩ := ho
      rcases hopp' j ((v.mem_legLanes n j).1 hj) with k | k | ⟨_, k⟩
      · simp [k] at hready
      · simp [k] at hready
      · simp [k] at hr
    refine ⟨?_, by rw [hrel, hclosed, h.leg, Bool.or_false]⟩
    rw [hrel]
    cases hr : (v.leg n).released.get x with
    | true => rfl
    | false =>
      have hbx (j : Lane) (hj : v.owner j = some n) : (v.laneState j x).beyondTune := by
        rw [h.lane_iff]
        split
        · exact .inl rfl
        · next hne => exact hside j ((h.owner j).symm.trans hj) fun k => hne (by rw [k])
      have hbo (j : Lane) (hj : v.owner j = some n) : (v.laneState j x.opposite).beyondTune := by
        rcases hopp' j hj with k | k | k
        · exact .inr (.inl k)
        · exact .inr (.inr k)
        · exact .inl k.1
      refine (v.opensAt_iff n x).2 ⟨fun z => ⟨hw, State.owner_lanes hvi, fun j hj => ?_⟩,
        ⟨i, (v.mem_legLanes n i).2 hvi, h.ready⟩, hr⟩
      have hj := (v.mem_legLanes n j).1 hj
      by_cases hz : z = x
      · rw [hz]
        exact hbx j hj
      · rw [Side.eq_opposite hz]
        exact hbo j hj

/-- A WAITING leg whose lanes are all READY enters TRAINING with both sides released (R93). -/
theorem State.Readied.trains (h : s.Readied v n i x) (hplan : s.PlanOk) (hi : s.owner i = some n)
    (hs : (s.leg n).state = .waiting)
    (hall : ∀ (j : Lane) (y : Side), s.owner j = some n → (j, y) ≠ (i, x) → s.laneState j y = .ready) :
    (v.laneReport n).laneState i x = .ready ∧ s.OthersStand (v.laneReport n) i x ∧ ((v.laneReport n).leg n).state = .training
      ∧ ((v.laneReport n).leg n).budget = some (s.now + 10000 * (s.leg n).profile.budget)
      ∧ ((v.laneReport n).leg n).released = ⟨true, true⟩
      ∧ ∃ q ∈ (v.laneReport n).report.events, q.leg = some n ∧ q.time = s.report.headClock
          ∧ q.kind = .legState .waiting .training .allSignals := by
  have hvi := (h.owner i).trans hi
  have hready (j : Lane) (y : Side) (hj : v.owner j = some n) : v.laneState j y = .ready := by
    rw [h.lane_iff]
    split
    · rfl
    · next hne => exact hall j y ((h.owner j).symm.trans hj) hne
  have hd : v.bothData n = false := State.not_bothData hvi (x := x) (by simp [h.ready])
  have hpast : v.allPastListen n = true := by
    refine (v.allPastListen_iff n).2 ⟨State.owner_lanes hvi, fun j hj y => ?_⟩
    simp [hready j y ((v.mem_legLanes n j).1 hj)]
  obtain ⟨h1, h2, _, h4, h5⟩ := State.laneReport_attempts (h.leg ▸ hs : (v.leg n).state = .waiting) hpast hd
  have htrain := v.enterTraining_leg n .allSignals
  have hmove := v.ordersMove_enterTraining n .allSignals
  have hreport := v.ordersMove_laneReport n
  refine ⟨(hreport.laneState i x).trans h.ready, h.others _ hreport, h1, ?_, Sides.eq_of_get fun y => ?_, _, h4, rfl, h.clock, rfl⟩
  · rw [h2, h.now, h.leg]
  · have hw : ((v.enterTraining n .allSignals).leg n).width ≠ 0 := by
      rw [htrain]
      show (v.leg n).width ≠ 0
      rw [h.leg]
      exact hplan.width hi
    have hopen := State.opensAt_ready (u := v.enterTraining n .allSignals) hw ((State.owner_congr hmove.slices i).trans hvi)
      (fun j z hj => (hmove.laneState j z).trans (hready j z ((State.owner_congr hmove.slices j).symm.trans hj))) y
    rw [htrain] at hopen
    rw [h5 y]
    refine Eq.trans hopen ?_
    cases y <;> rfl

end

/-! ### How a lane becomes READY -/

theorem State.LaneMove.now {n : LegId} {i : Lane} {x : Side} {s t : State} (h : s.LaneMove n i x t) : t.now = s.now := by
  have hm := h.lanes
  unfold State.LanesMove at hm
  rw [hm]

theorem State.noted_laneState (s : State) (i : Lane) (x : Side) (f : TuneFields) :
    (s.noted i x f).laneState i x = s.laneState i x := by
  unfold State.laneState State.noted
  rw [State.exch_setExch_same]
  rfl

/-- A frame that does not return the lane to TUNE keeps the leg records. -/
theorem State.tuneInTraining_leg {s : State} (n : LegId) {i : Lane} {x : Side} {f : TuneFields}
    (h : s.laneState i x = .tune ∨ f.verdict = .content) (m : LegId) : (s.tuneInTraining n i x f).leg m = s.leg m := by
  have hlane := s.noted_laneState i x f
  have hmove : ((s.noted i x f).handoverMove n i x f.verdict).legs = s.legs := by
    unfold State.handoverMove
    rw [hlane]
    split
    · split <;> rfl
    · split <;> rfl
    · next h1 h2 => rcases h with h | h <;> simp_all
    · rfl
  have htake (v : State) : (v.takeRequest i x f).legs = v.legs := by
    unfold State.takeRequest
    split
    · rfl
    · split <;> rfl
  rw [s.tuneInTraining_eq]
  exact State.leg_congr ((htake _).trans hmove) m

/-- A CONTENT frame makes the lane of a content requester READY (R78). -/
theorem State.readied_frame {s : State} {n : LegId} {i : Lane} {x : Side} {f : TuneFields} (hp : s.PairsApart)
    (hi : s.owner i = some n) (hl : s.laneState i x = .tune) (hv : f.verdict = .content) (hm : (s.exch i x).req.mode = .content) :
    s.Readied (s.tuneInTraining n i x f) n i x := by
  have hmove := State.laneMove_tuneInTraining hi x f
  refine ⟨hmove.slices, State.tuneInTraining_leg n (.inl hl) n, ?_, fun j y hne => congrArg Exchange.lane (hmove.exchs j y hne),
    fun t ht => hmove.others ht hp, hmove.now, by rw [hmove.lanes.report]⟩
  rw [(State.frameTaken hi (.refl _)).lane]
  exact (Exchange.moved_tune (e := (s.exch i x).noted s.now f) hl _ _).trans (if_pos ⟨hv, hm⟩)

/-- A record that makes the receiver content does so too, after such a frame (R71, R78). -/
theorem State.readied_content {s : State} {n : LegId} {i : Lane} {x : Side} (hp : s.PairsApart) (hl : s.laneState i x = .tune)
    (hv : (s.exch i x).partnerVerdict = .content) (low : Bool) (e : Nat) :
    s.Readied (s.becomeContent n i x low e) n i x := by
  have hmove := s.laneMove_modExch n i x Exchange.contented
  have hqueue : (s.setExch i x (s.exch i x).contented).CondsMove
      ((s.setExch i x (s.exch i x).contented).queueEvent (some n) (.laneTuned x i low e (s.exch i x).req.taps)) :=
    State.queueEvent_condsMove _ _ _
  have hexch : (s.setExch i x (s.exch i x).contented).exch i x = (s.exch i x).contented := s.exch_setExch_same i x _
  rw [s.becomeContent_eq]
  refine ⟨rfl, rfl, ?_, fun j y hne => ?_, fun t ht => State.LaneMove.others hmove (hqueue.orders.trans ht) hp, rfl, rfl⟩
  · rw [hqueue.orders.laneState, State.laneState, hexch]
    exact if_pos ⟨hv, hl⟩
  · rw [hqueue.orders.laneState]
    exact congrArg Exchange.lane (hmove.exchs j y hne)

/-- What either event does to a lane in TUNE that it makes READY. -/
theorem exec_readies {s : State} {i : Lane} {x : Side} {c : Instr} {w : ControlWord} {f : TuneFields} {eye rp rq : BitVec 7}
    {n : LegId} (hp : s.PairsApart) (hi : s.owner i = some n) (hw : readWord w = some (.tune f)) (hl : s.laneState i x = .tune)
    (hc : c = .tuneFrameArrives i x w ∧ f.verdict = .content ∧ (s.exch i x).req.mode = .content
      ∨ c = .measurementRecord i x eye rp rq ∧ (s.exch i x).partnerVerdict = .content ∧ (s.exch i x).req.mode = .seeking
        ∧ (s.exch i x).req.phase = .idle ∧ (s.exch i x).req.stale = false ∧ (s.rxPath i x).signal = true
        ∧ (s.exch i x).req.AsksNothing (s.leg n).profile eye.toNat rp.toInt rq.toInt
        ∧ ((s.leg n).profile.target ≤ eye.toNat ∨ (s.leg n).profile.minimum ≤ eye.toNat)) :
    ∃ v, s.Readied v n i x ∧ exec c s = .next (v.laneReport n)
      ∧ (c = .tuneFrameArrives i x w → ((v.laneReport n).exch i x).watch = some (s.now + 640)) := by
  rcases hc with ⟨rfl, hv, hm⟩ | ⟨rfl, hv, hm, hph, hst, hsig, hask, heye⟩
  · have hr := State.readied_frame hp hi hl hv hm
    have hreport := State.ordersMove_laneReport (s.tuneInTraining n i x f) n
    have hf := State.frameTaken hi hreport
    refine ⟨_, hr, ?_, fun _ => hf.watch (by simp [hreport.laneState, hr.ready])⟩
    rw [exec_tuneFrame hi hw, State.takeTune_training n f (.inl hl), State.reportIfMoved_moved (by rw [hr.ready, hl]; simp)]
  · have hr := State.readied_content (n := n) hp hl hv (decide (eye.toNat < (s.leg n).profile.target)) eye.toNat
    refine ⟨_, hr, ?_, fun k => by simp at k⟩
    rw [exec_record_training eye rp rq (e := eye.toNat) (vp := rp.toInt) (vq := rq.toInt) hi (by simp [hsig]) (by simp [hsig])
        (by simp [hsig]) (.inl hl), State.requesterRecord_seeking hph hst hm, State.policyTake_content hask heye,
      State.reportIfMoved_moved (by rw [hr.ready, hl]; simp)]

/-- Settles O31: READY by frame or record and the rule's test, COUNT behind the gate, the return to TUNE. -/
theorem releaseGate : Obligations.ReleaseGate := by
  intro s i x c w f eye rp rq n hplan hi hw
  refine ⟨fun hl hc => ?_, fun hv hl hr => ?_, fun hv hl hr => ?_, fun hv hl ht hq => ?_⟩
  · obtain ⟨v, hready, hexec, hwatch⟩ := exec_readies hplan.pairsApart hi hw hl hc
    rw [hexec]
    exact ⟨fun hs => ⟨_, rfl, hready.gateTested hplan hi hs, hwatch⟩, fun hs hall => ⟨_, rfl, hready.trains hplan hi hs hall⟩⟩
  · obtain ⟨hf, hothers⟩ := State.takeTune_frameTaken (f := f) hplan.pairsApart hi (.inr hl)
    have hmoved : ((s.exch i x).noted s.now f).moved ((s.leg n).released.get x) f.verdict =
        { (s.exch i x).noted s.now f with lane := .count, watch := none, zeroSeen := f.count == 0, countEnded := false } := by
      unfold Exchange.moved
      rw [show ((s.exch i x).noted s.now f).lane = .ready from hl, hv, hr]
      rfl
    refine ⟨_, exec_tuneFrame hi hw, ?_, ?_, ?_, hf.recorded.2, ?_, hothers⟩
    · rw [hf.lane, hmoved]
    · rw [hf.exch, State.framed, hmoved, Exchange.answering_keeps]
    · rw [hf.exch, State.framed, hmoved, Exchange.answering_keeps]
      rfl
    · rw [hf.exch, State.framed, hmoved, Exchange.answering_keeps]
      exact beq_iff_eq
  · have hlane := Exchange.moved_ready (e := (s.exch i x).noted s.now f) hl ((s.leg n).released.get x) f.verdict
    rw [hv, hr] at hlane
    obtain ⟨hf, hothers⟩ := State.takeTune_frameTaken (f := f) hplan.pairsApart hi (.inr hl)
    have hsame : (s.tuneInTraining n i x f).laneState i x = s.laneState i x := by
      rw [(State.frameTaken hi (.refl _)).lane, hv, hr, hl]
      exact hlane
    rw [exec_tuneFrame hi hw]
    rw [State.takeTune_training n f (.inr hl), State.reportIfMoved_same hsame] at hf hothers ⊢
    exact ⟨_, rfl, hsame.trans hl, State.tuneInTraining_leg n (.inr hv) n, hf.watch (by simp [hsame, hl]), hothers⟩
  · have hlane := Exchange.moved_ready (e := (s.exch i x).noted s.now f) hl ((s.leg n).released.get x) f.verdict
    rw [hv, if_pos rfl] at hlane
    have hm := State.laneMove_tuneInTraining hi x f
    have hrel : ((s.tuneInTraining n i x f).leg n).released.get x = false := by
      have hnoted : (s.noted i x f).laneState i x = .ready := (s.noted_laneState i x f).trans hl
      have hmove : (s.noted i x f).handoverMove n i x f.verdict = (s.noted i x f).returnToTune i x .partnerRevert := by
        unfold State.handoverMove
        rw [hnoted, hv]
      have hpass (v : State) : v.takeRequest i x f = v := by
        unfold State.takeRequest
        rw [ht]
        exact ite_self _
      rw [s.tuneInTraining_eq, hmove, hpass]
      exact State.returnToTune_released (s := s.noted i x f) (by exact hi) x _
    have hu : (s.tuneInTraining n i x f).laneState i x = .tune := by
      rw [(State.frameTaken hi (.refl _)).lane, hv]
      exact hlane
    obtain ⟨_, h2, h3, h4⟩ := State.returned_reported hplan.pairsApart hi hl hm hu hrel
    obtain ⟨hf, _⟩ := State.takeTune_frameTaken (f := f) hplan.pairsApart hi (.inr hl)
    have hmoved : ((s.exch i x).noted s.now f).moved ((s.leg n).released.get x) f.verdict =
        ((s.exch i x).noted s.now f).returned .partnerRevert (some (s.now + 640)) := by
      unfold Exchange.moved
      rw [show ((s.exch i x).noted s.now f).lane = .ready from hl, hv]
      rfl
    rw [exec_tuneFrame hi hw]
    rw [State.takeTune_training n f (.inr hl)] at hf ⊢
    refine ⟨_, rfl, h4, ?_, h2, h3⟩
    rw [hf.exch, State.framed, hmoved, Exchange.answering_repeat (.inr ht), Requester.afterAnswer_idle hq]
    unfold Exchange.returned Exchange.noted
    rw [hv]

end Sys2Proof.Machine
end

section
/-! PROOF. The handover (O34; R25, R42, R87, R88, R104, R113, R129, R154). -/

namespace Sys2Proof.Machine

/-! ### The entry to DATA (R42, R88, R129) -/

theorem State.laneMove_enterData (s : State) (n : LegId) (i : Lane) (x : Side) : s.LaneMove n i x (s.enterData i x) := by
  unfold State.enterData
  exact ((s.laneMove_modTx n i x _).trans (State.laneMove_modRx _ n i x _)).trans (State.laneMove_modExch _ n i x _)

theorem State.enterData_spec {s : State} {i : Lane} {n : LegId} (hi : s.owner i = some n) (x : Side) :
    (s.enterData i x).laneState i x = .data
      ∧ (s.enterData i x).txPath i x = (s.txPath i x).learn (s.leg n).profile.rate
      ∧ ((s.enterData i x).rxPath i x).eye.phase = .priming := by
  have hrate : s.workingClass i = (s.leg n).profile.rate := by
    unfold State.workingClass State.profileAt
    rw [hi]
  refine ⟨?_, ?_, ?_⟩
  · unfold State.laneState State.enterData
    rw [State.exch_modExch_same]
  · rw [← hrate]
    exact s.txPath_modTx_same i x fun p => p.learn (s.workingClass i)
  · exact congrArg (fun p : RxPath => p.eye.phase) (State.rxPath_modRx_same (s.modTx i x fun p => p.learn (s.workingClass i)) i x
      fun r => { r with eye := { r.eye with phase := .priming, valid := false, run := 0 } })

/-- The lane is about to enter DATA: only its counts and the line have moved. -/
structure State.Arriving (s v : State) (n : LegId) (i : Lane) (x : Side) : Prop where
  move : s.LaneMove n i x v
  leg : v.leg n = s.leg n
  path : v.txPath i x = { s.txPath i x with line := (v.txPath i x).line }

section
variable {s v : State} {n : LegId} {i : Lane} {x : Side}

theorem State.LaneMove.unreported {s t : State} (h : s.LaneMove n i x t) : s.Unreported t := by
  refine ⟨by rw [h.lanes.report], fun m => ?_⟩
  by_cases hm : m = n
  · rw [hm, h.leg]
  · rw [h.legs m hm]

/-- What the leg reports at its entry to UP (R104, R113, R154). -/
theorem State.ReportsBeside.enterUp {s u : State} {acts : List ReportAct} {skipped : List LegId}
    (h : s.ReportsBeside u acts skipped) (n : LegId) :
    s.ReportsBeside (u.enterUp n) (acts ++ (attemptEnds n ++ [.queues (some n) (.legState (u.leg n).state .up .bothData)])) skipped := by
  have hleg := u.modLeg_unreported n (fun l => { l with
    state := .up, budget := none, cut := none, retry := 0, episode := none
    kept := if (u.leg n).state = .lost then ⟨false, false⟩ else l.kept }) fun _ => rfl
  rw [← List.append_assoc, u.enterUp_eq]
  exact ((h.unreported hleg).endAttemptConditions n).queueLegState n (u.leg n).state .up .bothData

/-- A leg in an attempt or a recovery whose last lane has entered DATA enters UP (R104). -/
theorem State.LaneMove.entersUp {u t : State} (h : s.LaneMove n i x u) (hleg : u.leg n = s.leg n) (hplan : s.PlanOk)
    (hi : s.owner i = some n) (hlane : u.laneState i x = .data) (hs : (s.leg n).state = .training ∨ (s.leg n).state = .lost)
    (hall : ∀ (j : Lane) (y : Side), s.owner j = some n → (j, y) ≠ (i, x) → s.laneState j y = .data) (ht : t = u.laneReport n) :
    (t.leg n).state = .up ∧ (t.leg n).retry = 0 ∧ (t.leg n).budget = none ∧ (t.leg n).cut = none
      ∧ (∀ (j : Lane) (y : Side), s.owner j = some n → (t.exch j y).order = .data)
      ∧ t.condition (some n) .trainTimeout = false ∧ t.condition (some n) .sideFail = false
      ∧ t.condition (some n) .legCut = false
      ∧ s.Reports t (attemptEnds n ++ [.queues (some n) (.legState (s.leg n).state .up .bothData)] ++ s.marginActs t n) := by
  have hui := (h.owner i).trans hi
  have hus : (u.leg n).state = .training ∨ (u.leg n).state = .lost := by rwa [hleg]
  have hd : u.bothData n = true := by
    refine (u.bothData_iff n).2 ⟨by rw [hleg]; exact hplan.width hi, State.owner_lanes hui, fun j hj y => ?_⟩
    by_cases hne : (j, y) = (i, x)
    · obtain ⟨rfl, rfl⟩ := Prod.mk.inj hne
      exact hlane
    · exact (congrArg Exchange.lane (h.exchs j y hne)).trans
        (hall j y ((h.owner j).symm.trans ((u.mem_legLanes n j).1 hj)) hne)
  have hup := u.enterUp_leg n
  have hreports : s.Reports (u.enterUp n) (attemptEnds n ++ [.queues (some n) (.legState (u.leg n).state .up .bothData)]) := by
    have hr := State.ReportsBeside.enterUp (State.ReportsBeside.unreported (State.Reports.refl s) h.unreported) n
    rwa [List.nil_append] at hr
  rw [hleg] at hreports
  have hslices := (u.ordersMove_enterUp n).slices.trans h.slices
  rw [State.laneReport_up hus hd] at ht
  generalize u.enterUp n = w at *
  have hlow : w.condition (some n) .marginLow = s.condition (some n) .marginLow := by
    rw [hreports.condition]
    simp [attemptEnds, conditionAfter]
  have hsettled := hreports.settle n hlow
  have hsame := w.settle_leg n
  have horder (j : Lane) (y : Side) (hj : s.owner j = some n) : ((w.settle n).exch j y).order = .data := by
    rw [State.settle_order _ ((State.owner_congr hslices j).trans hj), State.orderFor_up (by rw [hup]; rfl)]
  unfold Leg.SameButMargin at hsame
  rw [← ht] at hsame hsettled horder
  refine ⟨by rw [hsame, hup]; rfl, by rw [hsame, hup]; rfl, by rw [hsame, hup]; rfl, by rw [hsame, hup]; rfl, horder,
    ?_, ?_, ?_, hsettled⟩
  all_goals
    rw [hsettled.condition, List.foldl_append, State.marginActs_conditionAfter _ _ _ (by simp)]
    simp [attemptEnds, conditionAfter]

/-- The lane enters DATA (R42, R88, R129). -/
theorem State.Arriving.entersData (h : s.Arriving v n i x) (hplan : s.PlanOk) (hi : s.owner i = some n) {t : State}
    (ht : t = (v.enterData i x).laneReport n) :
    t.laneState i x = .data ∧ (t.txPath i x).inUse = (s.txPath i x).inUse
      ∧ (t.txPath i x).learned.get (s.leg n).profile.rate = (s.txPath i x).inUse
      ∧ (t.txPath i x).learnedValid.get (s.leg n).profile.rate = true
      ∧ (t.rxPath i x).eye.phase = .priming ∧ s.OthersStand t i x := by
  have hvi : v.owner i = some n := (h.move.owner i).trans hi
  have hmove := h.move.trans (v.laneMove_enterData n i x)
  obtain ⟨hlane, hpath, heye⟩ := State.enterData_spec hvi x
  rw [h.path, h.leg] at hpath
  generalize v.enterData i x = u at *
  have hreport := u.ordersMove_laneReport n
  rw [← ht] at hreport
  have htx : t.txPath i x = { u.txPath i x with line := (t.txPath i x).line } := by
    rw [State.txPath_eq_txAt hreport.slices, hreport.txs]
    rfl
  rw [hpath] at htx
  refine ⟨(hreport.laneState i x).trans hlane, by rw [htx]; rfl, ?_, ?_, by rw [hreport.rxPath]; exact heye,
    hmove.others hreport hplan.pairsApart⟩
  · rw [htx]
    exact ByClass.get_set_same _ _ _
  · rw [htx]
    exact ByClass.get_set_same _ _ _

end

/-! ### The events that complete a handover -/

theorem State.setExch_setExch (s : State) (i : Lane) (x : Side) (e g : Exchange) :
    (s.setExch i x e).setExch i x g = s.setExch i x g := s.modExch_modExch i x (fun _ => e) fun _ => g

/-- A count heard in COUNT that completes the handover (R31, R88). -/
theorem State.countArrived_enters {s : State} {i : Lane} {x : Side} {g : Exchange → Exchange}
    (h : (g (s.exch i x)).countEnded = true) (h0 : (g (s.exch i x)).partnerCount = 0) :
    (s.modExch i x g).countArrived i x = (s.setExch i x { g (s.exch i x) with zeroSeen := true }).enterData i x := by
  have heq : (s.modExch i x g).modExch i x (fun e => { e with zeroSeen := e.zeroSeen || e.partnerCount == 0 }) =
      s.setExch i x { g (s.exch i x) with zeroSeen := true } := by
    rw [State.modExch_modExch]
    show s.setExch i x { g (s.exch i x) with zeroSeen := (g (s.exch i x)).zeroSeen || (g (s.exch i x)).partnerCount == 0 } = _
    rw [h0]
    simp
  unfold State.countArrived State.dataIfBoth
  rw [heq, State.exch_setExch_same, if_pos]
  simp [h]

theorem State.arriving_setExch (s : State) (n : LegId) (i : Lane) (x : Side) (e : Exchange) : s.Arriving (s.setExch i x e) n i x :=
  ⟨s.laneMove_modExch n i x fun _ => e, rfl, rfl⟩

/-- The count-0 frame of lane `i` side `x` has ended: its line follows the order (R87). -/
def State.countEnds (s : State) (i : Lane) (x : Side) (zeroSeen : Bool) : State :=
  { s with ex := (s.setExch i x { s.exch i x with countEnded := true, zeroSeen }).ex
           tx := (s.setTxAt (s.phys i x) x { s.txPath i x with line := LineOut.gap.obey (s.exch i x).order }).tx }

theorem State.countEnds_exch (s : State) (i : Lane) (x : Side) (z : Bool) :
    (s.countEnds i x z).exch i x = { s.exch i x with countEnded := true, zeroSeen := z } := s.exch_setExch_same i x _

/-- The end of the frame forgets what the counts were before it. -/
theorem State.countEnds_reset (s : State) (i : Lane) (x : Side) (z : Bool) (e : Exchange)
    (he : { e with countEnded := true, zeroSeen := z } = { s.exch i x with countEnded := true, zeroSeen := z })
    (ho : e.order = (s.exch i x).order) : (s.setExch i x e).countEnds i x z = s.countEnds i x z := by
  unfold State.countEnds
  rw [State.exch_setExch_same, State.setExch_setExch, he, ho]
  rfl

theorem State.endCountZero_ends {s : State} {i : Lane} {x : Side} {n : LegId} (hi : s.owner i = some n)
    (hl : (s.exch i x).lane = .count) (h0 : (s.exch i x).ownCount = 0) (hc : (s.exch i x).countEnded = false) :
    s.endCountZero i x = s.reportIfMoved ((s.countEnds i x (s.exch i x).zeroSeen).dataIfBoth i x) n i x := by
  unfold State.endCountZero
  rw [hi]
  dsimp only
  rw [if_pos ⟨hl, h0, hc⟩]
  rfl

theorem State.arriving_countEnds (s : State) (n : LegId) (i : Lane) (x : Side) (z : Bool) :
    s.Arriving (s.countEnds i x z) n i x := by
  have hm : s.LaneMove n i x (s.countEnds i x z) :=
    (s.laneMove_modExch n i x fun e => { e with countEnded := true, zeroSeen := z }).trans
      (State.laneMove_modTx _ n i x fun p => { p with line := LineOut.gap.obey (s.exch i x).order })
  refine ⟨hm, rfl, ?_⟩
  have hp : (s.countEnds i x z).txPath i x = { s.txPath i x with line := LineOut.gap.obey (s.exch i x).order } :=
    s.txPath_modTx_same i x fun p => { p with line := LineOut.gap.obey (s.exch i x).order }
  rw [hp]

/-- Each of the three events that complete a handover takes the lane to DATA. -/
theorem exec_completes {s : State} {i : Lane} {x : Side} {c : Instr} {w : ControlWord} {r : FillReason} {f : TuneFields} {n : LegId}
    (hi : s.owner i = some n) (hl : s.laneState i x = .count) (h0 : (s.exch i x).ownCount = 0)
    (hc : c = .countZeroFrameEnd i x ∧ (s.exch i x).countEnded = false ∧ (s.exch i x).zeroSeen = true
      ∨ c = .fillFrameArrives i x w ∧ readWord w = some (.fill r) ∧ (s.exch i x).countEnded = true
      ∨ c = .tuneFrameArrives i x w ∧ readWord w = some (.tune f) ∧ f.verdict = .content ∧ f.count = 0
        ∧ (s.exch i x).countEnded = true) :
    ∃ v, s.Arriving v n i x ∧ exec c s = .next ((v.enterData i x).laneReport n) := by
  have hmoves (v : State) (hv : s.Arriving v n i x) :
      s.reportIfMoved (v.enterData i x) n i x = (v.enterData i x).laneReport n := by
    refine State.reportIfMoved_moved ?_
    rw [(State.enterData_spec ((hv.move.owner i).trans hi) x).1, hl]
    simp
  rcases hc with ⟨rfl, hce, hz⟩ | ⟨rfl, hw, hce⟩ | ⟨rfl, hw, hv, hcount, hce⟩
  · have ha := s.arriving_countEnds n i x (s.exch i x).zeroSeen
    refine ⟨_, ha, ?_⟩
    have hdata : (s.countEnds i x (s.exch i x).zeroSeen).dataIfBoth i x = (s.countEnds i x (s.exch i x).zeroSeen).enterData i x := by
      unfold State.dataIfBoth
      rw [s.countEnds_exch, if_pos]
      simp [hz]
    show Host.Outcome.next (s.endCountZero i x) = _
    rw [State.endCountZero_ends hi hl h0 hce, hdata, hmoves _ ha]
  · have ha := s.arriving_setExch n i x { s.exch i x with partnerVerdict := .content, partnerCount := 0, zeroSeen := true }
    refine ⟨_, ha, ?_⟩
    have ht : s.takeFill i x =
        (s.setExch i x { s.exch i x with partnerVerdict := .content, partnerCount := 0, zeroSeen := true }).enterData i x := by
      unfold State.takeFill
      rw [hl]
      exact State.countArrived_enters hce rfl
    rw [exec_fillFrame hi hw, ht, hmoves _ ha]
  · have ha := s.arriving_setExch n i x
      { s.exch i x with partnerVerdict := f.verdict, partnerCount := f.count, zeroSeen := true }
    refine ⟨_, ha, ?_⟩
    have ht : s.takeTune n i x f =
        (s.setExch i x { s.exch i x with partnerVerdict := f.verdict, partnerCount := f.count, zeroSeen := true }).enterData i x := by
      unfold State.takeTune
      rw [hl, hv]
      dsimp only
      rw [← hv]
      exact State.countArrived_enters (g := fun e => { e with partnerVerdict := f.verdict, partnerCount := f.count }) hce hcount
    rw [exec_tuneFrame hi hw, ht, hmoves _ ha]

/-- Settles O34: counts heard, the wait in COUNT, the entry to DATA and to UP. -/
theorem handoverCompletes : Obligations.HandoverCompletes := by
  intro s i x c w r f n hplan hi
  refine ⟨fun hw hv => ⟨fun hl hwait => ?_, fun hl => ?_⟩, fun hl h0 => ?_, fun hl h0 hc => ?_⟩
  · have ht : s.takeTune n i x f = s.setExch i x { s.exch i x with
        partnerVerdict := .content, partnerCount := f.count, zeroSeen := (s.exch i x).zeroSeen || decide (f.count = 0) } := by
      unfold State.takeTune
      rw [hl, hv]
      dsimp only
      rw [State.recordHandover, State.countArrived_waits, hv]
      · rfl
      · rcases hwait with h | ⟨h, h'⟩
        · simp [h]
        · simp only [h, Bool.false_or, beq_iff_eq, not_and]
          exact fun _ => h'
    rw [exec_tuneFrame hi hw, ht]
    exact congrArg Host.Outcome.next (State.reportIfMoved_setExch rfl)
  · have ht : s.takeTune n i x f =
        s.setExch i x { s.exch i x with partnerVerdict := .content, partnerCount := f.count } := by
      unfold State.takeTune
      rw [hl, hv]
      dsimp only
      rw [← hv]
      rfl
    rw [exec_tuneFrame hi hw, ht]
    exact congrArg Host.Outcome.next (State.reportIfMoved_setExch rfl)
  · have hexch : (s.setExch i x { s.exch i x with countEnded := false, zeroSeen := false }).exch i x =
        { s.exch i x with countEnded := false, zeroSeen := false } := s.exch_setExch_same i x _
    show Host.Outcome.next ((s.setExch i x { s.exch i x with countEnded := false, zeroSeen := false }).endCountZero i x) = _
    rw [State.endCountZero_ends (n := n) (by exact hi) (by rw [hexch]; exact hl) (by rw [hexch]; exact h0) (by rw [hexch]), hexch]
    have hends := s.countEnds_reset i x false { s.exch i x with countEnded := false, zeroSeen := false } rfl rfl
    have hwait : (s.countEnds i x false).dataIfBoth i x = s.countEnds i x false := by
      unfold State.dataIfBoth
      rw [s.countEnds_exch]
      rfl
    show Host.Outcome.next (State.reportIfMoved _
      (((s.setExch i x { s.exch i x with countEnded := false, zeroSeen := false }).countEnds i x false).dataIfBoth i x) n i x) = _
    rw [hends, hwait, State.reportIfMoved_same (by
      rw [State.laneState, State.laneState, s.countEnds_exch, hexch])]
    unfold State.countEnds
    cases (s.exch i x).order <;> rfl
  · obtain ⟨v, ha, hexec⟩ := exec_completes (n := n) hi hl h0 hc
    rw [hexec]
    obtain ⟨h1, h2, h3, h4, h5, h6⟩ := ha.entersData hplan hi rfl
    exact ⟨_, rfl, h1, h2, h3, h4, h5, h6, fun hs hall => (ha.move.trans (v.laneMove_enterData n i x)).entersUp ha.leg hplan hi
      (State.enterData_spec ((ha.move.owner i).trans hi) x).1 hs hall rfl⟩

end Sys2Proof.Machine
end

section
/-! PROOF. A partner revert from COUNT and DATA (O32; R90 to R93, R16). -/

namespace Sys2Proof.Machine

section
variable {s b c t : State} {n : LegId} {i : Lane} {x : Side} {f : TuneFields}

/-! ### The lane that returns (R90, R91) -/

/-- What a lane that has returned to TUNE keeps, its leg answers with the lane itself as it was left. -/
theorem State.Reverted.after (h : s.Reverted b n i x f) (hs : c.slices = b.slices)
    (he : c.exch i x = { b.exch i x with order := (c.exch i x).order, restarts := (c.exch i x).restarts })
    (hr : c.rxPath i x = b.rxPath i x) (ht : c.txPath i x = b.txPath i x) (hl : (c.leg n).released.get x = false) :
    s.Reverted c n i x f := by
  obtain ⟨hexch, _, hsl, hrx, htx⟩ := h
  exact ⟨by rw [he, hexch], hl, hs.trans hsl, hr.trans hrx, ht.trans htx⟩

theorem LineOut.stopService_eq (l : LineOut) : l.stopService = if l = .data then .gap else l := by
  unfold LineOut.stopService
  split
  · next h => rw [if_pos rfl]
  · next h => rw [if_neg h]

theorem State.returnToTune_rx (s : State) (i : Lane) (x : Side) (cause : ReturnCause) :
    (s.returnToTune i x cause).rx = (s.outOfService i x).rx := by
  unfold State.returnToTune
  dsimp only
  split <;> rfl

/-- The lane as the frame's event leaves it before its leg's answer. -/
def State.hears (s : State) (i : Lane) (x : Side) (f : TuneFields) : State :=
  (s.recordHandover i x f).returnToTune i x .partnerRevert

theorem State.laneMove_hears (hi : s.owner i = some n) (x : Side) (f : TuneFields) : s.LaneMove n i x (s.hears i x f) :=
  (s.laneMove_modExch n i x _).trans (State.laneMove_returnToTune (s := s.recordHandover i x f) (by exact hi) x _)

theorem State.hears_reverted (hi : s.owner i = some n) (hl : s.laneState i x = .count ∨ s.laneState i x = .data)
    (hv : f.verdict = .seeking) : s.Reverted (s.hears i x f) n i x f := by
  have hexch : (s.recordHandover i x f).exch i x = { s.exch i x with partnerVerdict := f.verdict, partnerCount := f.count } :=
    s.exch_modExch_same i x _
  have hlane : (s.recordHandover i x f).laneState i x = s.laneState i x := by
    unfold State.laneState
    rw [hexch]
  have hslices := (State.laneMove_hears hi x f).slices
  have hro : ((s.recordHandover i x f).outOfService i x).slices = s.slices :=
    (State.laneMove_outOfService (s := s.recordHandover i x f) (n := n) (by exact hi) x).slices
  refine ⟨?_, State.returnToTune_released (s := s.recordHandover i x f) (by exact hi) x _, hslices, ?_, ?_⟩
  · unfold State.hears
    rw [State.returnToTune_exch_eq, if_neg (by rw [hlane]; rcases hl with h | h <;> simp [h]), hexch]
    unfold Exchange.returned
    rw [hv]
    rfl
  · have hrx : (s.hears i x f).rxPath i x = ((s.recordHandover i x f).outOfService i x).rxPath i x :=
      State.rxPath_congr (State.returnToTune_rx _ i x _) (hslices.trans hro.symm) i x
    rw [hrx, State.outOfService_rxPath, hlane]
    rfl
  · have htx : (s.hears i x f).txPath i x = ((s.recordHandover i x f).outOfService i x).txPath i x :=
      State.txPath_congr (State.returnToTune_tx _ i x _) (hslices.trans hro.symm) i x
    rw [htx, State.outOfService_txPath]
    show ({ s.txPath i x with line := (s.txPath i x).line.stopService } : TxPath) = _
    rw [LineOut.stopService_eq]

theorem State.hears_restarts (s : State) {n : LegId} {i : Lane} (hi : s.owner i = some n) {x : Side} (f : TuneFields) (j : Lane)
    (y : Side) : ((s.hears i x f).exch j y).restarts = (s.exch j y).restarts := by
  by_cases h : (j, y) = (i, x)
  · obtain ⟨rfl, rfl⟩ := Prod.mk.inj h
    have hexch : (s.recordHandover j y f).exch j y = { s.exch j y with partnerVerdict := f.verdict, partnerCount := f.count } :=
      s.exch_modExch_same j y _
    unfold State.hears
    rw [State.returnToTune_exch_eq, hexch]
    rfl
  · rw [(State.laneMove_hears hi x f).exchs j y h]

/-! ### The leg's answer (R92) -/

/-- In an attempt or a recovery the answer to a lane in TUNE derives the orders afresh, and no more. -/
theorem State.laneReport_tuning (hs : (c.leg n).state = .training ∨ (c.leg n).state = .lost) (hi : c.owner i = some n)
    (hl : c.laneState i x = .tune) : c.laneReport n = c.settle n := by
  have hb : ¬(c.laneState i x).beyondTune := by
    rw [hl]
    unfold LaneState.beyondTune
    simp
  rw [State.laneReport_attempt hs (State.not_bothData hi (x := x) (by simp [hl])),
    State.releaseTest_idle fun y => State.opensAt_lane hi hb y]

/-- Orders derived afresh leave the line of a lane that follows none. -/
theorem State.settle_txPath (hp : c.PairsApart) (hi : c.owner i = some n) (hl : c.laneState i x = .tune) :
    (c.settle n).txPath i x = c.txPath i x := by
  obtain ⟨hs, htx, _⟩ := ((c.deriveOrders n).marginCheck_condsMove n).fabric
  have hout : (c.exch i x).inService = false := by
    unfold Exchange.inService
    rw [show (c.exch i x).lane = .tune from hl]
    rfl
  unfold State.settle
  rw [State.txPath_congr htx hs, State.deriveOrders_txPath hp hi, hout]
  rfl

/-- The lane that has returned stands as it is while its leg's orders settle. -/
theorem State.Reverted.settled (h : s.Reverted c n i x f) (hp : c.PairsApart) (hi : c.owner i = some n) :
    s.Reverted (c.settle n) n i x f := by
  have hl : c.laneState i x = .tune := by
    unfold State.laneState
    rw [h.1]
  have hm := c.ordersMove_settle n
  refine h.after hm.slices (hm.exchs i x) (hm.rxPath i x) (State.settle_txPath hp hi hl) ?_
  rw [c.settle_leg n]
  exact h.2.1

theorem State.orderFor_standby (h : (c.leg n).state = .training) (j : Lane) (y : Side) : c.orderFor n j y = .standby := by
  unfold State.orderFor
  rw [h]

/-- A SEEKING frame in COUNT or DATA: the lane returns, the leg answers, and hears of the lane (R82, R90, R92). -/
theorem exec_partnerRevert {w : ControlWord} (hi : s.owner i = some n) (hw : readWord w = some (.tune f)) (hv : f.verdict = .seeking)
    (hl : s.laneState i x = .count ∨ s.laneState i x = .data) (hr : s.Reverted ((s.hears i x f).revertLeg n x) n i x f)
    (hs : (((s.hears i x f).revertLeg n x).leg n).state = .training ∨ (((s.hears i x f).revertLeg n x).leg n).state = .lost) :
    exec (.tuneFrameArrives i x w) s = .next (((s.hears i x f).revertLeg n x).settle n) := by
  have ht : s.takeTune n i x f = (s.hears i x f).revertLeg n x := by
    unfold State.takeTune
    rcases hl with hl | hl <;> rw [hl, hv] <;> rfl
  have hlane : ((s.hears i x f).revertLeg n x).laneState i x = .tune := by
    unfold State.laneState
    rw [hr.1]
  rw [exec_tuneFrame hi hw, ht, State.reportIfMoved_moved (by rw [hlane]; rcases hl with h | h <;> simp [h]),
    State.laneReport_tuning hs ((State.owner_congr hr.2.2.1 i).trans hi) hlane]

end

/-! ### From UP (R92) -/

theorem State.enterTraining_tx (s : State) (n : LegId) (cause : LegCause) : (s.enterTraining n cause).tx = s.tx := by
  have hz : ((s.modLeg n fun l => l.inTraining s.now).zeroRestarts n).tx = s.tx := by
    rw [State.zeroRestarts_only]
    rfl
  exact hz

/-- An attempt that begins leaves the lane that has returned. -/
theorem State.Reverted.trains {s b : State} {n : LegId} {i : Lane} {x : Side} {f : TuneFields} (h : s.Reverted b n i x f)
    (cause : LegCause) : s.Reverted (b.enterTraining n cause) n i x f := by
  have hm := b.ordersMove_enterTraining n cause
  refine h.after hm.slices (hm.exchs i x) (hm.rxPath i x) (State.txPath_congr (b.enterTraining_tx n cause) hm.slices i x) ?_
  rw [b.enterTraining_leg n]
  exact h.2.1

theorem State.revertLeg_up {b : State} {n : LegId} (h : (b.leg n).state = .up) (x : Side) :
    b.revertLeg n x = b.enterTraining n .partnerRevert := by
  unfold State.revertLeg
  rw [h]

/-- What a leg in an attempt begun by a partner revert holds once its orders have settled. -/
theorem State.settled_training {s c : State} {n : LegId} {q : EventRecord} (hs : (c.leg n).state = .training)
    (hsl : c.slices = s.slices) (hq : c.QueuedNear q 1)
    (hrest : ∀ (j : Lane) (y : Side), s.owner j = some n → (c.exch j y).restarts = 0) :
    (∀ (j : Lane) (y : Side), s.owner j = some n →
        ((c.settle n).exch j y).order = .standby ∧ ((c.settle n).exch j y).restarts = 0)
      ∧ q ∈ (c.settle n).report.events := by
  refine ⟨fun j y hj => ⟨?_, ?_⟩, (hq.settle (by omega) n).mem⟩
  · rw [State.settle_order _ ((State.owner_congr hsl j).trans hj), State.orderFor_standby hs]
  · rw [State.settle_restarts, hrest j y hj]

/-! ### From HELD: the lanes whose flag is ABSENT start afresh (R92) -/

/-- One lane on the way from HELD to TRAINING: back to LISTEN where its flag is ABSENT. -/
def State.dropAbsent (i : Lane) (x : Side) (u : State) : State :=
  if u.laneState i x = .data ∧ (u.rxPath i x).signal = false then u.enterListen i x else u

theorem State.revertLeg_held {b : State} {n : LegId} (h : (b.leg n).state = .held) (x : Side) :
    b.revertLeg n x =
      ((b.modLeg n fun l => { l with bridge := none, episode := none }).enterTraining n .partnerRevert).onExchanges
        (b.legLanes n) State.dropAbsent := by
  have hs := ((b.modLeg n fun l => { l with bridge := none, episode := none }).ordersMove_enterTraining n .partnerRevert).slices
  unfold State.revertLeg
  rw [h]
  dsimp only
  rw [State.legLanes_congr hs]
  rfl

/-- What the lanes dropped so far have left alone: the lane `i` side `x` that is in TUNE, and all of the state but lanes. -/
structure State.Dropping (d u : State) (n : LegId) (i : Lane) (x : Side) : Prop where
  service : d.ServiceMoves u
  exch : u.exch i x = d.exch i x
  tx : u.txAt (d.phys i x) x = d.txAt (d.phys i x) x
  rx : u.rxAt (d.phys i x) x = d.rxAt (d.phys i x) x
  released : (u.leg n).released.get x = false
  signals : ∀ (k : Lane) (y : Side), (u.rxAt k y).signal = (d.rxAt k y).signal
  restarts : ∀ (j : Lane) (y : Side), (u.exch j y).restarts = (d.exch j y).restarts

theorem Sides.ClearedAt.stays {x y : Side} {p q : Sides Bool} (h : p.ClearedAt y q) (hp : p.get x = false) : q.get x = false := by
  obtain rfl | rfl := h
  · exact hp
  · cases x <;> cases y <;> simp_all [Sides.get, Sides.set]

theorem State.Dropping.step {d u : State} {n : LegId} {i j : Lane} {x : Side} (h : d.Dropping u n i x) (hp : d.PairsApart)
    (hd : d.laneState i x = .tune) (hj : d.owner j = some n) (y : Side) : d.Dropping (State.dropAbsent j y u) n i x := by
  unfold State.dropAbsent
  split
  · next hc =>
    have huj := (h.service.owner j).trans hj
    have hm := State.laneMove_enterListen huj y
    have hne : (i, x) ≠ (j, y) := fun k => by
      obtain ⟨rfl, rfl⟩ := Prod.mk.inj k
      have hlane : u.laneState i x = .tune := (congrArg Exchange.lane h.exch).trans hd
      rw [hlane] at hc
      simp at hc
    have hphys : (d.phys i x, x) ≠ (u.phys j y, y) := by
      rw [State.phys_congr h.service.lanes.slices]
      exact d.phys_ne hp hne
    refine ⟨h.service.trans (u.serviceMoves_enterListen j y), (hm.exchs i x hne).trans h.exch, (hm.txs _ _ hphys).trans h.tx,
      (hm.rxs _ _ hphys).trans h.rx, hm.released.stays h.released, fun k z => (State.enterListen_signals huj y k z).trans (h.signals k z),
      fun k z => ?_⟩
    by_cases he : (k, z) = (j, y)
    · obtain ⟨rfl, rfl⟩ := Prod.mk.inj he
      exact (u.enterListen_restarts k z).trans (h.restarts k z)
    · rw [hm.exchs k z he]
      exact h.restarts k z
  · exact h

theorem State.dropping {d : State} {n : LegId} {i : Lane} {x : Side} (hp : d.PairsApart) (hd : d.laneState i x = .tune)
    (hr : (d.leg n).released.get x = false) : d.Dropping (d.onExchanges (d.legLanes n) State.dropAbsent) n i x :=
  State.onExchanges_keeps (P := fun u => d.Dropping u n i x)
    (fun j hj y _ hu => hu.step hp hd ((d.mem_legLanes n j).1 hj) y) ⟨.refl d, rfl, rfl, rfl, hr, fun _ _ => rfl, fun _ _ => rfl⟩

/-- The fate of one lane in DATA: kept with its flag PRESENT, in LISTEN else. -/
structure State.Fated (d u : State) (n : LegId) (j : Lane) (y : Side) : Prop where
  service : d.ServiceMoves u
  signal : (u.rxAt (d.phys j y) y).signal = (d.rxAt (d.phys j y) y).signal
  present : (d.rxAt (d.phys j y) y).signal = true → u.laneState j y = .data
  absent : (d.rxAt (d.phys j y) y).signal = false →
    u.laneState j y = .data ∨ (u.exch j y).Fresh ∧ u.LoadedAt (d.leg n).profile (d.phys j y) y

theorem State.Fated.step {d u : State} {n : LegId} {j k : Lane} {y : Side} (h : d.Fated u n j y) (hk : d.owner k = some n)
    (z : Side) : d.Fated (State.dropAbsent k z u) n j y := by
  unfold State.dropAbsent
  split
  · next hc =>
    have huk := (h.service.owner k).trans hk
    have hservice := h.service.trans (u.serviceMoves_enterListen k z)
    have hsig := (State.enterListen_signals huk z (d.phys j y) y).trans h.signal
    by_cases he : (j, y) = (k, z)
    · obtain ⟨rfl, rfl⟩ := Prod.mk.inj he
      have hoff : (d.rxAt (d.phys j y) y).signal = false := by
        rw [← h.signal, ← State.rxPath_eq_rxAt h.service.lanes.slices]
        exact hc.2
      refine ⟨hservice, hsig, fun hp => by rw [hoff] at hp; simp at hp, fun _ => .inr ⟨u.enterListen_fresh j y, ?_⟩⟩
      rw [← h.service.profile n, ← State.phys_congr h.service.lanes.slices]
      exact u.enterListen_loaded huk y
    · have hexch : (u.enterListen k z).exch j y = u.exch j y := u.enterListen_exch_ne he
      refine ⟨hservice, hsig, fun hp => (congrArg Exchange.lane hexch).trans (h.present hp), fun hp => ?_⟩
      rcases h.absent hp with hd | ⟨hf, hl⟩
      · exact .inl ((congrArg Exchange.lane hexch).trans hd)
      · refine .inr ⟨by rwa [hexch], State.enterListen_keeps_loaded_by (h.service.profile n) huk z hl⟩
  · exact h

/-- A lane whose flag is ABSENT is in LISTEN once it has been visited. -/
theorem State.Fated.visited {d u : State} {n : LegId} {j : Lane} {y : Side} (h : d.Fated u n j y) (hj : d.owner j = some n)
    (hoff : (d.rxAt (d.phys j y) y).signal = false) :
    ((State.dropAbsent j y u).exch j y).Fresh ∧ (State.dropAbsent j y u).LoadedAt (d.leg n).profile (d.phys j y) y := by
  have hdata : (State.dropAbsent j y u).laneState j y ≠ .data := by
    unfold State.dropAbsent
    split
    · rw [u.enterListen_laneState j y]
      simp
    · next hc =>
      intro k
      refine hc ⟨k, ?_⟩
      rw [State.rxPath_eq_rxAt h.service.lanes.slices, h.signal]
      exact hoff
  exact ((h.step hj y).absent hoff).resolve_left hdata

theorem State.fated {d : State} {n : LegId} {j : Lane} {y : Side} (hj : d.owner j = some n) (hd : d.laneState j y = .data) :
    if (d.rxPath j y).signal then (d.onExchanges (d.legLanes n) State.dropAbsent).laneState j y = .data
    else ((d.onExchanges (d.legLanes n) State.dropAbsent).exch j y).Fresh
      ∧ (d.onExchanges (d.legLanes n) State.dropAbsent).LoadedAt (d.leg n).profile (d.phys j y) y := by
  have hstart : d.Fated d n j y := ⟨.refl d, rfl, fun _ => hd, fun _ => .inl hd⟩
  have hkeeps (k : Lane) (hk : k ∈ d.legLanes n) (z : Side) (u : State) (hu : d.Fated u n j y) :
      d.Fated (State.dropAbsent k z u) n j y := hu.step ((d.mem_legLanes n k).1 hk) z
  split
  · next hs =>
    exact (State.onExchanges_keeps (P := fun u => d.Fated u n j y) hkeeps hstart).present hs
  · next hs =>
    have hoff : (d.rxAt (d.phys j y) y).signal = false := Bool.eq_false_iff.2 hs
    refine State.onExchanges_reaches (P := fun u => d.Fated u n j y)
      (Q := fun u => (u.exch j y).Fresh ∧ u.LoadedAt (d.leg n).profile (d.phys j y) y) ((d.mem_legLanes n j).2 hj) hkeeps
      (fun u hu => hu.visited hj hoff) (fun k hk z u hne hu ⟨hf, hl⟩ => ?_) hstart
    have huk := (hu.service.owner k).trans ((d.mem_legLanes n k).1 hk)
    unfold State.dropAbsent
    split
    · exact ⟨by rwa [u.enterListen_exch_ne hne.symm], State.enterListen_keeps_loaded_by (hu.service.profile n) huk z hl⟩
    · exact ⟨hf, hl⟩

/-- What the leg in HELD becomes as its attempt begins (R92). -/
def State.heldTrains (b : State) (n : LegId) : State :=
  (b.modLeg n fun l => { l with bridge := none, episode := none }).enterTraining n .partnerRevert

theorem State.heldTrains_leg (b : State) (n : LegId) :
    (b.heldTrains n).leg n = ({ b.leg n with bridge := none, episode := none } : Leg).inTraining b.now := by
  unfold State.heldTrains
  rw [State.enterTraining_leg, State.leg_modLeg_same]
  rfl

theorem State.heldTrains_ordersMove (b : State) (n : LegId) : b.OrdersMove (b.heldTrains n) :=
  (b.ordersMove_modLeg n _).trans (State.ordersMove_enterTraining _ n _)

theorem State.heldTrains_queued (b : State) (n : LegId) :
    (b.heldTrains n).QueuedNear { seq := b.report.nextSeq, leg := some n, time := b.report.headClock
                                  kind := .legState (b.leg n).state .training .partnerRevert } 1 := by
  have h := (b.modLeg n fun l => { l with bridge := none, episode := none }).enterTraining_queued n .partnerRevert
  rw [State.leg_modLeg_same] at h
  exact h

theorem State.Reverted.heldTrains {s b : State} {n : LegId} {i : Lane} {x : Side} {f : TuneFields} (h : s.Reverted b n i x f) :
    s.Reverted (b.heldTrains n) n i x f :=
  (h.after (c := b.modLeg n fun l => { l with bridge := none, episode := none }) rfl rfl rfl rfl (by
    rw [State.leg_modLeg_same]
    exact h.2.1)).trains .partnerRevert

/-- The lane that has returned stands while the lanes whose flag is ABSENT are dropped. -/
theorem State.Reverted.dropped {s d c : State} {n : LegId} {i : Lane} {x : Side} {f : TuneFields} (h : s.Reverted d n i x f)
    (hc : d.Dropping c n i x) : s.Reverted c n i x f := by
  have hs := hc.service.lanes.slices
  refine h.after hs (by rw [hc.exch]) ?_ ?_ hc.released
  · exact (State.rxPath_eq_rxAt hs i x).trans hc.rx
  · exact (State.txPath_eq_txAt hs i x).trans hc.tx

/-! ### The cases by leg state -/

section
variable {s : State} {i : Lane} {x : Side} {w : ControlWord} {f : TuneFields} {n : LegId}

theorem exec_partnerRevert_up (hp : s.PairsApart) (hlanes : s.LanesOk) (hi : s.owner i = some n) (hw : readWord w = some (.tune f))
    (hv : f.verdict = .seeking) (hs : (s.leg n).state = .up) :
    ∃ t, exec (.tuneFrameArrives i x w) s = .next t ∧ s.Reverted t n i x f ∧ s.OthersStand t i x
      ∧ t.leg n = { s.leg n with
          state := .training, budget := some (s.now + 10000 * (s.leg n).profile.budget), released := (t.leg n).released
          kept := (t.leg n).kept, conds := { (s.leg n).conds with marginLow := (t.leg n).conds.marginLow } }
      ∧ (t.leg n).released.get x.opposite = (s.leg n).released.get x.opposite
      ∧ (∀ (j : Lane) (y : Side), s.owner j = some n → (t.exch j y).order = .standby ∧ (t.exch j y).restarts = 0)
      ∧ s.queuedFirst t (some n) (.legState .up .training .partnerRevert) := by
  have hm := State.laneMove_hears hi x f
  have hstate : ((s.hears i x f).leg n).state = .up := by rw [hm.leg]; exact hs
  have hl := hlanes.data (.inl hs) hi x
  have hr := (State.hears_reverted (f := f) hi (.inr hl) hv).trains .partnerRevert
  have hexec := exec_partnerRevert hi hw hv (.inr hl) (by rw [State.revertLeg_up hstate]; exact hr)
    (by rw [State.revertLeg_up hstate, State.enterTraining_leg]; exact .inl rfl)
  rw [State.revertLeg_up hstate] at hexec
  have hleg := (s.hears i x f).enterTraining_leg n .partnerRevert
  have horders := (s.hears i x f).ordersMove_enterTraining n .partnerRevert
  have hq := (s.hears i x f).enterTraining_queued n .partnerRevert
  have hrest (j : Lane) (y : Side) (hj : s.owner j = some n) :=
    (s.hears i x f).enterTraining_restarts .partnerRevert ((hm.owner j).trans hj) y
  have hmleg := hm.leg
  have hrel := hm.released
  rw [hstate, hm.lanes.report] at hq
  rw [hm.now] at hleg
  generalize (s.hears i x f).enterTraining n .partnerRevert = c at *
  have hslices := horders.slices.trans hm.slices
  obtain ⟨hall, hmem⟩ := State.settled_training (n := n) (c := c) (by rw [hleg]; rfl) hslices hq hrest
  have hsame := c.settle_leg n
  unfold Leg.SameButMargin at hsame
  refine ⟨_, hexec, hr.settled (hp.congr hslices) ((State.owner_congr hslices i).trans hi),
    hm.others (horders.trans (c.ordersMove_settle n)) hp, ?_, ?_, hall, hmem⟩
  · rw [hsame, hleg, hmleg]
    rfl
  · rw [hsame, hleg]
    exact hrel.opposite

theorem exec_partnerRevert_held (hp : s.PairsApart) (hlanes : s.LanesOk) (hi : s.owner i = some n) (hw : readWord w = some (.tune f))
    (hv : f.verdict = .seeking) (hs : (s.leg n).state = .held) :
    ∃ t, exec (.tuneFrameArrives i x w) s = .next t ∧ s.Reverted t n i x f
      ∧ t.leg n = { s.leg n with
          state := .training, budget := some (s.now + 10000 * (s.leg n).profile.budget), bridge := none, episode := none
          released := (t.leg n).released, kept := (t.leg n).kept
          conds := { (s.leg n).conds with marginLow := (t.leg n).conds.marginLow } }
      ∧ (∀ (j : Lane) (y : Side), s.owner j = some n →
          (t.exch j y).order = .standby ∧ (t.exch j y).restarts = 0
            ∧ ((j, y) ≠ (i, x) → if (s.rxPath j y).signal then t.laneState j y = .data
                else (t.exch j y).Fresh ∧ (t.txPath j y).Loaded (s.leg n).profile.rate))
      ∧ s.queuedFirst t (some n) (.legState .held .training .partnerRevert) := by
  have hm := State.laneMove_hears hi x f
  have hstate : ((s.hears i x f).leg n).state = .held := by rw [hm.leg]; exact hs
  have hl := hlanes.data (.inr hs) hi x
  have hd := (State.hears_reverted (f := f) hi (.inr hl) hv).heldTrains
  have hrevert := State.revertLeg_held hstate x
  change (s.hears i x f).revertLeg n x = ((s.hears i x f).heldTrains n).onExchanges _ _ at hrevert
  have horders := (s.hears i x f).heldTrains_ordersMove n
  have hdleg := (s.hears i x f).heldTrains_leg n
  have hq := (s.hears i x f).heldTrains_queued n
  have hrest (j : Lane) (y : Side) (hj : s.owner j = some n) : (((s.hears i x f).heldTrains n).exch j y).restarts = 0 :=
    State.enterTraining_restarts ((s.hears i x f).modLeg n fun l => { l with bridge := none, episode := none }) .partnerRevert
      ((hm.owner j).trans hj) y
  have hothers := hm.others horders hp
  rw [hstate, hm.lanes.report] at hq
  rw [hm.leg, hm.now] at hdleg
  rw [← State.legLanes_congr horders.slices] at hrevert
  have hslices := horders.slices.trans hm.slices
  have hdata (j : Lane) (y : Side) (hj : s.owner j = some n) (hne : (j, y) ≠ (i, x)) :
      ((s.hears i x f).heldTrains n).laneState j y = .data :=
    (horders.laneState j y).trans ((congrArg Exchange.lane (hm.exchs j y hne)).trans (hlanes.data (.inr hs) hj y))
  have hexec := exec_partnerRevert (w := w) hi hw hv (.inr hl)
  rw [hrevert] at hexec
  generalize (s.hears i x f).heldTrains n = d at *
  have hdi := (State.owner_congr hslices i).trans hi
  have hdrop := State.dropping (hp.congr hslices) (by rw [State.laneState, hd.1] : d.laneState i x = .tune) hd.2.1
  have hfate (j : Lane) (y : Side) (hj : s.owner j = some n) (hne : (j, y) ≠ (i, x)) :=
    State.fated ((State.owner_congr hslices j).trans hj) (hdata j y hj hne)
  generalize d.onExchanges (d.legLanes n) State.dropAbsent = c at *
  have hr := hd.dropped hdrop
  have hcs := hdrop.service.lanes.slices.trans hslices
  have hcleg := hdrop.service.legs n
  rw [hdleg] at hcleg
  have hctrain : (c.leg n).state = .training := by rw [hcleg]; rfl
  obtain ⟨hall, hmem⟩ := State.settled_training hctrain hcs (hq.congr (congrArg Report.events hdrop.service.lanes.report))
    fun j y hj => (hdrop.restarts j y).trans (hrest j y hj)
  have hsame := c.settle_leg n
  have hsettle := c.ordersMove_settle n
  unfold Leg.SameButMargin at hsame
  refine ⟨_, hexec hr (.inl hctrain), hr.settled (hp.congr hcs) ((State.owner_congr hcs i).trans hi), ?_, fun j y hj =>
    ⟨(hall j y hj).1, (hall j y hj).2, fun hne => ?_⟩, hmem⟩
  · rw [hsame, hcleg]
    rfl
  · have hf := hfate j y hj hne
    rw [(hothers.2 j y hne).2.1] at hf
    split
    · next hsig =>
      rw [if_pos hsig] at hf
      exact (hsettle.laneState j y).trans hf
    · next hsig =>
      rw [if_neg hsig] at hf
      refine ⟨hsettle.fresh hf.1, ?_⟩
      obtain ⟨htx, _⟩ := hsettle.loadedAt hf.2
      rw [hdleg] at htx
      rw [State.txPath_eq_txAt (hsettle.slices.trans hdrop.service.lanes.slices)]
      exact htx

/-- The kept mark of side `x` falls in LOST; in TRAINING the leg goes on as it is (R90, R123). -/
theorem State.revertLeg_attempt {b : State} (h : (b.leg n).state = .training ∨ (b.leg n).state = .lost) (x : Side) :
    ∃ kept : Sides Bool, b.revertLeg n x = b.modLeg n (fun l => { l with kept }) ∧ (b.leg n).kept.ClearedAt x kept
      ∧ ((b.leg n).state = .lost → kept.get x = false) := by
  unfold State.revertLeg
  rcases h with h | h
  · refine ⟨(b.leg n).kept, ?_, .inl rfl, fun k => by rw [h] at k; simp at k⟩
    rw [h]
    exact (b.setLeg_same n).symm
  · refine ⟨(b.leg n).kept.set x false, ?_, .inr rfl, fun _ => Sides.get_set_same _ x false⟩
    rw [h]
    rfl

theorem State.orderFor_lost {c : State} (hs : (c.leg n).state = .lost) (hk : (c.leg n).kept.get x = false) (j : Lane) :
    c.orderFor n j x = .standby := by
  unfold State.orderFor
  rw [hs]
  dsimp only
  rw [if_neg (by simp [hk])]

theorem exec_partnerRevert_attempt (hp : s.PairsApart) (hi : s.owner i = some n) (hw : readWord w = some (.tune f))
    (hv : f.verdict = .seeking) (hs : (s.leg n).state = .training ∨ (s.leg n).state = .lost)
    (hl : s.laneState i x = .count ∨ s.laneState i x = .data) :
    ∃ t, exec (.tuneFrameArrives i x w) s = .next t ∧ s.Reverted t n i x f ∧ s.OthersStand t i x ∧ s.LegStands t n
      ∧ (t.leg n).released.get x.opposite = (s.leg n).released.get x.opposite
      ∧ (t.leg n).kept.get x.opposite = (s.leg n).kept.get x.opposite
      ∧ (∀ (j : Lane) (y : Side), s.owner j = some n → (t.exch j y).restarts = (s.exch j y).restarts)
      ∧ ((s.leg n).state = .lost → (t.leg n).kept.get x = false
          ∧ ∀ j : Lane, s.owner j = some n → (t.exch j x).order = .standby) := by
  have hm := State.laneMove_hears hi x f
  have hstate : ((s.hears i x f).leg n).state = (s.leg n).state := by rw [hm.leg]
  obtain ⟨kept, hrevert, hkept, hlost⟩ := State.revertLeg_attempt (by rwa [hstate]) x
  have hr := State.hears_reverted (f := f) hi hl hv
  have hexec := exec_partnerRevert (w := w) hi hw hv hl
  have hmoves := (s.hears i x f).ordersMove_modLeg n fun l => { l with kept }
  have hcleg := (s.hears i x f).leg_modLeg_same n fun l => { l with kept }
  rw [hrevert] at hexec
  have hrc : s.Reverted ((s.hears i x f).modLeg n fun l => { l with kept }) n i x f :=
    hr.after rfl rfl rfl rfl (by rw [hcleg]; exact hr.2.1)
  have hrest (j : Lane) (y : Side) : (((s.hears i x f).modLeg n fun l => { l with kept }).exch j y).restarts =
      (s.exch j y).restarts := s.hears_restarts hi f j y
  have hothers := hm.others (hmoves.trans (State.ordersMove_settle _ n)) hp
  generalize ((s.hears i x f).modLeg n fun l => { l with kept }) = c at *
  have hmleg := hm.leg
  have hrel := hm.released
  have hkep := hm.kept
  generalize s.hears i x f = b at *
  have hslices := hmoves.slices.trans hm.slices
  have hsame := c.settle_leg n
  unfold Leg.SameButMargin at hsame
  have hcstate : (c.leg n).state = (s.leg n).state := by rw [hcleg]; exact hstate
  refine ⟨_, hexec hrc (by rwa [hcstate]), hrc.settled (hp.congr hslices) ((State.owner_congr hslices i).trans hi), hothers, ?_, ?_,
    ?_, fun j y _ => (State.settle_restarts c n j y).trans (hrest j y), fun hlo => ⟨?_, fun j hj => ?_⟩⟩
  · unfold State.LegStands
    rw [hsame, hcleg, hmleg]
  · rw [hsame, hcleg]
    exact hrel.opposite
  · rw [hsame, hcleg]
    exact hkept.opposite.trans hkep.opposite
  · rw [hsame, hcleg]
    exact hlost (hstate.trans hlo)
  · rw [State.settle_order _ ((State.owner_congr hslices j).trans hj), State.orderFor_lost (hcstate.trans hlo)]
    rw [hcleg]
    exact hlost (hstate.trans hlo)

end

/-- Settles O32: one lane returns to TUNE, and the leg answers by its state. -/
theorem partnerRevertLeavesUp : Obligations.PartnerRevertLeavesUp := by
  intro s i x w f n hplan hlanes hi hw hv
  exact ⟨fun hs => exec_partnerRevert_up hplan.pairsApart hlanes hi hw hv hs,
    fun hs => exec_partnerRevert_held hplan.pairsApart hlanes hi hw hv hs,
    fun hs hl => exec_partnerRevert_attempt hplan.pairsApart hi hw hv hs hl⟩

end Sys2Proof.Machine
end

section
/-! PROOF. The reload command (O44; R20, R94, R112 to R114, R136, R160, R164). -/

namespace Sys2Proof.Machine

/-! ### One leg parked (R109, R114) -/

/-- An exchange as a reload leaves it, whatever its lane was doing (R20). -/
def Exchange.idled (e : Exchange) : Exchange := { e.quieted with order := .quiet }

theorem Exchange.idled_order (e : Exchange) (order : ServiceOrder) : ({ e with order } : Exchange).idled = e.idled := rfl

/-- The alarm of a lane stands in DATA alone, and a quiet order ends it (R132, R133). -/
theorem State.enterQuiet_alarm {s : State} {j : Lane} {y : Side} (h : (s.rxPath j y).eye.alarm = true → s.laneState j y = .data) :
    ((s.enterQuiet j y).rxAt (s.phys j y) y).eye.alarm = false := by
  have hs := (s.serviceMoves_outOfService j y).lanes.slices
  have hr := s.outOfService_rxPath j y
  rw [State.rxPath_eq_rxAt hs] at hr
  rw [State.rxAt_congr (show (s.enterQuiet j y).rx = (s.outOfService j y).rx from rfl), hr]
  split
  · rfl
  · next hd =>
    cases ha : (s.rxPath j y).eye.alarm with
    | false => rfl
    | true => exact absurd (h ha) hd

theorem RxPath.LeftOrSame.alarm {p q : RxPath} (h : p.LeftOrSame q) (ha : q.eye.alarm = true) : p.eye.alarm = true := by
  obtain rfl | rfl := h
  · exact ha
  · exact absurd ha (by simp [EyeMonitor.leave])

theorem State.quietLeg_alarm {s : State} {n : LegId} {j : Lane} {y : Side} (hj : s.owner j = some n)
    (h : (s.rxPath j y).eye.alarm = true → s.laneState j y = .data) :
    ((s.quietLeg n).rxAt (s.phys j y) y).eye.alarm = false := by
  unfold State.quietLeg
  refine State.onExchanges_reaches (x := y) (f := fun i x t => t.enterQuiet i x)
    (P := fun t => t.slices = s.slices ∧ ((t.rxAt (s.phys j y) y).eye.alarm = true → t.laneState j y = .data))
    (Q := fun t => (t.rxAt (s.phys j y) y).eye.alarm = false) ((s.mem_legLanes n j).2 hj) (fun i _ x t ⟨hs, ha⟩ => ?_)
    (fun t ⟨hs, ha⟩ => ?_) (fun i _ x t _ _ hq => ?_) ⟨rfl, h⟩
  · refine ⟨(t.enterQuiet_moves i x).slices.trans hs, fun hal => ?_⟩
    by_cases hne : (j, y) = (i, x)
    · obtain ⟨rfl, rfl⟩ := Prod.mk.inj hne
      have hoff := t.enterQuiet_alarm (j := j) (y := y) (by rw [State.rxPath_eq_rxAt hs]; exact ha)
      rw [State.phys_congr hs] at hoff
      rw [hoff] at hal
      simp at hal
    · exact (congrArg Exchange.lane (t.enterQuiet_exch_ne hne)).trans (ha ((t.enterQuiet_rx i x _ y).alarm hal))
  · have hoff := t.enterQuiet_alarm (j := j) (y := y) (by rw [State.rxPath_eq_rxAt hs]; exact ha)
    rwa [State.phys_congr hs] at hoff
  · exact Bool.eq_false_iff.2 fun hal => by simp [(t.enterQuiet_rx i x _ y).alarm hal] at hq

/-- What a park moves: lanes and paths, leg records and the report unit. -/
theorem State.parkLeg_frame (s : State) {n : LegId} (cause : LegCause) (h : (s.leg n).state ≠ .parked) :
    s.parkLeg n cause = { s with
      tx := (s.parkLeg n cause).tx, rx := (s.parkLeg n cause).rx, ex := (s.parkLeg n cause).ex, legs := (s.parkLeg n cause).legs
      report := (s.parkLeg n cause).report } := by
  have hm := (s.parkLeg_condsMove cause h).moves
  have hq := s.quietParked_lanesMove n
  unfold State.ReportMoves at hm
  unfold State.LanesMove at hq
  generalize s.parkLeg n cause = t at *
  rw [hm, hq]

theorem State.parkLeg_exch (s : State) {n : LegId} (cause : LegCause) (h : (s.leg n).state ≠ .parked) (j : Lane) (y : Side) :
    ((s.parkLeg n cause).exch j y).idled = (s.exch j y).idled := by
  obtain ⟨_, _, _, hex, _⟩ := (s.parkLeg_condsMove cause h).fabric
  have horder := State.deriveOrders_exch ((s.quietLeg n).modLeg n Leg.parked) n j y
  have hquiet : ((s.quietLeg n).exch j y).idled = (s.exch j y).idled := by
    unfold State.quietLeg
    refine State.onExchanges_keeps (P := fun t => (t.exch j y).idled = (s.exch j y).idled) (f := fun i x t => t.enterQuiet i x)
      (fun i _ x t ht => ?_) rfl
    by_cases hne : (j, y) = (i, x)
    · obtain ⟨rfl, rfl⟩ := Prod.mk.inj hne
      rw [t.enterQuiet_exch]
      exact ht
    · rw [t.enterQuiet_exch_ne hne]
      exact ht
  rw [State.exch_congr hex]
  show (((((s.quietLeg n).modLeg n Leg.parked).deriveOrders n).exch j y)).idled = _
  rw [horder, Exchange.idled_order, State.exch_of_modLeg]
  exact hquiet

theorem State.parkLeg_tx (s : State) {n : LegId} (cause : LegCause) (h : (s.leg n).state ≠ .parked) (k : Lane) (y : Side) :
    (s.parkLeg n cause).txAt k y = { s.txAt k y with line := ((s.parkLeg n cause).txAt k y).line } := by
  obtain ⟨_, htx, _⟩ := (s.parkLeg_condsMove cause h).fabric
  rw [State.txAt_congr htx]
  exact s.quietParked_path n k y

theorem State.rx_modLeg (s : State) (n : LegId) (f : Leg → Leg) : (s.modLeg n f).rx = s.rx := rfl

theorem State.parkLeg_rx (s : State) {n : LegId} (cause : LegCause) (h : (s.leg n).state ≠ .parked) :
    (s.parkLeg n cause).rx = (s.quietLeg n).rx := by
  obtain ⟨_, _, hrx, _⟩ := (s.parkLeg_condsMove cause h).fabric
  rw [hrx, State.quietParked, State.deriveOrders_rx, State.rx_modLeg]

theorem State.parkLeg_beside (s : State) {n : LegId} (cause : LegCause) (hp : s.PairsWithin n) :
    s.StandsBeside n (s.parkLeg n cause) :=
  ((s.parkLeg_turns cause (covers_self n) : State.Turns True True (some n) s (s.parkLeg n cause)).beside hp).1

/-- What a park at a reload reports (R109, R113, R135): no alarm of the leg is left. -/
def State.reloadActs (s : State) (n : LegId) : List ReportAct :=
  if s.legExists n = true ∧ (s.leg n).state ≠ .parked then
    s.parkEnds n ++ [.queues (some n) (.legState (s.leg n).state .parked .reload)] ++ [.ends (some n) .marginLow]
  else []

/-! ### Legs parked one after the other (R114) -/

/-- The laws that the start of a reload uses of a leg's lanes: paired among themselves, and alarms in DATA alone. -/
structure State.CanPark (s : State) : Prop where
  plan : s.PlanOk
  legs : s.LegsOk
  alarms : ∀ (j : Lane) (y : Side), (s.rxPath j y).eye.alarm = true → s.laneState j y = .data

/-- The reload has parked the legs outside `todo`, and reported `acts`. -/
structure State.Parking (s t : State) (todo : List LegId) (acts : List ReportAct) : Prop where
  frame : t = { s with tx := t.tx, rx := t.rx, ex := t.ex, legs := t.legs, report := t.report }
  report : t.report = { s.report with
    faults := t.report.faults, listFull := t.report.listFull, events := t.report.events, overrun := t.report.overrun
    nextSeq := t.report.nextSeq, attention := t.report.attention }
  reports : s.Reports t acts
  waiting : ∀ n ∈ todo, t.leg n = s.leg n
  lanes : ∀ n ∈ todo, ∀ (j : Lane) (y : Side), s.owner j = some n → t.exch j y = s.exch j y ∧ t.rxAt j y = s.rxAt j y
  exchs : ∀ (j : Lane) (y : Side), (t.exch j y).idled = (s.exch j y).idled
  txs : ∀ (k : Lane) (y : Side), t.txAt k y = { s.txAt k y with line := (t.txAt k y).line }
  rxs : ∀ (k : Lane) (y : Side), t.rxAt k y = { s.rxAt k y with eye := (t.rxAt k y).eye }
  parked : ∀ n : LegId, n ∉ todo →
    t.leg n = { (s.leg n).standDown with state := .parked, retry := 0, conds := (t.leg n).conds }
      ∧ (t.leg n).conds.profileBad = (s.leg n).conds.profileBad
      ∧ ((s.leg n).state ≠ .parked → ∀ c ∈ [FaultCode.trainTimeout, .sideFail, .legCut, .marginLow],
          t.condition (some n) c = false)

theorem State.Parking.start (s : State) : s.Parking s allLegs [] :=
  ⟨rfl, rfl, .refl s, fun _ _ => rfl, fun _ _ _ _ _ => ⟨rfl, rfl⟩, fun _ _ => rfl, fun _ _ => rfl, fun _ _ => rfl,
    fun n h => absurd (mem_allLegs n) h⟩

/-- One leg on the way. -/
def State.parkOne (t : State) (n : LegId) : State := if t.legExists n then t.parkLeg n .reload else t

/-- A PARKED leg's record is stood down already. -/
theorem Leg.Ok.parked {l : Leg} (h : l.Ok) (hs : l.state = .parked) : l = { l.standDown with state := .parked, retry := 0 } := by
  obtain ⟨h1, h2, h3, h4, h5, h6, h7, _, _, h8⟩ := h
  have hb : l.budget = none := by simpa [hs] using h1
  have hk : l.backoff = none := by simpa [hs] using h2
  have hr : l.bridge = none := by simpa [hs] using h3
  have hc : l.cut = none := by simpa [hs] using h4
  have he : l.episode = none := by simpa [hs] using h5
  have hkept := h6 (by simp [hs])
  have hrel := h7 (.inl hs)
  have hz := h8 (.inl hs)
  cases l
  simp_all [Leg.standDown]

section
variable {s t : State} {n : LegId} {rest : List LegId} {acts : List ReportAct}

theorem State.Parking.slices (h : s.Parking t rest acts) : t.slices = s.slices := by rw [h.frame]

/-- A leg that is PARKED, or does not exist, is left as it is. -/
theorem State.Parking.skip (h : s.Parking t (n :: rest) acts) (hok : (s.leg n).Ok) (hs : (s.leg n).state = .parked) :
    s.Parking t rest acts := by
  have hleg := h.waiting n List.mem_cons_self
  refine ⟨h.frame, h.report, h.reports, fun m hm => h.waiting m (List.mem_cons_of_mem n hm),
    fun m hm => h.lanes m (List.mem_cons_of_mem n hm), h.exchs, h.txs, h.rxs, fun m hm => ?_⟩
  by_cases hmn : m = n
  · subst hmn
    rw [hleg]
    refine ⟨?_, rfl, fun k => absurd hs k⟩
    have hp := hok.parked hs
    rw [hp]
    rfl
  · exact h.parked m fun k => (List.mem_cons.1 k).elim hmn hm

/-- A quieted leg has no alarm left (R132, R133). -/
theorem State.Parking.parkLeg_quiet (h : s.Parking t (n :: rest) acts) (hcan : s.CanPark) (hts : (t.leg n).state ≠ .parked) :
    (t.parkLeg n .reload).anyAlarm n = false := by
  have hslices : (t.parkLeg n .reload).slices = t.slices := by rw [t.parkLeg_frame .reload hts]
  refine State.anyAlarm_false.2 fun j y hj => ?_
  have hj' : t.owner j = some n := (State.owner_congr hslices j).symm.trans hj
  have hsj : s.owner j = some n := (State.owner_congr h.slices j).symm.trans hj'
  rw [State.rxPath_eq_rxAt hslices, State.rxAt_congr (t.parkLeg_rx .reload hts)]
  refine State.quietLeg_alarm hj' fun ha => ?_
  obtain ⟨hexch, _⟩ := h.lanes n List.mem_cons_self j y hsj
  obtain ⟨_, hrx⟩ := h.lanes n List.mem_cons_self (s.phys j y) y ((hcan.plan.pairsWithin n).phys hsj y)
  rw [State.rxPath_eq_rxAt h.slices, hrx] at ha
  exact (congrArg Exchange.lane hexch).trans (hcan.alarms j y ha)

theorem State.legExists_of_live (h : s.LegsOk) (hs : (s.leg n).state ≠ .parked) : s.legExists n = true := by
  cases he : s.legExists n with
  | true => rfl
  | false => exact absurd (h.2.1 n he) hs

theorem State.reloadActs_live (h : s.LegsOk) (hs : (s.leg n).state ≠ .parked) : s.reloadActs n =
    s.parkEnds n ++ [.queues (some n) (.legState (s.leg n).state .parked .reload)] ++ [.ends (some n) .marginLow] :=
  if_pos ⟨State.legExists_of_live h hs, hs⟩

theorem State.reloadActs_parked (hs : (s.leg n).state = .parked) : s.reloadActs n = [] := if_neg fun k => k.2 hs

/-- What a park reports after other legs' acts (R109, R113, R135). -/
theorem State.Reports.parkLeg (h : s.Reports t acts) (hts : (t.leg n).state ≠ .parked) (hleg : t.leg n = s.leg n)
    (hlive : s.LegsOk) (hquiet : (t.parkLeg n .reload).anyAlarm n = false) :
    s.Reports (t.parkLeg n .reload) (acts ++ s.reloadActs n) := by
  have hends : s.Reports (t.parkEnded n) (acts ++ t.parkEnds n) := by
    have he := ((State.ReportsBeside.unreported h (t.quietParked_unreported n)).endAttemptConditions n).endIf
      (ownsCode_some n (code := .retryOut) (by simp) (by simp)) ((t.leg n).state = .failed)
    rw [List.append_assoc] at he
    exact he
  have hlow : (t.parkEnded n).condition (some n) .marginLow = s.condition (some n) .marginLow :=
    (t.parkEnded_marginLow n).trans (congrArg (fun l : Leg => l.conds.get .marginLow) hleg)
  have hall := (hends.queueLegState n (t.leg n).state .parked .reload).marginCheck n hlow
  rw [← State.marginActs_marginCheck, ← t.parkLeg_eq .reload hts] at hall
  have hm : s.marginActs (t.parkLeg n .reload) n = [.ends (some n) .marginLow] := if_pos hquiet
  have hp : t.parkEnds n = s.parkEnds n := by
    unfold State.parkEnds
    rw [hleg]
  rw [hm, hp, hleg] at hall
  rw [State.reloadActs_live hlive (by rwa [hleg] at hts)]
  simp only [List.append_assoc] at hall ⊢
  exact hall

/-- A leg that is not PARKED is quieted, stood down and reported. -/
theorem State.Parking.park (h : s.Parking t (n :: rest) acts) (hn : n ∉ rest) (hcan : s.CanPark) (hs : (s.leg n).state ≠ .parked) :
    s.Parking (t.parkLeg n .reload) rest (acts ++ s.reloadActs n) := by
  have hleg := h.waiting n List.mem_cons_self
  have hts : (t.leg n).state ≠ .parked := by rwa [hleg]
  have hwithin : t.PairsWithin n := (hcan.plan.pairsWithin n).congr h.slices
  have hbeside := t.parkLeg_beside .reload hwithin
  have howner (j : Lane) : t.owner j = s.owner j := State.owner_congr h.slices j
  have hquiet : (t.parkLeg n .reload).anyAlarm n = false := h.parkLeg_quiet hcan hts
  have hreports := State.Reports.parkLeg h.reports hts hleg hcan.legs hquiet
  refine ⟨?_, ?_, hreports, fun m hm => ?_, fun m hm j y hj => ?_, fun j y => (t.parkLeg_exch .reload hts j y).trans (h.exchs j y),
    fun k y => ?_, fun k y => ?_, fun m hm => ?_⟩
  · rw [t.parkLeg_frame .reload hts, h.frame]
  · rw [hbeside.report, h.report]
  · rw [hbeside.legs m fun k => hn (k ▸ hm)]
    exact h.waiting m (List.mem_cons_of_mem n hm)
  · have hother : t.owner j ≠ some n := by
      rw [howner, hj]
      exact fun k => hn (Option.some.inj k ▸ hm)
    obtain ⟨h1, h2⟩ := h.lanes m (List.mem_cons_of_mem n hm) j y hj
    exact ⟨(hbeside.exchs j y hother).trans h1, (hbeside.rxs j y hother).trans h2⟩
  · rw [t.parkLeg_tx .reload hts, h.txs]
  · rw [State.rxAt_congr (t.parkLeg_rx .reload hts)]
    have hr := h.rxs k y
    rcases t.quietLeg_rx n k y with e | e <;> rw [e, hr]
  · by_cases hmn : m = n
    · subst hmn
      have hconds := t.parkLeg_conds .reload hts
      rw [hleg] at hconds
      have hrec := t.parkLeg_leg .reload hts
      rw [hleg] at hrec
      obtain ⟨c1, c2, c3, c4, _⟩ := hconds
      have hlow : (t.parkLeg m .reload).condition (some m) .marginLow = false := by
        rw [hreports.condition, State.reloadActs_live hcan.legs hs, ← List.append_assoc, List.foldl_append]
        simp [conditionAfter]
      refine ⟨hrec, c4, fun _ c hc => ?_⟩
      simp only [List.mem_cons, List.not_mem_nil, or_false] at hc
      rcases hc with rfl | rfl | rfl | rfl
      · exact c1
      · exact c2
      · exact c3
      · exact hlow
    · obtain ⟨h1, h2, h3⟩ := h.parked m fun k => (List.mem_cons.1 k).elim hmn hm
      have hsame := hbeside.legs m hmn
      have hcond (c : FaultCode) : (t.parkLeg n .reload).condition (some m) c = t.condition (some m) c :=
        congrArg (fun l : Leg => l.conds.get c) hsame
      rw [hsame]
      exact ⟨h1, h2, fun k c hc => (hcond c).trans (h3 k c hc)⟩

theorem State.Parking.one (h : s.Parking t (n :: rest) acts) (hn : n ∉ rest) (hcan : s.CanPark) :
    s.Parking (t.parkOne n) rest (acts ++ s.reloadActs n) := by
  have hleg := h.waiting n List.mem_cons_self
  by_cases hs : (s.leg n).state = .parked
  · have hsame : t.parkOne n = t := by
      unfold State.parkOne State.parkLeg
      rw [hleg, if_pos hs]
      exact ite_self _
    rw [hsame, State.reloadActs_parked hs, List.append_nil]
    exact h.skip (hcan.legs.1 n) hs
  · have hexists : t.legExists n = true := by
      have he := State.legExists_of_live hcan.legs hs
      have hhead : t.head = s.head := by rw [h.frame]
      unfold State.legExists at he ⊢
      rwa [hhead, hleg]
    unfold State.parkOne
    rw [if_pos hexists]
    exact h.park hn hcan hs

theorem State.Parking.all {legs : List LegId} (h : s.Parking t legs acts) (hn : legs.Nodup) (hcan : s.CanPark) :
    s.Parking (legs.foldl State.parkOne t) [] (acts ++ legs.flatMap s.reloadActs) := by
  induction legs generalizing t acts with
  | nil => simpa using h
  | cons n rest ih =>
    obtain ⟨hfirst, hrest⟩ := List.nodup_cons.1 hn
    have hall := ih (h.one hfirst hcan) hrest
    rwa [List.append_assoc, ← List.flatMap_cons] at hall

end

theorem State.parkAll_parking {s : State} (hcan : s.CanPark) : s.Parking s.parkAll [] (allLegs.flatMap s.reloadActs) := by
  have h := (State.Parking.start s).all allLegs_nodup hcan
  rwa [List.nil_append] at h

/-! ### Every lane idle (R20, R136) -/

/-- Every lane of the part idle, whoever owns it. -/
def State.idleAll (s : State) : State := s.onExchanges allLanes fun i x u => u.idleLane i x

theorem State.idleLane_service (s : State) (i : Lane) (x : Side) : s.ServiceMoves (s.idleLane i x) :=
  ((s.serviceMoves_enterQuiet i x).trans (State.serviceMoves_modExch _ i x _)).trans (State.serviceMoves_modRx _ i x _)

theorem State.idleAll_service (s : State) : s.ServiceMoves s.idleAll :=
  State.onExchanges_keeps (P := s.ServiceMoves) (f := fun i x u => u.idleLane i x)
    (fun i _ x u hu => hu.trans (u.idleLane_service i x)) (.refl s)

theorem State.idleLane_exch (s : State) (i : Lane) (x : Side) : (s.idleLane i x).exch i x = (s.exch i x).idled := by
  show ((s.enterQuiet i x).modExch i x fun e => { e with order := .quiet }).exch i x = _
  rw [State.exch_modExch_same, s.enterQuiet_exch]
  rfl

theorem State.idleAll_exch (s : State) (j : Lane) (y : Side) : s.idleAll.exch j y = (s.exch j y).idled := by
  have h := State.onExchanges_each (P := fun _ => True) (f := fun i x u => u.idleLane i x) (i := j) (x := y)
    (fun u => u.exch j y) Exchange.idled (allLanes_nodup) (fun _ _ _ _ _ => trivial) (fun u _ => u.idleLane_exch j y)
    (fun i _ x u hne _ => ?_) (s := s) trivial
  · rwa [if_pos (mem_allLanes j)] at h
  · show ((u.enterQuiet i x).modExch i x fun e => { e with order := .quiet }).exch j y = _
    rw [State.exch_modExch_ne _ _ hne.symm, u.enterQuiet_exch_ne hne.symm]

/-- Every slice holds the path of some lane. -/
theorem State.PairsApart.onto {s : State} (h : s.PairsApart) (k : Lane) (y : Side) : ∃ j : Lane, s.phys j y = k := by
  cases y with
  | s => exact ⟨k, rfl⟩
  | c => exact Finite.surjective_of_injective (f := fun j : Lane => (s.slice j).pair) (fun i j hij => h i j hij) k

theorem State.idleAll_tx {s : State} (h : s.PairsApart) (k : Lane) (y : Side) :
    s.idleAll.txAt k y = { s.txAt k y with line := .quiet } := by
  obtain ⟨j, hj⟩ := h.onto k y
  have hkeep (i : Lane) (x : Side) (u : State) : TxPath.StaysOn (u.txAt k y) ((u.idleLane i x).txAt k y) := u.enterQuiet_path i x k y
  have hpath : s.idleAll.slices = s.slices ∧ s.idleAll.txAt k y = { s.txAt k y with line := (s.idleAll.txAt k y).line } :=
    State.onExchanges_keeps (P := fun u => u.slices = s.slices ∧ u.txAt k y = { s.txAt k y with line := (u.txAt k y).line })
      (f := fun i x u => u.idleLane i x)
      (fun i _ x u ⟨hs, hu⟩ => ⟨(u.idleLane_slices i x).trans hs, by rw [(hkeep i x u).1, hu]⟩) ⟨rfl, rfl⟩
  have hline : (s.idleAll.txAt k y).line = .quiet :=
    State.onExchanges_reaches (i := j) (x := y) (P := fun u => u.slices = s.slices) (f := fun i x u => u.idleLane i x)
      (Q := fun u => (u.txAt k y).line = .quiet) (mem_allLanes j) (fun i _ x u hs => (u.idleLane_slices i x).trans hs)
      (fun u hs => by
        rw [← hj, ← State.phys_congr hs]
        exact u.enterQuiet_line j y) (fun i _ x u _ _ hq => (hkeep i x u).2 hq) rfl
  rw [hpath.2, hline]

/-- What a change of one receive path leaves at every place: the changed path where it lies, the old one elsewhere. -/
theorem State.modRx_rxAt (s : State) (i : Lane) (x : Side) (f : RxPath → RxPath) (k : Lane) (y : Side) :
    (k, y) ≠ (s.phys i x, x) ∧ (s.modRx i x f).rxAt k y = s.rxAt k y ∨ (s.modRx i x f).rxAt k y = f (s.rxAt k y) := by
  by_cases hk : (k, y) = (s.phys i x, x)
  · right
    obtain ⟨rfl, rfl⟩ := Prod.mk.inj hk
    exact s.rxPath_modRx_same i y f
  · exact .inl ⟨hk, s.rx_setRxAt_ne _ hk⟩

theorem State.idleLane_eq (s : State) (i : Lane) (x : Side) :
    s.idleLane i x = ((s.enterQuiet i x).modExch i x fun e => { e with order := .quiet }).modRx i x
      fun r => { r with eye := .initial } := rfl

theorem State.idleLane_rx (s : State) (i : Lane) (x : Side) (k : Lane) (y : Side) :
    (s.rxAt k y).LeftOrSame ((s.idleLane i x).rxAt k y) ∧ (k, y) ≠ (s.phys i x, x)
      ∨ (s.idleLane i x).rxAt k y = { s.rxAt k y with eye := .initial } := by
  rw [State.idleLane_eq]
  have hq : (s.rxAt k y).LeftOrSame (((s.enterQuiet i x).modExch i x fun e => { e with order := .quiet }).rxAt k y) :=
    s.enterQuiet_rx i x k y
  have hphys : ((s.enterQuiet i x).modExch i x fun e => { e with order := .quiet }).phys i x = s.phys i x :=
    State.phys_congr (s.enterQuiet_moves i x).slices i x
  generalize (s.enterQuiet i x).modExch i x (fun e => { e with order := .quiet }) = t at hq hphys ⊢
  rcases t.modRx_rxAt i x (fun r => { r with eye := .initial }) k y with ⟨hk, e⟩ | e
  · exact .inl ⟨by rwa [e], by rwa [← hphys]⟩
  · refine .inr (e.trans ?_)
    rcases hq with h | h <;> rw [h]

theorem State.idleAll_rx {s : State} (h : s.PairsApart) (k : Lane) (y : Side) :
    s.idleAll.rxAt k y = { s.rxAt k y with eye := .initial } := by
  obtain ⟨j, hj⟩ := h.onto k y
  have hpath : s.idleAll.rxAt k y = { s.rxAt k y with eye := (s.idleAll.rxAt k y).eye } :=
    State.onExchanges_keeps (P := fun u => u.rxAt k y = { s.rxAt k y with eye := (u.rxAt k y).eye })
      (f := fun i x u => u.idleLane i x) (fun i _ x u hu => by
        rcases u.idleLane_rx i x k y with ⟨e | e, _⟩ | e <;> rw [e, hu]) rfl
  have heye : (s.idleAll.rxAt k y).eye = .initial := by
    refine State.onExchanges_reaches (i := j) (x := y) (P := fun u => u.slices = s.slices) (f := fun i x u => u.idleLane i x)
      (Q := fun u => (u.rxAt k y).eye = .initial) (mem_allLanes j) (fun i _ x u hs => (u.idleLane_slices i x).trans hs)
      (fun u hs => ?_) (fun i _ x u _ _ hq => ?_) rfl
    · rcases u.idleLane_rx j y k y with ⟨_, hne⟩ | e
      · exact absurd (by rw [State.phys_congr hs, hj]) hne
      · rw [e]
    · rcases u.idleLane_rx i x k y with ⟨e | e, _⟩ | e
      · rw [e, hq]
      · rw [e]
        show (u.rxAt k y).eye.leave = _
        rw [hq]
        rfl
      · rw [e]
  rw [hpath, heye]

/-! ### The command (R151, R164) -/

theorem heldRecords_length (port : Port) (records : List FailureRecord) : (heldRecords port records).length = records.length := by
  unfold heldRecords
  split <;> simp

/-- The part with every leg parked, every lane idle and the plan lapsed. -/
def State.parkedHead (s : State) : State := s.parkAll.idleAll.lapsePlan

/-- What a reload leaves of legs, lanes and reports before the load begins. -/
theorem State.parkedHead_spec {s : State} (hcan : s.CanPark) :
    s.parkedHead = { s with slices := s.parkedHead.slices, tx := s.parkedHead.tx, rx := s.parkedHead.rx, ex := s.parkedHead.ex
                            legs := s.parkedHead.legs, report := s.parkedHead.report }
      ∧ s.parkedHead.report = { s.report with
          faults := s.parkedHead.report.faults, listFull := s.parkedHead.report.listFull, events := s.parkedHead.report.events
          overrun := s.parkedHead.report.overrun, nextSeq := s.parkedHead.report.nextSeq
          attention := s.parkedHead.report.attention }
      ∧ s.Reports s.parkedHead (allLegs.flatMap s.reloadActs)
      ∧ (∀ n : LegId, s.parkedHead.leg n =
            { (s.leg n).standDown with state := .parked, retry := 0, conds := (s.parkedHead.leg n).conds }
          ∧ (s.parkedHead.leg n).conds.profileBad = (s.leg n).conds.profileBad
          ∧ ((s.leg n).state ≠ .parked → ∀ c ∈ [FaultCode.trainTimeout, .sideFail, .legCut, .marginLow],
              s.parkedHead.condition (some n) c = false))
      ∧ ∀ (j : Lane) (y : Side), s.parkedHead.slice j = (s.slice j).lapse j ∧ s.parkedHead.exch j y = (s.exch j y).idled
          ∧ s.parkedHead.txAt j y = { s.txAt j y with line := .quiet }
          ∧ s.parkedHead.rxAt j y = { s.rxAt j y with eye := .initial } := by
  have hpark := State.parkAll_parking hcan
  have hapart : s.parkAll.PairsApart := hcan.plan.pairsApart.congr hpark.slices
  have hservice := s.parkAll.idleAll_service
  have hexch := s.parkAll.idleAll_exch
  have htx := State.idleAll_tx hapart
  have hrx := State.idleAll_rx hapart
  have hlapse := s.parkAll.idleAll.lapsePlan_only_slices
  have hslice := s.parkAll.idleAll.lapsePlan_slice
  unfold State.parkedHead
  generalize s.parkAll.idleAll.lapsePlan = w at *
  generalize s.parkAll.idleAll = v at *
  generalize s.parkAll = u at *
  have hlanes := hservice.lanes
  have hlegs (n : LegId) : w.leg n = u.leg n := by
    obtain ⟨hrec, _⟩ := hpark.parked n (by simp)
    have hw : w.leg n = v.leg n := State.leg_congr (by rw [hlapse]) n
    have hrel := hservice.released n (by rw [hrec]; rfl)
    have hkept := hservice.kept n (by rw [hrec]; rfl)
    rw [hw, hservice.legs n, hrel, hkept]
    rw [hrec]
    rfl
  have hreport : w.report = u.report := by rw [hlapse, hlanes.report]
  refine ⟨?_, ?_, ?_, fun n => ?_, fun j y => ⟨?_, ?_, ?_, ?_⟩⟩
  · unfold State.LanesMove at hlanes
    rw [hlapse, hlanes, hpark.frame]
  · rw [hreport]
    exact hpark.report
  · exact State.ReportsBeside.unreported hpark.reports ⟨by rw [hreport], fun m => by rw [hlegs m]⟩
  · obtain ⟨h1, h2, h3⟩ := hpark.parked n (by simp)
    have hcond (c : FaultCode) : w.condition (some n) c = u.condition (some n) c := congrArg (fun l : Leg => l.conds.get c) (hlegs n)
    rw [hlegs n]
    exact ⟨h1, h2, fun k c hc => (hcond c).trans (h3 k c hc)⟩
  · rw [hslice, State.slice_congr hlanes.slices, State.slice_congr hpark.slices]
  · rw [State.exch_congr (show w.ex = v.ex by rw [hlapse]), hexch, hpark.exchs]
  · rw [State.txAt_congr (show w.tx = v.tx by rw [hlapse]), htx, hpark.txs]
  · rw [State.rxAt_congr (show w.rx = v.rx by rw [hlapse]), hrx, hpark.rxs]

/-- The load to begin, over a parked part (R164). -/
def State.awaitLoad (w : State) : State :=
  State.deriveAttention
    { w with head := .loading, resetCause := .reload
             agent := { w.agent with load := some { stage := .awaitStart, retryWait := false, window := none, best := none }
                                     records := heldRecords w.bridge.port w.agent.records }
             bridge := { w.bridge with txn := { phase := w.bridge.txn.phase.afterReload
                                                runOn := w.bridge.txn.phase.runsOn, buffer := [], snapshot := none } } }

theorem State.reloadHead_eq {s : State} (h : s.windowOpen = true) : s.reloadHead = s.parkedHead.awaitLoad := by
  unfold State.reloadHead State.parkedHead State.idleAll State.awaitLoad
  rw [if_pos h]

/-- No lane is owned while the plan has lapsed. -/
theorem State.lapsed_lanes {t : State} (h : ∀ j : Lane, t.owner j = none) (n : LegId) : t.legLanes n = [] := by
  refine List.eq_nil_iff_forall_not_mem.2 fun j hj => ?_
  have ho := (t.mem_legLanes n j).1 hj
  rw [h j] at ho
  simp at ho

theorem State.lapsed_quiet {t : State} (h : ∀ j : Lane, t.owner j = none) (n : LegId) (x : Side) :
    t.sideStatus n x = if (t.leg n).width = 0 then none else some .quiet := by
  unfold State.sideStatus
  rw [State.lapsed_lanes h n]
  simp

theorem State.reloadActs_lapsed {s t : State} (h : ∀ j : Lane, t.owner j = none) (n : LegId) :
    s.reloadActs n = if s.legExists n = true ∧ (s.leg n).state ≠ .parked then s.parkActs t n .reload else [] := by
  have hquiet : t.anyAlarm n = false := State.anyAlarm_false.2 fun j _ hj => by rw [h j] at hj; simp at hj
  have hm : s.marginActs t n = [.ends (some n) .marginLow] := if_pos hquiet
  unfold State.reloadActs
  rw [State.parkActs_eq, hm]

/-- Settles O44: every leg parked, every lane idle, the plan lapsed and the load to begin. -/
theorem reloadParksTheHead : Obligations.ReloadParksTheHead := by
  intro s hw hlegs hplan hlanes heyes
  have hcan : s.CanPark := by
    refine ⟨hplan, hlegs, fun j y ha => ?_⟩
    by_contra hd
    obtain ⟨_, _, _, _, _, _, halarm, _⟩ := heyes (s.phys j y) y
    exact halarm ha (hlanes.2.2 j y hd)
  obtain ⟨hframe, hreport, hreports, hrecord, hfabric⟩ := State.parkedHead_spec hcan
  refine ⟨_, congrArg Host.Outcome.next (State.reloadHead_eq hw), ?_⟩
  generalize s.parkedHead = v at *
  have hslices : v.awaitLoad.slices = v.slices := rfl
  have howner (j : Lane) : v.awaitLoad.owner j = none := by
    show (v.slice j).owner = none
    rw [(hfabric j .s).1]
    rfl
  have hleg (n : LegId) : v.awaitLoad.leg n = v.leg n := rfl
  refine ⟨rfl, rfl, by rw [hframe]; rfl, by rw [hframe]; rfl, by rw [hframe]; rfl, by rw [hframe]; rfl, by rw [hframe]; rfl, ?_,
    by rw [hframe]; rfl, rfl, rfl, fun n => ?_, ?_, ?_, fun j y => ?_⟩
  · rw [hframe]
    exact heldRecords_length _ _
  · obtain ⟨h1, h2, h3⟩ := hrecord n
    have hrec := (hleg n).trans h1
    refine ⟨by rw [hrec], ?_, by rw [hrec]; rfl, hrec, h2, h3, fun x => ?_⟩
    · rw [hrec]
      exact ⟨rfl, rfl, rfl, rfl, rfl, rfl⟩
    · rw [State.lapsed_quiet howner, hrec]
      rfl
  · rw [show v.awaitLoad.report = { v.report with attention := v.awaitLoad.report.attention } from rfl, hreport]
  · have hacts : allLegs.flatMap s.reloadActs = allLegs.flatMap fun n =>
        if s.legExists n = true ∧ (s.leg n).state ≠ .parked then s.parkActs v.awaitLoad n .reload else [] :=
      congrArg (allLegs.flatMap ·) (funext fun n => State.reloadActs_lapsed howner n)
    rw [← hacts]
    exact State.ReportsBeside.unreported hreports ⟨rfl, fun _ => rfl⟩
  · obtain ⟨h1, h2, h3, h4⟩ := hfabric j y
    exact ⟨h1, h2, h3, h4⟩

end Sys2Proof.Machine
end

section
/-! PROOF. The law of the exchanges and of the control words, kept by every step (R22, R31, R34, R35, R60, R66, R70, R88). -/

namespace Sys2Proof.Machine

variable {R G : Prop} {c : Option LegId}

/-! ### One exchange -/

/-- An exchange is in order, and its last answer can be sent. -/
def Exchange.Sound (e : Exchange) : Prop :=
  e.RequesterOk ∧ e.FramesOk ∧ -3 ≤ e.lastGiven.applied ∧ e.lastGiven.applied ≤ 3

/-- Without a request in flight the requester is in order on every lane its mode admits. -/
theorem Exchange.RequesterOk.resting {e f : Exchange} (h : e.RequesterOk) (hi : e.req.phase = .idle) {m : Verdict}
    (hr : f.req = { e.req with mode := m }) (hl : f.lane = .ready ∨ f.lane = .count ∨ f.lane = .data → m = .content) :
    f.RequesterOk := by
  obtain ⟨hcur, -, -, htimer, hacc, htaps, hq⟩ := h
  unfold Exchange.RequesterOk
  rw [hr]
  exact ⟨hcur, fun hp => absurd hi hp, hl, htimer, hacc, htaps, hq⟩

theorem Requester.initial_ok (e : Exchange) (hr : ∃ a, e.req = { Requester.initial with lastReceived := a })
    (hl : e.lane = .listen ∨ e.lane = .quiet) : e.RequesterOk := by
  obtain ⟨a, ha⟩ := hr
  unfold Exchange.RequesterOk
  rw [ha]
  refine ⟨by simp [Requester.initial], fun hp => absurd rfl hp, fun h => ?_, by simp [Requester.initial], by simp [Requester.initial],
    by simp [Requester.initial, TapsReceived.Ok], by simp [Requester.initial]⟩
  rcases hl with hl | hl <;> simp [hl] at h

theorem Exchange.RequesterOk.idle_of {e : Exchange} (h : e.RequesterOk) (hl : e.lane ≠ .tune) : e.req.phase = .idle := by
  by_contra hp
  exact hl (h.2.1 hp).1

theorem Exchange.RequesterOk.content_of {e : Exchange} (h : e.RequesterOk)
    (hl : e.lane = .ready ∨ e.lane = .count ∨ e.lane = .data) : e.req.mode = .content := h.2.2.1 hl

theorem saturate8_range (v : Int) : -128 ≤ saturate8 v ∧ saturate8 v ≤ 127 := by unfold saturate8; omega

theorem TapsReceived.Ok.add {t : TapsReceived} (h : t.Ok) (tap : Tap) (d : Int) : (t.add tap d).Ok := by
  obtain ⟨h1, h2, h3⟩ := h
  cases tap
  · exact ⟨saturate8_range _, h2, h3⟩
  · exact ⟨h1, saturate8_range _, h3⟩
  · exact ⟨h1, h2, saturate8_range _⟩

/-- An answer accepted ends the request (R68); any other leaves the requester as it is. -/
theorem Exchange.RequesterOk.reads {e : Exchange} (h : e.RequesterOk) (f : TuneFields) :
    ({ e with req := e.req.readAnswer f } : Exchange).RequesterOk := by
  unfold Requester.readAnswer
  split
  · split
    · obtain ⟨-, hphase, hmode, -, hacc, htaps, -⟩ := h
      exact ⟨⟨fun _ => rfl, fun _ => rfl⟩, fun hp => absurd rfl hp, hmode, by simp [Requester.accept],
        Nat.min_le_left _ _, htaps.add _ _, by simp [Requester.accept]⟩
    · exact h
  · exact h

theorem Exchange.RequesterOk.frameStarts {e : Exchange} (h : e.RequesterOk) (now : Nat) :
    ({ e with req := e.req.frameStarts now } : Exchange).RequesterOk := by
  obtain ⟨hcur, hphase, hmode, htimer, hacc, htaps, hq⟩ := h
  unfold Requester.frameStarts
  split
  · next hp =>
    exact ⟨⟨fun k => absurd (hcur.1 k) (by simp [hp]), fun k => nomatch k⟩, fun _ => hphase (by simp [hp]), hmode,
      ⟨fun _ => rfl, fun _ => rfl⟩, hacc, htaps, hq⟩
  · next hp => exact ⟨hcur, hphase, hmode, htimer, hacc, htaps, hq⟩
  · exact ⟨hcur, hphase, hmode, htimer, hacc, htaps, hq⟩

/-- A request made takes the next sequence (R67). -/
theorem Exchange.RequesterOk.requests {e : Exchange} (h : e.RequesterOk) {tap : Tap} {delta : Int}
    (hl : e.lane = .tune ∨ e.lane = .ready) (hidle : e.req.phase = .idle) (hm : e.req.mode = .seeking)
    (hq : Request.Ok { tap, delta, seq := e.req.nextSeq }) :
    ({ e with req := e.req.make tap delta, made := e.made + 1 } : Exchange).RequesterOk := by
  have htune : e.lane = .tune := hl.resolve_right fun hr => by
    have := h.content_of (.inl hr)
    rw [hm] at this
    cases this
  obtain ⟨-, -, hmode, htimer, hacc, htaps, -⟩ := h
  have hoff : e.req.answerTimer.isSome = true → False := fun k => by
    have := htimer.1 k
    rw [hidle] at this
    cases this
  refine ⟨⟨(fun k => nomatch k), (fun k => nomatch k)⟩, fun _ => ⟨htune, hm⟩, hmode,
    ⟨fun k => (hoff k).elim, (fun k => nomatch k)⟩, hacc, htaps, ?_⟩
  intro q hmem
  cases Option.mem_toList.1 hmem
  exact ⟨hq, rfl, rfl⟩

theorem Exchange.RequesterOk.discontent {e : Exchange} (h : e.RequesterOk) (hl : e.lane = .tune ∨ e.lane = .ready)
    (hidle : e.req.phase = .idle) : e.discontent.RequesterOk := by
  unfold Exchange.discontent
  split
  · exact h.resting hidle rfl (by simp)
  · next hr => exact h.resting hidle rfl (by simp [hl.resolve_right hr])

/-! ### The frames of one exchange -/

theorem Exchange.FramesOk.congr {e f : Exchange} (h : e.FramesOk) (hw : f.watch = e.watch) (hl : f.lane = e.lane)
    (ho : f.ownCount = e.ownCount) (hc : f.countEnded = e.countEnded) (hz : f.zeroSeen = e.zeroSeen)
    (hb : f.badFrames = e.badFrames) (hr : f.restarts = e.restarts) : f.FramesOk := by
  unfold Exchange.FramesOk at *
  rwa [hw, hl, ho, hc, hz, hb, hr]

/-- The frame state of a lane outside COUNT and DATA whose watch runs exactly in TUNE and READY. -/
theorem Exchange.FramesOk.early {e f : Exchange} (h : e.FramesOk) (hl : f.lane ≠ .data)
    (hw : f.watch.isSome = true ↔ f.lane = .tune ∨ f.lane = .ready) (ho : f.ownCount = 15) (hc : f.countEnded = false)
    (hb : f.badFrames = e.badFrames) (hr : f.restarts = e.restarts) : f.FramesOk := by
  obtain ⟨-, -, -, -, -, hbad, hrest⟩ := h
  exact ⟨hw, .inr ho, fun _ _ => ho, fun k => absurd k (by simp [hc]), fun k => absurd k hl, hb ▸ hbad, hr ▸ hrest⟩

theorem Exchange.FramesOk.discontent {e : Exchange} (h : e.FramesOk) (hl : e.lane = .tune ∨ e.lane = .ready) :
    e.discontent.FramesOk := by
  unfold Exchange.discontent
  split
  · exact h.early (by simp) (by simp [h.1, hl]) rfl rfl rfl rfl
  · exact h.congr rfl rfl rfl rfl rfl rfl rfl

theorem nextCount_range {k : BitVec 4} (h : k.toNat ≤ 7 ∨ k = 15) : (nextCount k).toNat ≤ 7 ∨ nextCount k = 15 := by
  revert h
  revert k
  decide

theorem zero_within : (-3 : Int) ≤ 0 ∧ (0 : Int) ≤ 3 := by decide

/-- Every change of an exchange keeps it in order. -/
theorem ExchMove.sound {e f : Exchange} (h : ExchMove True e f) (he : e.Sound) : f.Sound := by
  obtain ⟨hreq, hfr, hgiven⟩ := he
  have hidle (hl : e.lane ≠ .tune) : e.req.phase = .idle := hreq.idle_of hl
  have hown (hc : e.lane ≠ .count) (hd : e.lane ≠ .data) : e.ownCount = 15 := hfr.2.2.1 hc hd
  have hended (hc : e.lane ≠ .count) (hd : e.lane ≠ .data) : e.countEnded = false := by
    by_contra hk
    have h0 := hfr.2.2.2.1 (by simpa using hk)
    rw [hown hc hd] at h0
    cases h0
  cases h with
  | listens warm =>
    exact ⟨Requester.initial_ok _ ⟨_, rfl⟩ (.inl rfl), hfr.early (by simp [Exchange.listenAfresh])
      (by simp [Exchange.listenAfresh]) rfl rfl rfl rfl, zero_within⟩
  | quiets =>
    exact ⟨Requester.initial_ok _ ⟨_, rfl⟩ (.inr rfl), hfr.early (by simp [Exchange.quieted]) (by simp [Exchange.quieted]) rfl
      rfl rfl rfl, hgiven⟩
  | orders order => exact ⟨hreq, hfr, hgiven⟩
  | restarts k hk =>
    obtain ⟨hw, ho, hc, he, hd, hb, -⟩ := hfr
    exact ⟨hreq, ⟨hw, ho, hc, he, hd, hb, hk⟩, hgiven⟩
  | watches w hl =>
    obtain ⟨-, ho, hc, he, hd, hb, hr⟩ := hfr
    exact ⟨hreq, ⟨⟨fun _ => hl, fun _ => rfl⟩, ho, hc, he, hd, hb, hr⟩, hgiven⟩
  | tunes w hl =>
    exact ⟨hreq.resting (hidle (by simp [hl])) rfl (by simp), hfr.early (by simp) (by simp)
      (hown (by simp [hl]) (by simp [hl])) (hended (by simp [hl]) (by simp [hl])) rfl rfl, hgiven⟩
  | readies hl hm =>
    have hphase : e.req.phase = .idle := by
      by_contra hp
      have := (hreq.2.1 hp).2
      rw [hm] at this
      cases this
    exact ⟨hreq.resting hphase rfl fun _ => hm, hfr.early (by simp) (by simp [hfr.1, hl])
      (hown (by simp [hl]) (by simp [hl])) (hended (by simp [hl]) (by simp [hl])) rfl rfl, hgiven⟩
  | opensCount hl =>
    exact ⟨hreq.resting (hidle (by simp [hl])) rfl fun _ => hreq.content_of (.inl hl),
      hfr.early (by simp) (by simp) (hown (by simp [hl]) (by simp [hl])) rfl rfl rfl, hgiven⟩
  | returns cause watch hl =>
    refine ⟨hreq.resting (hidle ?_) rfl (by simp), hfr.early (by simp) ?_ rfl rfl rfl rfl, hgiven⟩
    · rcases hl with ⟨hl, -⟩ | ⟨hl | hl, -⟩ <;> simp [hl]
    · rcases hl with ⟨hl, hw⟩ | ⟨-, hw⟩
      · simp [hw, hfr.1, hl]
      · simp [hw]
  | entersData hl hk hz =>
    obtain ⟨hw, ho, -, he, -, hb, hr⟩ := hfr
    refine ⟨hreq.resting (hidle (by simp [hl])) rfl fun _ => hreq.content_of (.inr (.inl hl)), ⟨?_, ho, ?_, he, fun _ => ⟨hk, hz⟩, hb, hr⟩,
      hgiven⟩
    · simpa [hl] using hw
    · exact fun _ h => absurd rfl h
  | hears v k => exact ⟨hreq, hfr, hgiven⟩
  | seesZero b hl =>
    obtain ⟨hw, ho, hc, he, -, hb, hr⟩ := hfr
    exact ⟨hreq, ⟨hw, ho, hc, he, fun k => absurd k (by simp [hl]), hb, hr⟩, hgiven⟩
  | endsCount hl h0 =>
    obtain ⟨hw, ho, hc, -, -, hb, hr⟩ := hfr
    exact ⟨hreq, ⟨hw, ho, hc, fun _ => h0, fun k => absurd k (by simp [hl]), hb, hr⟩, hgiven⟩
  | badFrame =>
    obtain ⟨hw, ho, hc, he, hd, -, hr⟩ := hfr
    exact ⟨hreq, ⟨hw, ho, hc, he, hd, Nat.min_le_left _ _, hr⟩, hgiven⟩
  | gives a warm ha => exact ⟨hreq, hfr, ha trivial⟩
  | requests tap delta hl hk hm hq => exact ⟨hreq.requests hl hk hm (hq trivial), hfr, hgiven⟩
  | contents hk => exact ⟨hreq.resting hk rfl fun _ => rfl, hfr, hgiven⟩
  | discontents hl hk =>
    refine ⟨hreq.discontent hl hk, hfr.discontent hl, ?_⟩
    unfold Exchange.discontent
    split <;> exact hgiven
  | unmarks => exact ⟨hreq, hfr, hgiven⟩
  | reads f => exact ⟨hreq.reads f, hfr, hgiven⟩
  | frameStarts now => exact ⟨hreq.frameStarts now, hfr, hgiven⟩
  | countsOn hl hk =>
    obtain ⟨hw, ho, -, -, hd, hb, hr⟩ := hfr
    exact ⟨hreq, ⟨hw, nextCount_range ho, fun k => absurd hl k, fun k => absurd k (by simp [hk]), hd, hb, hr⟩, hgiven⟩

/-- An exchange in order composes a word that can be sent (R22, R26, R28, R31). -/
theorem Exchange.Sound.sendable {e : Exchange} (h : e.Sound) (released : Bool) : (e.compose released).sendable = true := by
  obtain ⟨hreq, hfr, hgiven⟩ := h
  have hdelta : -3 ≤ (e.compose released).delta ∧ (e.compose released).delta ≤ 3 := by
    show -3 ≤ e.requestFields.2.1 ∧ e.requestFields.2.1 ≤ 3
    unfold Exchange.requestFields
    split
    · exact zero_within
    · split
      · next q _ hq =>
        obtain ⟨hok, -⟩ := hreq.2.2.2.2.2.2 q (by simp [hq])
        exact ⟨hok.1, hok.2.1⟩
      · exact zero_within
    · exact zero_within
  have happlied : -3 ≤ (e.compose released).applied ∧ (e.compose released).applied ≤ 3 := by
    show -3 ≤ e.answerFields.applied ∧ e.answerFields.applied ≤ 3
    unfold Exchange.answerFields
    split
    · exact zero_within
    · exact hgiven
  have hcount : (e.compose released).count.toNat ≤ 7 ∨ (e.compose released).count = 15 := by
    show e.countSent.toNat ≤ 7 ∨ e.countSent = 15
    unfold Exchange.countSent
    split
    · exact hfr.2.1
    · exact .inr rfl
  unfold TuneFields.sendable
  simpa [hdelta, happlied] using hcount

/-! ### Every exchange and every line -/

/-- Every exchange in order, every answer and word in range: the law that the turns keep. -/
def State.LineLaw (s : State) : Prop :=
  (∀ (i : Lane) (x : Side), (s.exch i x).Sound) ∧ ∀ (j : Lane) (x : Side), (s.txAt j x).line.wordOk = true

theorem State.lineLaw_iff (s : State) : s.LineLaw ↔ s.ExchangesOk ∧ s.WordsOk :=
  ⟨fun ⟨he, hw⟩ => ⟨fun i x => ⟨(he i x).1, (he i x).2.1⟩, fun i x => (he i x).2.2, hw⟩,
    fun ⟨he, hg, hw⟩ => ⟨fun i x => ⟨(he i x).1, (he i x).2, hg i x⟩, hw⟩⟩

theorem State.LineLaw.congr {s t : State} (h : s.LineLaw) (he : t.ex = s.ex) (ht : t.tx = s.tx) : t.LineLaw :=
  ⟨fun i x => State.exch_congr he i x ▸ h.1 i x, fun j x => State.txAt_congr ht j x ▸ h.2 j x⟩

theorem State.LineLaw.report {s t : State} (h : s.LineLaw) (hm : s.ReportMoves t) : t.LineLaw := by
  unfold State.ReportMoves at hm
  rw [hm]
  exact h.congr rfl rfl

theorem State.LineLaw.setExch {s : State} (h : s.LineLaw) (i : Lane) (x : Side) {e : Exchange} (he : e.Sound) :
    (s.setExch i x e).LineLaw := by
  refine ⟨fun j y => ?_, h.2⟩
  by_cases hj : (j, y) = (i, x)
  · obtain ⟨rfl, rfl⟩ := Prod.mk.inj hj
    rw [State.exch_setExch_same]
    exact he
  · rw [State.exch_setExch_ne _ _ hj]
    exact h.1 j y

theorem State.LineLaw.setTxAt {s : State} (h : s.LineLaw) (k : Lane) (x : Side) {p : TxPath} (hp : p.line.wordOk = true) :
    (s.setTxAt k x p).LineLaw := by
  refine ⟨h.1, fun j y => ?_⟩
  by_cases hj : (j, y) = (k, x)
  · obtain ⟨rfl, rfl⟩ := Prod.mk.inj hj
    exact (congrArg (fun q : TxPath => q.line.wordOk) (s.tx_setTxAt_same j y p)).trans hp
  · exact (congrArg (fun q : TxPath => q.line.wordOk) (s.tx_setTxAt_ne p hj)).trans (h.2 j y)

theorem State.LineLaw.clearExchanges {s : State} (h : s.LineLaw) (lanes : List Lane) :
    (s.onExchanges lanes fun i x t => t.clearExchange i x).LineLaw :=
  State.onExchanges_induct (P := State.LineLaw) _
    (fun i x t ht => by
      obtain ⟨hreq, ⟨hw, ho, hc, he, hd, -, hr⟩, hgiven⟩ := ht.1 i x
      exact (ht.setExch i x (e := (t.exch i x).cleared) ⟨hreq, ⟨hw, ho, hc, he, hd, Nat.zero_le _, hr⟩, hgiven⟩).congr rfl rfl) lanes h

theorem State.clearLegs_lanes (legs : List LegId) (s : State) :
    (legs.foldl (fun u n => u.modLeg n Leg.cleared) s).ex = s.ex ∧ (legs.foldl (fun u n => u.modLeg n Leg.cleared) s).tx = s.tx := by
  induction legs generalizing s with
  | nil => exact ⟨rfl, rfl⟩
  | cons n rest ih => exact ih _

theorem State.Turn.lineLaw {s t : State} (h : State.Turn True G c s t) (hs : s.LineLaw) : t.LineLaw := by
  cases h with
  | exch i x e _ he => exact hs.setExch i x (he.sound (hs.1 i x))
  | tx i x p _ hp => exact hs.setTxAt _ x (hp.elim (fun e => e ▸ hs.2 _ x) id)
  | tuning i x b _ =>
    refine hs.setTxAt _ x ?_
    show (readWord (tuneWord ((s.exch i x).compose b))).isSome = true
    rw [readWord_tuneWord ((hs.1 i x).sendable b)]
    rfl
  | clears n lanes _ _ => exact State.LineLaw.clearExchanges (s := s.modLeg n Leg.cleared) (hs.congr rfl rfl) lanes
  | clearsAll _ =>
    have hl := State.clearLegs_lanes allLegs s
    exact (hs.congr hl.1 hl.2).clearExchanges allLanes
  | raises owner code detail _ _ =>
    exact hs.report (s.raiseFault_moves owner code detail)
  | ends owner code _ _ =>
    exact hs.report (s.endCondition_moves owner code)
  | apart _ _ ha => exact hs.congr ha.ex ha.tx
  | acknowledges _ =>
    exact hs.report s.acknowledgeShown_moves
  | resets _ _ _ htx _ hex _ _ =>
    exact ((State.lineLaw_iff _).2 ⟨reset_exchangesOk, reset_wordsOk⟩).congr hex htx
  | _ => exact hs.congr rfl rfl

/-- The laws of the coefficient sets make every lane fit its leg (R38, R45). -/
theorem State.SetsOk.laneFits {s : State} (h : s.SetsOk) (hp : s.ProfilesOk) (i : Lane) (x : Side) : s.LaneFits i x := by
  intro n hn
  obtain ⟨-, -, -, -, -, -, -, -, ⟨hband, -⟩, -⟩ := hp n
  refine ⟨fun hq => ?_, hband⟩
  have hprof : s.profileAt i = (s.leg n).profile := by simp [State.profileAt, hn]
  unfold State.InUseFits
  rw [hprof]
  exact h.2 i x n hn hq

/-- Settles O13: every command is a run of turns with requests and answers in range, and no turn breaks the law. -/
theorem exchangeLawKept : Obligations.ExchangeLawKept := by
  intro s t _ _ hprof hsets hex hw h
  have hs : s.LineLaw := s.lineLaw_iff.2 ⟨hex, hw⟩
  refine t.lineLaw_iff.1 ?_
  unfold step at h
  split at h
  · cases h
    exact hs
  · have hfits : ∀ (i : Lane) (x : Side), s.popped.LaneFits i x := State.SetsOk.laneFits (s := s) hsets hprof
    exact (exec_turns (R := True) (G := False) _ h (.inr rfl) (fun _ => hfits) fun _ hn => nomatch hn).keeps
      (fun _ _ hu hv => hv.lineLaw hu) (hs.congr rfl rfl)

end Sys2Proof.Machine
end

section
/-! PROOF. The law of the management bridge, kept by every step (R138, R141, R143, R144, R145). -/

namespace Sys2Proof.Machine

/-! ### Events of the lanes and legs, as the head, the bridge and the agent see them -/

/-- What an event of a lane or a leg leaves: the head, the bridge, the pending copies, the reset input, and the agent but for
the failure records asked for. -/
structure State.FabricMoves (s t : State) : Prop where
  frame : t = { s with
    now := t.now, freeCount := t.freeCount, loadCount := t.loadCount, slices := t.slices, tx := t.tx, rx := t.rx, ex := t.ex
    legs := t.legs, report := t.report
    agent := { s.agent with records := t.agent.records, spacing := t.agent.spacing, skipped := t.agent.skipped } }
  records : s.agent.records <+: t.agent.records
  spacing : t.agent.spacing = s.agent.spacing ∨ t.agent.spacing = 10000
  skipped : t.agent.skipped = s.agent.skipped ∨ t.agent.skipped ≤ 255

theorem State.FabricMoves.refl (s : State) : s.FabricMoves s := ⟨rfl, List.prefix_rfl, .inl rfl, .inl rfl⟩

theorem State.FabricMoves.trans {s t u : State} (h : s.FabricMoves t) (k : t.FabricMoves u) : s.FabricMoves u := by
  refine ⟨by rw [k.frame, h.frame], h.records.trans k.records, ?_, ?_⟩
  · exact k.spacing.elim (fun e => e ▸ h.spacing) .inr
  · exact k.skipped.elim (fun e => e ▸ h.skipped) .inr

/-- Where the agent stays, the frame alone is to be shown. -/
theorem State.FabricMoves.of_agent {s t : State} (ha : t.agent = s.agent)
    (h : t = { s with now := t.now, freeCount := t.freeCount, loadCount := t.loadCount, slices := t.slices, tx := t.tx, rx := t.rx
                      ex := t.ex, legs := t.legs, report := t.report }) : s.FabricMoves t := by
  refine ⟨?_, ha ▸ List.prefix_rfl, .inl (by rw [ha]), .inl (by rw [ha])⟩
  rw [ha]
  exact h

theorem State.ReportMoves.fabricMoves {s t : State} (h : s.ReportMoves t) : s.FabricMoves t := by
  unfold State.ReportMoves at h
  rw [h]
  exact .of_agent rfl rfl

theorem State.LanesMove.fabricMoves {s t : State} (h : s.LanesMove t) : s.FabricMoves t := by
  unfold State.LanesMove at h
  rw [h]
  exact .of_agent rfl rfl

theorem State.clearLeg_fabricMoves (s : State) (n : LegId) (lanes : List Lane) : s.FabricMoves (s.clearLeg n lanes) :=
  (((s.modLeg_moves n Leg.cleared).fabricMoves).trans
    (State.onExchanges_lanes _ lanes (fun i x t => t.clearExchange i x) fun _ _ _ => rfl).fabricMoves).trans
    (State.deriveAttention_moves _).fabricMoves

theorem State.Turn.fabricMoves {R G : Prop} {n : LegId} {s t : State} (h : State.Turn R G (some n) s t) : s.FabricMoves t := by
  cases h with
  | clears m lanes _ _ => exact s.clearLeg_fabricMoves m lanes
  | raises owner code detail _ _ => exact (s.raiseFault_moves owner code detail).fabricMoves
  | ends owner code _ _ => exact (s.endCondition_moves owner code).fabricMoves
  | asks r => exact ⟨rfl, List.prefix_append _ _, .inr rfl, .inl rfl⟩
  | skips => exact ⟨rfl, List.prefix_rfl, .inl rfl, .inr (Nat.min_le_left _ _)⟩
  | apart _ hc _ => cases hc
  | clearsAll hc => cases hc
  | acknowledges hc => cases hc
  | drops _ hc => cases hc
  | stores _ _ _ _ hc => cases hc
  | resets _ hc => cases hc
  | _ => exact .of_agent rfl rfl

/-- Only the model's time, the paths and the exchanges have moved. -/
def State.PathsMove (s t : State) : Prop := t = { s with now := t.now, tx := t.tx, rx := t.rx, ex := t.ex }

theorem State.PathsMove.trans {s t u : State} (h : s.PathsMove t) (k : t.PathsMove u) : s.PathsMove u := by
  unfold State.PathsMove at *
  rw [k, h]

theorem State.PathsMove.fabricMoves {s t : State} (h : s.PathsMove t) : s.FabricMoves t := by
  unfold State.PathsMove at h
  rw [h]
  exact .of_agent rfl rfl

theorem State.startInterval_spare (s : State) {i : Lane} (x : Side) (h : s.owner i = none) : s.PathsMove (s.startInterval i x) := by
  have hserve : ∀ t : State, t.PathsMove (t.serve i x) := fun t => by
    unfold State.serve
    split <;> rfl
  have hsend : ∀ t : State, t.PathsMove (t.sendTuning i x) := fun _ => rfl
  unfold State.startInterval
  rw [s.endCountZero_spare x h]
  dsimp only
  split
  · rfl
  · exact hsend s
  · exact hsend s
  · exact hsend s
  · split
    · exact hserve s
    · exact State.PathsMove.trans (t := s.modExch i x fun e => { e with ownCount := nextCount e.ownCount }) rfl (hsend _)
  · exact hserve s

/-- The events of lanes and legs, and the commands on a leg. -/
def isFabric : Instr → Bool
  | .signalLost .. | .signalRestored .. | .measurementRecord .. | .tuneFrameArrives .. | .fillFrameArrives .. | .invalidFrame ..
  | .frameIntervalStart .. | .countZeroFrameEnd .. | .frameSilenceExpiry .. | .answerTimerExpiry .. | .trainingBudgetExpiry _
  | .backoffExpiry _ | .bridgeExpiry _ | .cutExpiry _ | .retrain _ | .park _ | .unpark _ | .clear _ => true
  | _ => false

/-- An event of a spare lane moves the model's time, the paths and the exchanges alone (R6). -/
theorem exec_spare {cmd : Instr} {s t : State} (hf : isFabric cmd = true) (hc : s.concerned cmd = none)
    (h : exec cmd s = .next t) : s.PathsMove t := by
  cases cmd
  case signalLost i x a =>
    cases h
    split
    · rfl
    · unfold State.loseSignal
      rw [State.owner_of_reach, show s.owner i = none from hc]
      rfl
  case signalRestored i x a =>
    cases h
    split
    · rfl
    · unfold State.regainSignal
      rw [State.owner_of_reach, show s.owner i = none from hc]
      rfl
  case measurementRecord i x eye rp rq => cases h; rw [s.takeRecord_spare x eye rp rq hc]; rfl
  case tuneFrameArrives i x w => cases h; rw [s.arrive_spare x w hc]; rfl
  case fillFrameArrives i x w => cases h; rw [s.arrive_spare x w hc]; rfl
  case invalidFrame i x w => cases h; rw [s.arrive_spare x w hc]; rfl
  case frameIntervalStart i x => cases h; exact s.startInterval_spare x hc
  case countZeroFrameEnd i x => cases h; rw [s.endCountZero_spare x hc]; rfl
  case frameSilenceExpiry i x =>
    have hw : s.watchRunning i x = none := by simp [State.watchRunning, show s.owner i = none from hc]
    have he : execFrameSilenceExpiry i x s = .next t := h
    rw [execFrameSilenceExpiry, hw] at he
    cases he
    rfl
  case answerTimerExpiry i x =>
    have hw : s.answerRunning i x = none := by simp [State.answerRunning, show s.owner i = none from hc]
    have he : execAnswerTimerExpiry i x s = .next t := h
    rw [execAnswerTimerExpiry, hw] at he
    cases he
    rfl
  all_goals simp [isFabric, State.concerned] at hf hc

theorem exec_fabricMoves {cmd : Instr} {s t : State} (hf : isFabric cmd = true) (h : exec cmd s = .next t) : s.FabricMoves t := by
  cases hc : s.concerned cmd with
  | some n =>
    exact (exec_turns (R := False) (G := False) cmd h (.inl hc.symm) (fun g => g.elim) fun _ _ g => g.elim).keeps
      (P := s.FabricMoves) (fun _ _ hu hv => hu.trans hv.fabricMoves) (.refl s)
  | none => exact (exec_spare hf hc h).fabricMoves

/-! ### The law by what an operation sets -/

theorem State.BridgeOk.congr {s t : State} (h : s.BridgeOk) (hb : t.bridge = s.bridge)
    (hh : t.head = .noMemory → s.head = .noMemory) : t.BridgeOk := by
  obtain ⟨h1, h2, h3, h4, h5, h6, h7⟩ := h
  unfold State.BridgeOk
  rw [hb]
  exact ⟨h1, h2, h3, h4, h5, h6, fun k => h7 (hh k)⟩

/-- A transaction that has the port, with an empty write buffer. -/
theorem State.bridgeOk_of_open {t : State} (hp : t.bridge.port = .bridge) (ho : t.bridge.txn.phase.owns = true)
    (hb : t.bridge.txn.buffer = []) (hs : ∀ p ∈ t.bridge.txn.phase.space.toList, spaceOf t.bridge.combined = p)
    (hsnap : ∀ r ∈ t.bridge.txn.snapshot.toList, r.1 = rowOf t.bridge.combined ∧ r.2.length = 16
      ∧ spaceOf t.bridge.combined = .live ∧ (t.bridge.txn.phase = .readServed ∨ t.bridge.txn.phase = .readDone))
    (hm : t.head = .noMemory → t.bridge.mirror = none) : t.BridgeOk := by
  refine ⟨⟨fun _ => ho, fun _ => hp⟩, by simp [hb], fun h => absurd hb h, by simp [hb], hs, hsnap, hm⟩

/-- A bridge without a transaction on the port. -/
theorem State.bridgeOk_of_closed {t : State} (hp : t.bridge.port ≠ .bridge)
    (ht : t.bridge.txn = .initial ∨ t.bridge.txn = { Txn.initial with phase := .held })
    (hm : t.head = .noMemory → t.bridge.mirror = none) : t.BridgeOk := by
  unfold State.BridgeOk
  rcases ht with ht | ht <;> rw [ht] <;> simpa [Txn.initial, TxnPhase.owns, TxnPhase.space, hp] using hm

theorem Port.afterBridge_ne (p : Port) : p.afterBridge ≠ .bridge := by cases p <;> simp [Port.afterBridge]

theorem State.endTxn_bridgeOk {s : State} (hm : s.head = .noMemory → s.bridge.mirror = none) (acts : List MemAct)
    (a : SwitchAnswer) : (s.endTxn acts a).BridgeOk := State.bridgeOk_of_closed (Port.afterBridge_ne _) (.inl rfl) hm

theorem State.BridgeOk.mirror {s : State} (h : s.BridgeOk) : s.head = .noMemory → s.bridge.mirror = none := h.2.2.2.2.2.2

theorem State.BridgeOk.buffer {s : State} (h : s.BridgeOk) (hp : s.bridge.txn.phase ≠ .writeLive) : s.bridge.txn.buffer = [] := by
  by_contra hb
  exact hp (h.2.2.1 hb)

theorem State.BridgeOk.snapshot {s : State} (h : s.BridgeOk)
    (hp : spaceOf s.bridge.combined ≠ .live ∨ s.bridge.txn.phase ≠ .readServed ∧ s.bridge.txn.phase ≠ .readDone) :
    s.bridge.txn.snapshot = none := by
  obtain ⟨-, -, -, -, -, hsnap, -⟩ := h
  by_contra hne
  obtain ⟨r, hr⟩ := Option.ne_none_iff_exists'.1 hne
  obtain ⟨-, -, hlive, hread⟩ := hsnap r (by simp [hr])
  rcases hp with hp | ⟨h1, h2⟩
  · exact hp hlive
  · exact hread.elim h1 h2

theorem State.BridgeOk.port {s : State} (h : s.BridgeOk) (hp : s.bridge.txn.phase.owns = true) : s.bridge.port = .bridge := h.1.2 hp

/-- A byte out of its place changes what the switch sees alone. -/
theorem State.BridgeOk.outOfPlace {s : State} (h : s.BridgeOk) : s.outOfPlace.BridgeOk := h

/-! ### Address phases (R139, R140, R145) -/

theorem State.BridgeOk.beginServed {s : State} (h : s.BridgeOk) (hp : s.bridge.port = .bridge) (hb : s.bridge.txn.buffer = []) :
    s.beginServed.BridgeOk := by
  refine State.bridgeOk_of_open hp rfl hb (by simp [State.beginServed, State.answer, State.drive, State.setPhase, TxnPhase.space])
    (fun r hr => ?_) h.mirror
  obtain ⟨-, -, -, -, -, hsnap, -⟩ := h
  obtain ⟨h1, h2, h3, -⟩ := hsnap r hr
  exact ⟨h1, h2, h3, .inl rfl⟩

theorem State.BridgeOk.beginForwarded {s : State} (h : s.BridgeOk) (hp : s.bridge.port = .bridge) (hb : s.bridge.txn.buffer = [])
    (hc : spaceOf s.bridge.combined = .memory) (hn : s.head ≠ .noMemory) (acts : List MemAct) : (s.beginForwarded acts).BridgeOk := by
  have hsnap := h.snapshot (.inl (by simp [hc]))
  refine State.bridgeOk_of_open hp rfl hb ?_ ?_ fun k => absurd k hn
  · simp [State.beginForwarded, State.answer, State.drive, State.setPhase, TxnPhase.space]
  · simp [State.beginForwarded, State.answer, State.drive, State.setPhase, hsnap]

theorem State.BridgeOk.beginRead {s : State} (h : s.BridgeOk) (hp : s.bridge.port = .bridge) (hb : s.bridge.txn.buffer = [])
    (answer : MemAnswer) : (s.beginRead answer).BridgeOk := by
  have hend (acts : List MemAct) : (s.endTxn acts .nack).BridgeOk := State.endTxn_bridgeOk h.mirror _ _
  have hunknown (acts : List MemAct) : (s.mirrorUnknown.endTxn acts .nack).BridgeOk := State.endTxn_bridgeOk (fun _ => rfl) _ _
  unfold State.beginRead
  split
  · exact hend _
  · exact h.beginServed hp hb
  · exact h.beginServed hp hb
  · exact h.beginServed hp hb
  · next hc _ hn =>
    have hforward := h.beginForwarded hp hb hc hn
    split
    · split
      · exact hend _
      · exact hforward _
    · split
      · exact hforward _
      · exact hend _
      · exact hunknown _
      · exact hunknown _
      · exact hunknown _

/-- The word address is awaited, with no snapshot left. -/
theorem State.BridgeOk.awaitsWord {s t : State} (h : s.BridgeOk) (hp : s.bridge.port = .bridge) (hb : s.bridge.txn.buffer = [])
    (hsnap : s.bridge.txn.snapshot = none) (hh : t.head = s.head) (hport : t.bridge.port = s.bridge.port)
    (htxn : t.bridge.txn = { s.bridge.txn with phase := .wordAddress }) (hm : t.bridge.mirror = s.bridge.mirror) : t.BridgeOk := by
  refine State.bridgeOk_of_open (hport.trans hp) (by rw [htxn]; rfl) (by rw [htxn]; exact hb) (by simp [htxn, TxnPhase.space])
    (by simp [htxn, hsnap]) fun k => hm.trans (h.mirror (hh ▸ k))

theorem State.BridgeOk.beginWrite {s : State} (h : s.BridgeOk) (hp : s.bridge.port = .bridge) (hb : s.bridge.txn.buffer = [])
    (hsnap : s.bridge.txn.snapshot = none) (memAck : Bool) : (s.beginWrite memAck).BridgeOk := by
  unfold State.beginWrite
  split
  · exact State.endTxn_bridgeOk h.mirror _ _
  · exact h.awaitsWord hp hb hsnap rfl rfl rfl rfl
  · split
    · exact h.awaitsWord hp hb hsnap rfl rfl rfl rfl
    · exact State.endTxn_bridgeOk h.mirror _ _

/-! ### Word address and bytes (R138, R139, R142, R143) -/

theorem writePhase_space (p : Space) : p.writePhase.space = some p := by cases p <;> rfl

theorem writePhase_owns (p : Space) : p.writePhase.owns = true := by cases p <;> rfl

/-- A write's data phase begins in the space of the combined pointer. -/
theorem State.bridgeOk_of_write {t : State} (hp : t.bridge.port = .bridge)
    (ht : t.bridge.txn.phase = (spaceOf t.bridge.combined).writePhase) (hb : t.bridge.txn.buffer = [])
    (hsnap : t.bridge.txn.snapshot = none) (hm : t.head = .noMemory → t.bridge.mirror = none) : t.BridgeOk :=
  State.bridgeOk_of_open hp (by rw [ht, writePhase_owns]) hb (by simp [ht, writePhase_space]) (by simp [hsnap]) hm

theorem State.endAbnormally_bridgeOk {s : State} (h : s.BridgeOk) (acts : List MemAct) : (s.endAbnormally acts).BridgeOk := by
  unfold State.endAbnormally
  split
  · exact State.endTxn_bridgeOk (fun _ => rfl) _ _
  · exact State.endTxn_bridgeOk h.mirror _ _

theorem State.BridgeOk.setPointers {s : State} (h : s.BridgeOk) (hp : s.bridge.txn.phase = .wordAddress) (a : BusAddr) :
    (s.setPointers a).BridgeOk := by
  have hport := h.port (by rw [hp]; rfl)
  have hb := h.buffer (by simp [hp])
  have hsnap := h.snapshot (.inr (by simp [hp]))
  by_cases hm : s.bridge.memOpen = true
  · have hmirror : s.head = .noMemory → (if s.head = .noMemory then none else some (memoryPointer a)) = none := fun k => if_pos k
    unfold State.setPointers
    rw [if_pos hm]
    dsimp only
    split
    · exact State.bridgeOk_of_write hport rfl hb hsnap hmirror
    · exact State.bridgeOk_of_write hport rfl hb hsnap hmirror
  · rw [State.setPointers_closed (by simpa using hm)]
    exact State.bridgeOk_of_write hport rfl hb hsnap h.mirror

theorem State.BridgeOk.wordArrives {s : State} (h : s.BridgeOk) (high low : WordByte) : (s.wordArrives high low).BridgeOk := by
  unfold State.wordArrives
  split
  · next hp =>
    split
    · exact State.bridgeOk_of_write (h.port (by rw [hp]; rfl)) rfl (h.buffer (by simp [hp]))
        (h.snapshot (.inr (by simp [hp]))) h.mirror
    · split
      · exact State.endAbnormally_bridgeOk h _
      · split
        · exact State.endAbnormally_bridgeOk h _
        · exact h.setPointers hp _
  · exact h

/-- The pointer after a written byte stays in its space (R138). -/
theorem spaceOf_nextWrite (a : BusAddr) : spaceOf (nextWrite a) = spaceOf a := by
  have ha := a.isLt
  cases hs : spaceOf a with
  | memory =>
    have hlt := (spaceOf_memory_iff a).1 hs
    rw [spaceOf_memory_iff, nextWrite_memory hs]
    omega
  | live =>
    obtain ⟨h1, h2⟩ := (spaceOf_live_iff a).1 hs
    rw [spaceOf_live_iff, nextWrite_live hs]
    split <;> omega
  | void =>
    have h1 := (spaceOf_void_iff a).1 hs
    rw [spaceOf_void_iff, nextWrite_void hs]
    split <;> omega

/-- A data byte of a write, the buffer grown by at most the byte at the pointer. -/
theorem State.BridgeOk.pastByte {s t : State} (h : s.BridgeOk) (hw : s.bridge.txn.phase.writes = true)
    (hport : t.bridge.port = s.bridge.port) (hc : t.bridge.combined = nextWrite s.bridge.combined)
    (hphase : t.bridge.txn.phase = s.bridge.txn.phase) (hsnap : t.bridge.txn.snapshot = s.bridge.txn.snapshot)
    (hbuf : t.bridge.txn.buffer = s.bridge.txn.buffer
      ∨ s.bridge.txn.phase = .writeLive ∧ ∃ v, t.bridge.txn.buffer = bufferByte s.bridge.txn.buffer s.bridge.combined v)
    (hm : t.head = .noMemory → t.bridge.mirror = none) : t.BridgeOk := by
  have hnone := h.snapshot (.inr (by constructor <;> intro k <;> rw [k] at hw <;> cases hw))
  obtain ⟨h1, h2, h3, h4, h5, -, -⟩ := h
  have hin : ∀ v, (bufferByte s.bridge.txn.buffer s.bridge.combined v).length ≤ 16
      ∧ ∀ b ∈ bufferByte s.bridge.txn.buffer s.bridge.combined v, b ∈ s.bridge.txn.buffer ∨ b.1 = s.bridge.combined := fun v => by
    unfold bufferByte
    split
    · next hlt =>
      refine ⟨by rw [List.length_append]; exact hlt, fun b hb => ?_⟩
      rcases List.mem_append.1 hb with hb | hb
      · exact .inl hb
      · exact .inr (by rw [List.mem_singleton.1 hb])
    · exact ⟨h2, fun b hb => .inl hb⟩
  refine ⟨by rw [hport, hphase]; exact h1, ?_, fun hne => ?_, fun b hb => ?_, ?_, by simp [hsnap, hnone], hm⟩
  · rcases hbuf with e | ⟨-, v, e⟩ <;> rw [e]
    · exact h2
    · exact (hin v).1
  · rw [hphase]
    rcases hbuf with e | ⟨hl, -⟩
    · exact h3 (e ▸ hne)
    · exact hl
  · rcases hbuf with e | ⟨hl, v, e⟩ <;> rw [e] at hb
    · exact h4 b hb
    · rcases (hin v).2 b hb with hb | hb
      · exact h4 b hb
      · rw [hb]
        exact h5 .live (by simp [hl, TxnPhase.space])
  · intro p hp
    rw [hc, spaceOf_nextWrite]
    exact h5 p (hphase ▸ hp)

theorem State.BridgeOk.discardByte {s : State} (h : s.BridgeOk) (hw : s.bridge.txn.phase.writes = true) : s.discardByte.BridgeOk :=
  h.pastByte hw rfl rfl rfl rfl (.inl rfl) h.mirror

theorem State.BridgeOk.writtenByte {s : State} (h : s.BridgeOk) {phase : TxnPhase}
    {take : State → State} (htake : s.bridge.txn.phase = phase → (take s).BridgeOk) : (s.writtenByte phase take).BridgeOk := by
  unfold State.writtenByte
  split
  · next hr => exact h.discardByte (Bool.and_eq_true_iff.1 hr).2
  · split
    · next hp => exact htake hp
    · exact h

theorem State.snoop_head (s : State) (a : BusAddr) (v : Byte) : (s.snoop a v).head = s.head := by
  unfold State.snoop
  split <;> rfl

theorem State.BridgeOk.memoryByte {s : State} (h : s.BridgeOk) (v : Byte) (memAck : Bool) : (s.memoryByte v memAck).BridgeOk := by
  refine h.writtenByte fun hp => ?_
  have hw : s.bridge.txn.phase.writes = true := by rw [hp]; rfl
  unfold State.takeMemoryByte
  split
  · split
    · rw [State.forwardByte_eq]
      refine h.pastByte hw rfl rfl rfl rfl (.inl rfl) fun k => ?_
      show s.bridge.mirror.map pageNext = none
      rw [h.mirror ((s.snoop_head s.bridge.combined v).symm.trans k)]
      rfl
    · exact State.endAbnormally_bridgeOk h _
  · exact h.discardByte hw

theorem State.BridgeOk.liveByte {s : State} (h : s.BridgeOk) (v : Byte) : (s.liveByte v).BridgeOk := by
  refine h.writtenByte fun hp => ?_
  exact h.pastByte (by rw [hp]; rfl) rfl rfl rfl rfl (.inr ⟨hp, v, rfl⟩) h.mirror

theorem State.BridgeOk.voidByte {s : State} (h : s.BridgeOk) : s.voidByte.BridgeOk :=
  h.writtenByte fun hp => h.discardByte (by rw [hp]; rfl)

theorem State.BridgeOk.forwardedByte {s : State} (h : s.BridgeOk) (v : Byte) (switchAck : Bool) :
    (s.forwardedByte v switchAck).BridgeOk := by
  by_cases hp : s.bridge.txn.phase = .readForwarded
  · rw [State.forwardedByte_eq hp]
    have hphase : (if switchAck then TxnPhase.readForwarded else .readDone).owns = true
        ∧ (if switchAck then TxnPhase.readForwarded else .readDone).space = none := by
      cases switchAck <;> exact ⟨rfl, rfl⟩
    refine State.bridgeOk_of_open (h.port (by rw [hp]; rfl)) hphase.1 (h.buffer (by simp [hp])) (by rw [hphase.2]; simp) ?_
      fun k => by simp [h.mirror k]
    simp [h.snapshot (.inr (by simp [hp]))]
  · unfold State.forwardedByte
    rw [if_neg hp]
    exact h

theorem State.BridgeOk.snapshotFor_length {s : State} (h : s.BridgeOk) : (s.snapshotFor s.bridge.combined).2.length = 16 := by
  have hfresh : (s.rowBytes (rowOf s.bridge.combined)).length = 16 := padTo_length _ _
  obtain ⟨-, -, -, -, -, hsnap, -⟩ := h
  cases hq : s.bridge.txn.snapshot with
  | none => rw [State.snapshotFor_of_none hq]; exact hfresh
  | some q =>
    rw [State.snapshotFor_of_some hq]
    split
    · exact (hsnap q (by simp [hq])).2.1
    · exact hfresh

theorem spaceOf_nextRead_live {a : BusAddr} (h : spaceOf a = .live) : spaceOf (nextRead a) = .live := by
  obtain ⟨h1, h2⟩ := (spaceOf_live_iff a).1 h
  rw [spaceOf_live_iff, nextRead_live h]
  split <;> omega

theorem State.BridgeOk.servedByte {s : State} (h : s.BridgeOk) (switchAck : Bool) : (s.servedByte switchAck).BridgeOk := by
  by_cases hp : s.bridge.txn.phase = .readServed
  · rw [State.servedByte_eq hp]
    have hphase : (if switchAck then TxnPhase.readServed else .readDone).owns = true
        ∧ (if switchAck then TxnPhase.readServed else .readDone).space = none
        ∧ ((if switchAck then TxnPhase.readServed else .readDone) = .readServed
          ∨ (if switchAck then TxnPhase.readServed else .readDone) = .readDone) := by
      cases switchAck
      · exact ⟨rfl, rfl, .inr rfl⟩
      · exact ⟨rfl, rfl, .inl rfl⟩
    refine State.bridgeOk_of_open (h.port (by rw [hp]; rfl)) hphase.1 (h.buffer (by simp [hp])) (by rw [hphase.2.1]; simp) ?_ h.mirror
    intro r hr
    have hmem : s.servedSnapshot = some r := Option.mem_toList.1 hr
    have hlive : spaceOf s.bridge.combined = .live := by
      by_contra hne
      unfold State.servedSnapshot at hmem
      split at hmem
      · contradiction
      · cases hmem
    rw [State.servedSnapshot_live hlive] at hmem
    split at hmem
    · next hrow =>
      cases hmem
      exact ⟨(s.snapshotFor_row _).trans ((rowOf_nextRead hlive).2 hrow).symm, h.snapshotFor_length,
        (spaceOf_nextRead_live hlive), hphase.2.2⟩
    · cases hmem
  · unfold State.servedByte
    rw [if_neg hp]
    exact h

/-! ### The write buffer, a repeated START and the STOP (R139, R143) -/

theorem TxnPhase.afterReload_owns (p : TxnPhase) : p.afterReload.owns = p.owns := by cases p <;> rfl

theorem TxnPhase.afterReload_space (p : TxnPhase) : p.afterReload.space = p.space := by cases p <;> rfl

/-- The bridge after a reload: the transaction runs on without buffer and snapshot (R145). -/
theorem State.BridgeOk.afterReload {s t : State} (h : s.BridgeOk) (hh : t.head = .loading) (hb : t.bridge = { s.bridge with
    txn := { phase := s.bridge.txn.phase.afterReload, runOn := s.bridge.txn.phase.runsOn, buffer := [], snapshot := none } }) :
    t.BridgeOk := by
  obtain ⟨h1, -, -, -, h5, -, -⟩ := h
  unfold State.BridgeOk
  rw [hb]
  refine ⟨h1.trans (by rw [TxnPhase.afterReload_owns]), by simp, by simp, by simp, fun p hp => h5 p ?_, by simp, by simp [hh]⟩
  rwa [← TxnPhase.afterReload_space]

theorem State.BridgeOk.applyByte {s : State} (h : s.BridgeOk) (a : BusAddr) (v : Byte) : (s.applyByte a v).BridgeOk := by
  rcases s.applyByte_cases a v with hm | ⟨hw, -, -, hr⟩
  · obtain ⟨hh, hb, -⟩ := hm.keeps
    exact h.congr hb fun k => hh ▸ k
  · obtain ⟨hh, -, hb⟩ := s.reloadHead_keeps hw
    rw [hr]
    exact h.afterReload hh hb

theorem State.BridgeOk.applyBytes {s : State} (h : s.BridgeOk) (bytes : List (BusAddr × Byte)) : (s.applyBytes bytes).BridgeOk := by
  unfold State.applyBytes
  induction bytes generalizing s with
  | nil => exact h
  | cons b rest ih => exact ih (h.applyByte b.1 b.2)

/-- The buffer's bytes leave the transaction as it was, its buffer emptied, or take it through a reload. -/
theorem State.BridgeOk.applyBuffer {s : State} (h : s.BridgeOk) (ho : s.bridge.txn.phase.owns = true) :
    s.applyBuffer.BridgeOk ∧ s.applyBuffer.bridge.port = .bridge ∧ s.applyBuffer.bridge.txn.buffer = []
      ∧ s.applyBuffer.bridge.txn.phase.owns = true := by
  have hport := h.port ho
  obtain ⟨h1, -, -, -, h5, h6, h7⟩ := h
  have hempty : State.BridgeOk { s with bridge := { s.bridge with txn := { s.bridge.txn with buffer := [] } } } :=
    ⟨h1, by simp, by simp, by simp, h5, h6, h7⟩
  unfold State.applyBuffer
  generalize hu : ({ s with bridge := { s.bridge with txn := { s.bridge.txn with buffer := [] } } } : State) = u at hempty
  have hub : u.bridge.port = .bridge ∧ u.bridge.txn.buffer = [] ∧ u.bridge.txn.phase.owns = true := by
    rw [← hu]
    exact ⟨hport, rfl, ho⟩
  refine ⟨hempty.applyBytes _, ?_⟩
  by_cases hw : u.windowOpen = true
  · rcases u.applyBytes_cases s.bridge.txn.buffer hw with ⟨-, hb⟩ | ⟨-, hb⟩ <;> rw [hb]
    · exact hub
    · exact ⟨hub.1, rfl, by rw [TxnPhase.afterReload_owns]; exact hub.2.2⟩
  · rw [State.applyBytes_closed _ _ (by simpa using hw)]
    exact hub

theorem TxnPhase.owns_of_runsOn {p : TxnPhase} (h : p.runsOn = true) : p.owns = true := by cases p <;> simp_all [TxnPhase.runsOn, TxnPhase.owns]

theorem State.BridgeOk.leaveWordAddress {s : State} (h : s.BridgeOk) : s.leaveWordAddress.BridgeOk := by
  unfold State.leaveWordAddress
  split
  · obtain ⟨h1, h2, h3, h4, h5, h6, -⟩ := h
    exact ⟨h1, h2, h3, h4, h5, h6, fun _ => rfl⟩
  · exact h

theorem State.leaveWordAddress_txn (s : State) :
    s.leaveWordAddress.bridge.txn = s.bridge.txn ∧ s.leaveWordAddress.head = s.head := by
  unfold State.leaveWordAddress
  split <;> exact ⟨rfl, rfl⟩

theorem State.BridgeOk.repeatStart {s : State} (h : s.BridgeOk) (target : RestartTarget) (answer : MemAnswer) :
    (s.repeatStart target answer).BridgeOk := by
  unfold State.repeatStart
  split
  · next hr =>
    obtain ⟨hok, hport, hbuf, -⟩ := h.leaveWordAddress.applyBuffer
      (by rw [s.leaveWordAddress_txn.1]; exact TxnPhase.owns_of_runsOn hr)
    generalize s.leaveWordAddress.applyBuffer = u at hok hport hbuf
    have hdrop : (u.dropSnapshot target).BridgeOk ∧ (u.dropSnapshot target).bridge.port = .bridge
        ∧ (u.dropSnapshot target).bridge.txn.buffer = []
        ∧ (target = .write → (u.dropSnapshot target).bridge.txn.snapshot = none) := by
      unfold State.dropSnapshot
      split
      · obtain ⟨h1, h2, h3, h4, h5, -, h7⟩ := hok
        exact ⟨⟨h1, h2, h3, h4, h5, fun r hr => (nomatch hr), h7⟩, hport, hbuf, fun _ => rfl⟩
      · next hne => exact ⟨hok, hport, hbuf, fun k => absurd k hne⟩
    obtain ⟨dok, dport, dbuf, dsnap⟩ := hdrop
    generalize u.dropSnapshot target = v at dok dport dbuf dsnap
    dsimp only
    split
    · cases target with
      | read => exact dok.beginServed dport dbuf
      | write => exact dok.awaitsWord dport dbuf (dsnap rfl) rfl rfl rfl rfl
      | otherAddress => exact State.endTxn_bridgeOk dok.mirror _ _
    · cases target with
      | read => exact dok.beginRead dport dbuf answer
      | write => exact dok.beginWrite dport dbuf (dsnap rfl) _
      | otherAddress => exact State.endTxn_bridgeOk dok.mirror _ _
  · exact h

theorem State.BridgeOk.stopTxn {s : State} (h : s.BridgeOk) : s.stopTxn.BridgeOk := by
  by_cases hn : s.bridge.txn.phase = .none
  · simpa [State.stopTxn, hn] using h
  · by_cases hh : s.bridge.txn.phase = .held
    · simpa [State.stopTxn, hh] using h
    · rw [State.stopTxn_eq hn hh]
      exact (State.endTxn_bridgeOk h.leaveWordAddress.mirror _ _).applyBytes _

end Sys2Proof.Machine
end

section
/-! PROOF. The law of the bridge at the events of the agent and of the reset input, and so at every step (R138, R143 to R146,
R162 to R167). -/

namespace Sys2Proof.Machine

/-! ### The window's bytes and the load's end, as the head, the bridge and the agent see them -/

theorem State.Turns.fabricMoves {R G : Prop} {n : LegId} {s t : State} (h : State.Turns R G (some n) s t) : s.FabricMoves t :=
  h.keeps (P := s.FabricMoves) (fun _ _ hu hv => hu.trans hv.fabricMoves) (.refl s)

theorem State.legCommand_fabricMoves (s : State) (n : LegId) (f : State → State) (h : s.FabricMoves (f s)) :
    s.FabricMoves (s.legCommand n f) := by
  unfold State.legCommand State.whenOpen
  split
  · dsimp only
    split
    · exact h
    · exact .refl s
  · exact .refl s

theorem State.whenOpen_fabricMoves (s : State) (f : State → State) (h : s.FabricMoves (f s)) : s.FabricMoves (s.whenOpen f) := by
  unfold State.whenOpen
  split
  · exact h
  · exact .refl s

theorem State.GroupClosed.vacuous {n : LegId} (s : State) : ∀ m ∈ some n, False → s.GroupClosed n := fun _ _ h => h.elim

theorem State.legCommandByte_fabricMoves (s : State) (n : LegId) (v : Byte) : s.FabricMoves (s.legCommandByte n v) := by
  have hc := covers_self n
  have hg := State.GroupClosed.vacuous (n := n) s
  unfold State.legCommandByte
  split
  · exact s.legCommand_fabricMoves n _ (s.retrainLeg_turns (R := False) hc hg).fabricMoves
  · split
    · exact s.legCommand_fabricMoves n _ (s.parkLeg_turns (R := False) (G := False) _ hc).fabricMoves
    · split
      · exact s.legCommand_fabricMoves n _ (s.unparkLeg_turns (R := False) hc hg).fabricMoves
      · split
        · exact s.legCommand_fabricMoves n _ (s.clearLeg_fabricMoves n _)
        · exact .refl s

theorem State.clearAll_fabricMoves (s : State) : s.FabricMoves s.clearAll := by
  have hlegs := State.foldLegs_only Leg.cleared s
  have hfold : s.FabricMoves (allLegs.foldl (fun t n => t.modLeg n Leg.cleared) s) := by
    rw [hlegs]
    exact .of_agent rfl rfl
  exact (hfold.trans (State.onExchanges_lanes _ allLanes (fun i x t => t.clearExchange i x) fun _ _ _ => rfl).fabricMoves).trans
    (State.deriveAttention_moves _).fabricMoves

theorem State.headCommandByte_fabricMoves (s : State) (v : Byte) (h : v ≠ 1) : s.FabricMoves (s.headCommandByte v) := by
  unfold State.headCommandByte
  rw [if_neg h]
  split
  · exact s.whenOpen_fabricMoves _ (.of_agent rfl rfl)
  · split
    · exact s.whenOpen_fabricMoves _ (.of_agent rfl rfl)
    · split
      · exact s.whenOpen_fabricMoves _ s.clearAll_fabricMoves
      · exact .refl s

/-- A byte of the live window is one of the fabric's moves, or the reload taken. -/
theorem State.applyByte_fabric (s : State) (a : BusAddr) (v : Byte) :
    s.FabricMoves (s.applyByte a v) ∨ s.windowOpen = true ∧ s.applyByte a v = s.reloadHead := by
  unfold State.applyByte
  split
  · by_cases hv : v = 1
    · by_cases hw : s.windowOpen = true
      · exact .inr ⟨hw, by simp [State.headCommandByte, hv]⟩
      · exact .inl (by simp [State.headCommandByte, hv, State.reloadHead, hw]; exact .refl s)
    · exact .inl (s.headCommandByte_fabricMoves v hv)
  · exact .inl (s.whenOpen_fabricMoves _ (s.storeViewMode_moves v).fabricMoves)
  · exact .inl (s.whenOpen_fabricMoves _ (.of_agent rfl rfl))
  · exact .inl (s.whenOpen_fabricMoves _ (.of_agent rfl rfl))
  · exact .inl (s.whenOpen_fabricMoves _ (s.storeEventMode_moves v).fabricMoves)
  · exact .inl (s.whenOpen_fabricMoves _ (s.storeRollover_moves v).fabricMoves)
  · exact .inl (s.legCommandByte_fabricMoves _ v)
  · exact .inl (s.whenOpen_fabricMoves _ (.of_agent rfl rfl))
  · exact .inl (s.whenOpen_fabricMoves _ (.of_agent rfl rfl))
  · exact .inl (s.whenOpen_fabricMoves _ s.acknowledgeShown_moves.fabricMoves)
  · exact .inl (.refl s)

theorem State.onLegs_fabricMoves (f : State → LegId → State) (hf : ∀ (t : State) (n : LegId), t.FabricMoves (f t n))
    (legs : List LegId) (s : State) : s.FabricMoves (legs.foldl f s) := by
  induction legs generalizing s with
  | nil => exact .refl s
  | cons n rest ih => exact (hf s n).trans (ih _)

theorem State.noPlan_fabricMoves (s : State) : s.FabricMoves s.noPlan := by
  have h := s.noPlan_frame
  generalize s.noPlan = t at h
  rw [h]
  exact .of_agent rfl rfl

theorem State.endProfileBads_fabricMoves (s : State) : s.FabricMoves s.endProfileBads :=
  s.endProfileBads_condsMove.moves.fabricMoves

theorem State.countLoad_fabricMoves (s : State) : s.FabricMoves s.countLoad := .of_agent rfl rfl

theorem State.setSlice_fabricMoves (s : State) (i : Lane) (d : Slice) : s.FabricMoves (s.setSlice i d) := .of_agent rfl rfl

theorem State.installPlan_fabricMoves (s : State) : s.FabricMoves s.installPlan := by
  have hl : s.FabricMoves s.lapsePlan := by
    rw [s.lapsePlan_only_slices]
    exact .of_agent rfl rfl
  have hlegs := State.onLegs_fabricMoves (fun u n =>
    u.modLeg n fun l => { l.standDown with state := .parked, width := headerWidth s.pendingHeader n
                                           first := if headerWidth s.pendingHeader n = 0 then 0 else dealtFirst s.pendingHeader n })
    (fun _ _ => .of_agent rfl rfl) allLegs s.lapsePlan
  have ht := hl.trans hlegs
  unfold State.installPlan
  exact State.onLanes_induct (P := s.FabricMoves) _ (fun i u hu => hu.trans (u.setSlice_fabricMoves i _)) allLanes ht

theorem State.forgetAll_fabricMoves (s : State) (lanes : List Lane) :
    s.FabricMoves (s.onExchanges lanes fun i x u => u.forgetLearned i x) := by
  have h := s.forgetAll_only lanes
  generalize (s.onExchanges lanes fun i x u => u.forgetLearned i x) = t at h
  rw [h]
  exact .of_agent rfl rfl

theorem State.endRunning_fabricMoves (s : State) : (s.closeLoad .running).FabricMoves s.endRunning := by
  have ht := (s.closeLoad .running).installPlan_fabricMoves
  unfold State.endRunning
  dsimp only
  generalize (s.closeLoad .running).installPlan = t at ht
  refine State.FabricMoves.trans ?_ (State.countLoad_fabricMoves _)
  refine State.FabricMoves.trans ?_ (State.onLegs_fabricMoves _
    (fun u n => (u.settleLeg_turns (R := False) _ (covers_self n) (State.GroupClosed.vacuous u)).fabricMoves) _ _)
  refine State.FabricMoves.trans ?_ (State.endCondition_moves _ _ _).fabricMoves
  exact ht.trans (t.forgetAll_fabricMoves _)

theorem State.endPlanBad_fabricMoves (s : State) : (s.closeLoad .planBad).FabricMoves s.endPlanBad :=
  (((State.noPlan_fabricMoves _).trans (State.raiseFault_moves _ _ _ _).fabricMoves).trans
    (State.endProfileBads_fabricMoves _)).trans (State.countLoad_fabricMoves _)

/-- A load whose chunks were all read ends in RUNNING or PLAN_BAD. -/
theorem State.endLoad_fabricMoves (s : State) :
    ∃ head : HeadState, (head = .running ∨ head = .planBad) ∧ (s.closeLoad head).FabricMoves s.endLoad := by
  unfold State.endLoad
  split
  · exact ⟨.running, .inl rfl, s.endRunning_fabricMoves⟩
  · exact ⟨.planBad, .inr rfl, s.endPlanBad_fabricMoves⟩

theorem State.inEitherOrder_fabricMoves (s : State) (f g : State → State) (hf : ∀ t : State, t.FabricMoves (f t))
    (hg : ∀ t : State, t.FabricMoves (g t)) : s.FabricMoves (s.inEitherOrder f g) := by
  have hcount : s.FabricMoves { s with freeCount := s.freeCount + 1 } := .of_agent rfl rfl
  unfold State.inEitherOrder
  dsimp only
  split
  · exact (hcount.trans (hg _)).trans (hf _)
  · exact (hcount.trans (hf _)).trans (hg _)

/-- A load that ends in NO_MEMORY, the mirror unknown. -/
theorem State.endNoMemory_fabricMoves (s : State) :
    ∃ u : State, (s.closeLoad .noMemory).FabricMoves u
      ∧ ({ u with bridge := { u.bridge with mirror := none } } : State).FabricMoves s.endNoMemory := by
  refine ⟨_, State.noPlan_fabricMoves _, ?_⟩
  unfold State.endNoMemory
  dsimp only
  refine State.FabricMoves.trans ?_ (State.countLoad_fabricMoves _)
  refine State.FabricMoves.trans ?_ (State.endProfileBads_fabricMoves _)
  split
  · exact State.inEitherOrder_fabricMoves _ _ _ (fun t => (t.raiseFault_moves _ _ _).fabricMoves)
      fun t => (t.endCondition_moves _ _).fabricMoves
  · exact (State.raiseFault_moves _ _ _ _).fabricMoves

/-! ### The law of the bridge at the events of the agent (R144, R162 to R167) -/

theorem State.FabricMoves.keeps {s t : State} (h : s.FabricMoves t) :
    t.bridge = s.bridge ∧ t.head = s.head ∧ t.resetHeld = s.resetHeld := by
  rw [h.frame]
  exact ⟨rfl, rfl, rfl⟩

theorem State.FabricMoves.bridgeOk {s t : State} (h : s.FabricMoves t) (hs : s.BridgeOk) : t.BridgeOk :=
  hs.congr h.keeps.1 fun k => h.keeps.2.1 ▸ k

/-- What the agent does at a port that is not the bridge's. -/
theorem State.BridgeOk.atAgent {s t : State} (h : s.BridgeOk) (hp : s.bridge.port ≠ .bridge) (ht : t.bridge.port ≠ .bridge)
    (htxn : t.bridge.txn = s.bridge.txn) (hc : t.bridge.combined = s.bridge.combined)
    (hm : t.head = .noMemory → t.bridge.mirror = none) : t.BridgeOk := by
  obtain ⟨h1, h2, h3, h4, h5, h6, -⟩ := h
  have howns : ¬ s.bridge.txn.phase.owns = true := fun k => hp (h1.2 k)
  unfold State.BridgeOk
  rw [htxn, hc]
  exact ⟨⟨fun k => absurd k ht, fun k => absurd k howns⟩, h2, h3, h4, h5, h6, hm⟩

theorem State.BridgeOk.switchStarts {s : State} (h : s.BridgeOk) : s.switchStarts.BridgeOk := by
  unfold State.switchStarts
  split
  · exact h
  · split
    · exact State.bridgeOk_of_open rfl rfl rfl (by simp [State.beginTxn, TxnPhase.space]) (by simp [State.beginTxn, Txn.initial])
        h.mirror
    · exact State.bridgeOk_of_closed (by simp [State.beginTxn]) (.inr rfl) h.mirror
    · exact h

theorem State.BridgeOk.givePort {s : State} (h : s.BridgeOk) : s.givePort.BridgeOk := by
  unfold State.givePort
  split
  · exact h
  · split
    · exact State.bridgeOk_of_open rfl rfl rfl (by simp [State.beginTxn, TxnPhase.space]) (by simp [State.beginTxn, Txn.initial])
        h.mirror
    · exact h

theorem State.BridgeOk.agentTakes {s : State} (h : s.BridgeOk) : s.agentTakes.BridgeOk := by
  unfold State.agentTakes
  split
  · next hp =>
    split
    · exact h.atAgent (by simp [hp.1]) (by simp [State.startJob]) rfl rfl h.mirror
    · exact h
  · exact h

theorem State.BridgeOk.chunkRefused {s : State} (h : s.BridgeOk) {job : AgentJob} (hp : s.bridge.port = .agent job) (at_ : NackAt) :
    (s.chunkRefused job at_).BridgeOk := by
  by_cases hj : job = .recovery
  · subst hj
    exact h
  · have hb := s.chunkRefused_bridge hj at_
    have hh : (s.chunkRefused job at_).head = s.head := by rw [s.chunkRefused_frame job at_]
    refine h.atAgent (by simp [hp]) (by rw [hb]; simp) (by rw [hb]) (by rw [hb]) fun k => ?_
    rw [hb]
    show (if at_ = .addressByte then s.bridge.mirror else none) = none
    split
    · exact h.mirror (hh ▸ k)
    · rfl

theorem State.BridgeOk.chunkRead {s : State} (h : s.BridgeOk) (hp : s.bridge.port ≠ .bridge) (a : BusAddr) :
    (s.chunkRead a).BridgeOk ∧ (s.chunkRead a).bridge.port = .free := by
  have hmoved : ((s.releasePort (readActs a ++ [.stop])).moveMirror (memoryPointer (a + 64))).BridgeOk :=
    h.atAgent hp (by simp [State.moveMirror, State.releasePort]) rfl rfl fun k => if_pos k
  have hm := ((s.releasePort (readActs a ++ [.stop])).moveMirror (memoryPointer (a + 64))).endCondition_moves none .memoryFault
  exact ⟨hm.fabricMoves.bridgeOk hmoved, congrArg Bridge.port hm.fabricMoves.keeps.1⟩

theorem State.chunkRunning_port {s : State} {l : Load} (h : s.chunkRunning = some l) :
    s.bridge.port = .agent .loadChunk ∧ s.agent.load = some l := by
  unfold State.chunkRunning at h
  split at h
  · next hp => exact ⟨hp, h⟩
  · cases h

theorem State.recoveryRunning_port {s : State} {l : Load} (h : s.recoveryRunning = some l) :
    s.bridge.port = .agent .recovery ∧ s.agent.load = some l := by
  unfold State.recoveryRunning at h
  split at h
  · next hp => exact ⟨hp, h⟩
  · cases h

/-- The head leaves NO_MEMORY's law alone where it turns to another state. -/
theorem State.BridgeOk.endLoad {s : State} (h : s.BridgeOk) : s.endLoad.BridgeOk := by
  obtain ⟨head, hhead, hm⟩ := s.endLoad_fabricMoves
  refine hm.bridgeOk (h.congr rfl fun k => ?_)
  have hk : head = .noMemory := k
  rcases hhead with e | e <;> simp [e] at hk

theorem State.BridgeOk.slotRead {s : State} (h : s.BridgeOk) (hp : s.bridge.port ≠ .bridge) (l : Load) (k : Fin 8) (bytes : Page) :
    (s.slotRead l k bytes).BridgeOk := by
  have hread := (h.chunkRead hp (slotAddress k)).1
  unfold State.slotRead
  generalize s.chunkRead (slotAddress k) = t at hread
  dsimp only
  split
  · exact State.BridgeOk.endLoad (hread.congr rfl fun k => k)
  · exact hread.congr rfl fun k => k

theorem State.BridgeOk.headerRead {s : State} (h : s.BridgeOk) (hp : s.bridge.port ≠ .bridge) (l : Load) (bytes : Page) :
    (s.headerRead l bytes).BridgeOk := by
  have hread := (h.chunkRead hp 0x0000).1
  unfold State.headerRead
  generalize s.chunkRead 0x0000 = t at hread
  exact hread.congr rfl fun k => k

theorem State.BridgeOk.legRead {s : State} (h : s.BridgeOk) (hp : s.bridge.port ≠ .bridge) (l : Load) (n : LegId) (bytes : Page) :
    (s.legRead l n bytes).BridgeOk := by
  have hread := (h.chunkRead hp (BitVec.ofNat 16 (0x0040 + 64 * n.val))).1
  unfold State.legRead
  generalize s.chunkRead (BitVec.ofNat 16 (0x0040 + 64 * n.val)) = t at hread
  exact hread.congr rfl fun k => k

theorem State.BridgeOk.dropJob {s : State} (h : s.BridgeOk) (job : AgentJob) : (s.dropJob job).BridgeOk := by
  unfold State.dropJob
  split
  · next hp => exact h.atAgent (by simp [hp]) (by simp [State.releasePort]) rfl rfl fun _ => rfl
  · exact h

theorem State.BridgeOk.endNoMemory {s : State} (h : s.BridgeOk) : s.endNoMemory.BridgeOk := by
  obtain ⟨u, hu, hm⟩ := s.endNoMemory_fabricMoves
  refine hm.bridgeOk ?_
  obtain ⟨hb, -, -⟩ := hu.keeps
  have hbs : u.bridge = s.bridge := hb
  obtain ⟨h1, h2, h3, h4, h5, h6, -⟩ := h
  unfold State.BridgeOk
  dsimp only
  rw [hbs]
  exact ⟨h1, h2, h3, h4, h5, h6, fun _ => rfl⟩

theorem State.BridgeOk.recordDone {s : State} (h : s.BridgeOk) (hp : s.bridge.port ≠ .bridge) (r : FailureRecord)
    (rest : List FailureRecord) : (s.recordDone r rest).BridgeOk := by
  have hsent : (s.recordSent r rest).BridgeOk := h.atAgent hp (by simp [State.recordSent]) rfl rfl fun k => if_pos k
  have ha := s.recordDone_alone r rest
  exact hsent.congr ha.bridge fun k => by rw [ha] at k; exact k

theorem State.BridgeOk.dropRecord {s : State} (h : s.BridgeOk) (rest : List FailureRecord) : (s.dropRecord rest).BridgeOk := by
  have hd := h.dropJob .record
  unfold State.dropRecord
  generalize s.dropJob .record = t at hd
  exact (State.raiseFault_moves _ _ _ _).fabricMoves.bridgeOk (hd.congr rfl fun k => k)

/-! ### Every command -/

/-- The window's commands but the reload are the fabric's moves. -/
theorem exec_windowMoves {cmd : Instr} {s t : State} (hw : isWindowCommand cmd = true) (hr : cmd ≠ .reload)
    (h : exec cmd s = .next t) : s.FabricMoves t := by
  cases cmd
  case retrain n => exact exec_fabricMoves rfl h
  case park n => exact exec_fabricMoves rfl h
  case unpark n => exact exec_fabricMoves rfl h
  case clear n => exact exec_fabricMoves rfl h
  case clearEventQueue => cases h; exact s.whenOpen_fabricMoves _ (.of_agent rfl rfl)
  case clearOverrun => cases h; exact s.whenOpen_fabricMoves _ (.of_agent rfl rfl)
  case clearAllLegCounters => cases h; exact s.whenOpen_fabricMoves _ s.clearAll_fabricMoves
  case advance => cases h; exact s.whenOpen_fabricMoves _ (.of_agent rfl rfl)
  case queueClearOverrun => cases h; exact s.whenOpen_fabricMoves _ (.of_agent rfl rfl)
  case acknowledge => cases h; exact s.whenOpen_fabricMoves _ s.acknowledgeShown_moves.fabricMoves
  case setViewMode v => cases h; exact s.whenOpen_fabricMoves _ (s.storeViewMode_moves v).fabricMoves
  case setViewLeg v => cases h; exact s.whenOpen_fabricMoves _ (.of_agent rfl rfl)
  case setFaultAttentionMask v => cases h; exact s.whenOpen_fabricMoves _ (.of_agent rfl rfl)
  case setEventAttentionMode v => cases h; exact s.whenOpen_fabricMoves _ (s.storeEventMode_moves v).fabricMoves
  case setRolloverAttentionEnable v => cases h; exact s.whenOpen_fabricMoves _ (s.storeRollover_moves v).fabricMoves
  case liveWindowOtherWrite a v => cases h; exact .refl s
  case reload => exact absurd rfl hr
  all_goals cases hw

theorem State.BridgeOk.reloadHead {s : State} (h : s.BridgeOk) : s.reloadHead.BridgeOk := by
  by_cases hw : s.windowOpen = true
  · obtain ⟨hh, -, hb⟩ := s.reloadHead_keeps hw
    exact h.afterReload hh hb
  · unfold State.reloadHead
    rw [if_neg hw]
    exact h

theorem execBusRecovery_bridgeOk {s t : State} (hs : s.BridgeOk) (he : execBusRecovery s = .next t) : t.BridgeOk := by
  unfold execBusRecovery at he
  split at he
  · next l hl =>
    cases he
    split
    · exact hs.atAgent (by simp [(State.recoveryRunning_port hl).1]) (by simp [State.recoveryDone, State.releasePort, State.loadStep]) rfl rfl
        fun _ => rfl
    · exact hs
  · cases he; exact hs

theorem execHeaderChunk_bridgeOk {s t : State} (bytes : Page) (hs : s.BridgeOk) (he : execHeaderChunk bytes s = .next t) : t.BridgeOk := by
  unfold execHeaderChunk at he
  split at he
  · next l hl =>
    split at he
    · cases he; exact hs.headerRead (by simp [(State.chunkRunning_port hl).1]) l bytes
    · cases he; exact hs
  · cases he; exact hs

theorem execLegRecordChunk_bridgeOk {s t : State} (bytes : Page) (hs : s.BridgeOk) (he : execLegRecordChunk bytes s = .next t) : t.BridgeOk := by
  unfold execLegRecordChunk at he
  split at he
  · next l hl =>
    split at he
    · cases he; exact hs.legRead (by simp [(State.chunkRunning_port hl).1]) l _ bytes
    · cases he; exact hs
  · cases he; exact hs

theorem execRingSlotRead_bridgeOk {s t : State} (bytes : Page) (hs : s.BridgeOk) (he : execRingSlotRead bytes s = .next t) : t.BridgeOk := by
  unfold execRingSlotRead at he
  split at he
  · next l hl =>
    split at he
    · cases he; exact hs.slotRead (by simp [(State.chunkRunning_port hl).1]) l _ bytes
    · cases he; exact hs
  · cases he; exact hs

theorem execLoadChunkTimeout_bridgeOk {s t : State} (hs : s.BridgeOk) (he : execLoadChunkTimeout s = .next t) : t.BridgeOk := by
  unfold execLoadChunkTimeout at he
  split at he
  · next instant _ =>
    rw [← Host.Outcome.next.inj he]
    exact ((hs.congr (t := s.reach instant) rfl fun k => k).dropJob .loadChunk).endNoMemory
  · cases he; exact hs

theorem execReloadLoadStart_bridgeOk {s t : State} (hs : s.BridgeOk) (he : execReloadLoadStart s = .next t) : t.BridgeOk := by
  unfold execReloadLoadStart at he
  split at he
  · cases he
    split
    · exact hs.congr rfl fun k => k
    · exact hs
  · cases he; exact hs

theorem execRecordWritten_bridgeOk {s t : State} (hs : s.BridgeOk) (he : execRecordWritten s = .next t) : t.BridgeOk := by
  unfold execRecordWritten at he
  split at he
  · next r rest hp hr => cases he; exact hs.recordDone (by simp [hp]) r rest
  · cases he; exact hs

theorem execFailureRecordRetry_bridgeOk {s t : State} (hs : s.BridgeOk) (he : execFailureRecordRetry s = .next t) : t.BridgeOk := by
  unfold execFailureRecordRetry at he
  split at he
  · cases he; exact hs.congr rfl fun k => k
  · cases he; exact hs

theorem execFailureRecordTimeout_bridgeOk {s t : State} (hs : s.BridgeOk) (he : execFailureRecordTimeout s = .next t) : t.BridgeOk := by
  unfold execFailureRecordTimeout at he
  split at he
  · split at he
    · next instant _ =>
      cases he
      split
      · exact (hs.congr (t := s.reach instant) rfl fun k => k).dropRecord _
      · exact hs
    · cases he; exact hs
  · cases he; exact hs

theorem execChunkNotAcknowledged_bridgeOk {s t : State} (nackAt : NackAt) (hs : s.BridgeOk) (he : execChunkNotAcknowledged nackAt s = .next t) : t.BridgeOk := by
  unfold execChunkNotAcknowledged at he
  split at he
  · next hp => cases he; exact hs.chunkRefused hp _
  · cases he; exact hs

theorem exec_bridgeOk {cmd : Instr} {s t : State} (h : exec cmd s = .next t) (hs : s.BridgeOk) : t.BridgeOk := by
  by_cases hf : isFabric cmd = true
  · exact (exec_fabricMoves hf h).bridgeOk hs
  by_cases hw : isWindowCommand cmd = true ∧ cmd ≠ .reload
  · exact (exec_windowMoves hw.1 hw.2 h).bridgeOk hs
  cases cmd
  case powerOn => cases h; exact reset_bridgeOk.congr rfl fun k => k
  case resetLineAssert => cases h; exact State.bridgeOk_of_closed (by simp [State.heldInReset, Bridge.initial]) (.inl rfl) fun k => nomatch k
  case resetLineRelease =>
    cases h
    unfold State.releaseReset
    split
    · exact hs.congr rfl fun k => nomatch k
    · exact hs
  case headClockTick =>
    cases h
    split
    · exact hs
    · exact hs.congr rfl fun k => k
  case reload => cases h; exact hs.reloadHead
  case switchStart => cases h; exact hs.switchStarts
  case bridgeTakesPort => cases h; exact hs.givePort
  case writeAddressPhase memAck =>
    cases h
    unfold State.writeAddress
    split
    · next hp => exact hs.beginWrite (hs.port (by rw [hp]; rfl)) (hs.buffer (by simp [hp])) (hs.snapshot (.inr (by simp [hp]))) memAck
    · exact hs.outOfPlace
  case addressNotForMemory =>
    cases h
    unfold State.otherAddress
    split
    · exact State.endTxn_bridgeOk hs.mirror _ _
    · exact hs.outOfPlace
  case wordAddress high low => cases h; exact hs.wordArrives high low
  case memoryWriteByte v memAck => cases h; exact hs.memoryByte v memAck
  case liveWindowWriteByte v => cases h; exact hs.liveByte v
  case voidWriteByte v => cases h; exact hs.voidByte
  case currentAddressRead answer =>
    cases h
    unfold State.readAddress
    split
    · next hp => exact hs.beginRead (hs.port (by rw [hp]; rfl)) (hs.buffer (by simp [hp])) answer
    · exact hs.outOfPlace
  case forwardedReadByte v switchAck => cases h; exact hs.forwardedByte v switchAck
  case servedReadByte switchAck => cases h; exact hs.servedByte switchAck
  case repeatedStart target answer => cases h; exact hs.repeatStart target answer
  case transactionStop => cases h; exact hs.stopTxn
  case abnormalEnd =>
    cases h
    unfold State.abnormal
    split
    · next hp => exact hs.chunkRefused hp _
    · exact State.endAbnormally_bridgeOk hs _
    · exact hs
  case busRecovery => exact execBusRecovery_bridgeOk hs h
  case agentTakesPort => cases h; exact hs.agentTakes
  case headerChunk bytes => exact execHeaderChunk_bridgeOk _ hs h
  case legRecordChunk bytes => exact execLegRecordChunk_bridgeOk _ hs h
  case ringSlotRead bytes => exact execRingSlotRead_bridgeOk _ hs h
  case chunkRetry => cases h; exact hs.congr rfl fun k => k
  case loadChunkTimeout => exact execLoadChunkTimeout_bridgeOk hs h
  case reloadLoadStart => exact execReloadLoadStart_bridgeOk hs h
  case recordWritten => exact execRecordWritten_bridgeOk hs h
  case failureRecordRetry => exact execFailureRecordRetry_bridgeOk hs h
  case failureRecordTimeout => exact execFailureRecordTimeout_bridgeOk hs h
  case chunkNotAcknowledged nackAt => exact execChunkNotAcknowledged_bridgeOk _ hs h
  all_goals simp [isFabric, isWindowCommand] at hf hw

/-- Settles O16: by command; the fabric and the window leave the bridge, and each of the bridge's and the agent's operations keeps
the law. -/
theorem bridgeLawKept : Obligations.BridgeLawKept := by
  intro s t hs h
  unfold step at h
  split at h
  · cases h
    exact hs
  · exact exec_bridgeOk h (hs.congr (t := s.popped) rfl fun k => k)

end Sys2Proof.Machine
end

section
/-! SUPPORT. The law of one leg's lanes, and what one lane's event does to it: each move of a lane keeps the law of its leg's record,
of its lane and eye path, and of its coefficient sets (R38, R81, R96, R104, R106, R128, R133). -/

namespace Sys2Proof.Machine

/-! ### The laws of one lane and of one leg -/

/-- Lane `i` side `x` is in a state its leg `n` admits, and its eye path is IDLE outside DATA (R96, R133). -/
def State.LaneLaw (s : State) (n : LegId) (i : Lane) (x : Side) : Prop :=
  (s.leg n).state.admits (s.laneState i x) = true ∧ (s.laneState i x ≠ .data → (s.rxPath i x).eye.phase = .idle)

/-- The start sets and the valid learned sets of a path are feasible under ceiling `C` and floor `F` (R38). -/
def TxPath.BanksFit (C F : Nat) (p : TxPath) : Prop :=
  ∀ r : RateClass, (p.start.get r).feasible C F = true ∧ (p.learnedValid.get r = true → (p.learned.get r).feasible C F = true)

/-- The sets of lane `i` side `x` are feasible for leg `n`, the one in use while the lane is not QUIET (R38). -/
def State.BankLaw (s : State) (n : LegId) (i : Lane) (x : Side) : Prop :=
  (s.txPath i x).BanksFit (s.leg n).profile.ceiling (s.leg n).profile.floor
    ∧ (s.laneState i x ≠ .quiet → (s.txPath i x).inUse.feasible (s.leg n).profile.ceiling (s.leg n).profile.floor = true)

/-- One event of lane `i` side `x` of leg `n`, before the leg answers it. -/
structure State.LaneStep (n : LegId) (i : Lane) (x : Side) (s t : State) : Prop where
  move : s.LaneMove n i x t
  law : (s.leg n).Ok → s.LaneLaw n i x → t.LaneLaw n i x
  bank : s.BankLaw n i x → t.BankLaw n i x

theorem Sides.ClearedAt.none {x : Side} {p q : Sides Bool} (h : p.ClearedAt x q) (hp : p = ⟨false, false⟩) : q = ⟨false, false⟩ := by
  obtain rfl | rfl := h
  · exact hp
  · rw [hp]
    cases x <;> rfl

/-- A lane's move keeps its leg's record in order. -/
theorem State.LaneMove.legOk {n : LegId} {i : Lane} {x : Side} {s t : State} (h : s.LaneMove n i x t) (hs : (s.leg n).Ok) :
    (t.leg n).Ok := by
  obtain ⟨h1, h2, h3, h4, h5, h6, h7, h8, h9, h10⟩ := hs
  have hrel := h.released
  have hkept := h.kept
  have hl := h.leg
  generalize t.leg n = l at hrel hkept hl ⊢
  rw [hl]
  exact ⟨h1, h2, h3, h4, h5, fun k => hkept.none (h6 k), fun k => hrel.none (h7 k), h8, h9, h10⟩

theorem State.LaneMove.state {n : LegId} {i : Lane} {x : Side} {s t : State} (h : s.LaneMove n i x t) :
    (t.leg n).state = (s.leg n).state := by rw [h.leg]

theorem State.LaneMove.profile {n : LegId} {i : Lane} {x : Side} {s t : State} (h : s.LaneMove n i x t) :
    (t.leg n).profile = (s.leg n).profile := by rw [h.leg]

section
variable {n : LegId} {i : Lane} {x : Side}

theorem State.LaneStep.refl (s : State) : s.LaneStep n i x s := ⟨.refl s, fun _ h => h, fun h => h⟩

theorem State.LaneStep.trans {s t u : State} (h : s.LaneStep n i x t) (k : t.LaneStep n i x u) : s.LaneStep n i x u :=
  ⟨h.move.trans k.move, fun ho hl => k.law (h.move.legOk ho) (h.law ho hl), fun hb => k.bank (h.bank hb)⟩

/-- A move that leaves the lane's state, its eye path's phase and its sets. -/
theorem State.LaneMove.still {s t : State} (h : s.LaneMove n i x t) (hl : t.laneState i x = s.laneState i x)
    (he : (t.rxPath i x).eye.phase = (s.rxPath i x).eye.phase)
    (hp : t.txPath i x = { s.txPath i x with line := (t.txPath i x).line, lineSet := (t.txPath i x).lineSet }) :
    s.LaneStep n i x t := by
  refine ⟨h, fun _ ⟨ha, hi⟩ => ⟨?_, fun hd => ?_⟩, fun ⟨hb, hu⟩ => ⟨?_, fun hq => ?_⟩⟩
  · rwa [h.state, hl]
  · rw [he]
    exact hi (hl ▸ hd)
  · rw [hp, h.profile]
    exact hb
  · rw [hp, h.profile]
    exact hu (hl ▸ hq)

theorem State.laneStep_modExch (s : State) (n : LegId) (i : Lane) (x : Side) (f : Exchange → Exchange)
    (hf : (f (s.exch i x)).lane = (s.exch i x).lane) : s.LaneStep n i x (s.modExch i x f) :=
  (s.laneMove_modExch n i x f).still ((congrArg Exchange.lane (s.exch_modExch_same i x f)).trans hf) rfl rfl

theorem State.laneStep_modTx (s : State) (n : LegId) (i : Lane) (x : Side) (f : TxPath → TxPath)
    (hf : ∀ p : TxPath, f p = { p with line := (f p).line, lineSet := (f p).lineSet }) : s.LaneStep n i x (s.modTx i x f) :=
  (s.laneMove_modTx n i x f).still rfl rfl (by rw [State.txPath_modTx_same]; exact hf _)

theorem State.laneStep_modRx (s : State) (n : LegId) (i : Lane) (x : Side) (f : RxPath → RxPath)
    (hf : (f (s.rxPath i x)).eye.phase = (s.rxPath i x).eye.phase) : s.LaneStep n i x (s.modRx i x f) :=
  (s.laneMove_modRx n i x f).still rfl (by rw [State.rxPath_modRx_same]; exact hf) rfl

/-- A change of the lane's state alone. -/
theorem State.laneStep_lane (s : State) (n : LegId) (i : Lane) (x : Side) (f : Exchange → Exchange)
    (hl : (s.leg n).Ok → (s.leg n).state.admits (s.laneState i x) = true → (s.leg n).state.admits (f (s.exch i x)).lane = true)
    (hd : s.laneState i x ≠ .data) (hq : s.laneState i x ≠ .quiet) : s.LaneStep n i x (s.modExch i x f) := by
  have hlane : (s.modExch i x f).laneState i x = (f (s.exch i x)).lane := congrArg Exchange.lane (s.exch_modExch_same i x f)
  refine ⟨s.laneMove_modExch n i x f, fun ho ⟨ha, hi⟩ => ⟨?_, fun _ => hi hd⟩, fun ⟨hb, hu⟩ => ⟨hb, fun _ => hu hq⟩⟩
  rw [hlane]
  exact hl ho ha

/-! ### Entries to LISTEN, TUNE, READY, COUNT and DATA -/

theorem State.enterListen_txPath {s : State} (h : s.owner i = some n) (x : Side) :
    (s.enterListen i x).txPath i x =
      ({ s.txPath i x with line := (s.txPath i x).line.stopService } : TxPath).loadSet (s.leg n).profile.rate := by
  obtain ⟨warm, he⟩ := s.enterListen_eq h x
  rw [he, ← s.outOfService_txPath i x]
  exact State.txPath_modTx_same (s.outOfService i x) i x fun q => q.loadSet (s.leg n).profile.rate

/-- An eye path that has left DATA with its lane is IDLE. -/
theorem State.outOfService_idle {s : State} (h : s.laneState i x ≠ .data → (s.rxPath i x).eye.phase = .idle) :
    ((s.outOfService i x).rxPath i x).eye.phase = .idle := by
  rw [s.outOfService_rxPath]
  split
  · rfl
  · next hd => exact h hd

theorem State.enterListen_idle {s : State} (h : s.owner i = some n) (hi : s.laneState i x ≠ .data → (s.rxPath i x).eye.phase = .idle) :
    ((s.enterListen i x).rxPath i x).eye.phase = .idle := by
  obtain ⟨warm, he⟩ := s.enterListen_eq h x
  rw [he]
  have hp := State.rxPath_modRx_same ((s.outOfService i x).modTx i x fun q => q.loadSet (s.leg n).profile.rate) i x
    fun r => { r with eqCode := ((s.leg n).profile.equalizer.get (s.leg n).profile.rate).get x }
  exact (congrArg (fun r : RxPath => r.eye.phase) hp).trans (State.outOfService_idle hi)

theorem TxPath.BanksFit.loadSet {C F : Nat} {p : TxPath} (h : p.BanksFit C F) (r : RateClass) :
    (p.loadSet r).BanksFit C F ∧ (p.loadSet r).inUse.feasible C F = true := by
  refine ⟨h, ?_⟩
  unfold TxPath.loadSet
  dsimp only
  split
  · next hv => exact (h r).2 hv
  · exact (h r).1

theorem State.enterListen_bank {s : State} (h : s.owner i = some n)
    (hb : (s.txPath i x).BanksFit (s.leg n).profile.ceiling (s.leg n).profile.floor) :
    (s.enterListen i x).BankLaw n i x := by
  have hp := (State.laneMove_enterListen h x).profile
  have hload := TxPath.BanksFit.loadSet (p := { s.txPath i x with line := (s.txPath i x).line.stopService }) hb (s.leg n).profile.rate
  unfold State.BankLaw
  rw [hp, State.enterListen_txPath h]
  exact ⟨hload.1, fun _ => hload.2⟩

/-- The entry to LISTEN of a lane of a leg that admits it. -/
theorem State.laneStep_enterListen {s : State} (h : s.owner i = some n)
    (hl : (s.leg n).state.admits (s.laneState i x) = true → (s.leg n).state.admits .listen = true) :
    s.LaneStep n i x (s.enterListen i x) := by
  have hm := State.laneMove_enterListen h x
  refine ⟨hm, fun _ ⟨ha, hi⟩ => ⟨?_, fun _ => State.enterListen_idle h hi⟩, fun hb => State.enterListen_bank h hb.1⟩
  rw [hm.state, s.enterListen_laneState]
  exact hl ha

/-- A leg that admits TUNE, READY or COUNT admits LISTEN, and one that has a lane in DATA while it trains does too. -/
theorem LegState.admits_listen {l : LegState} {q : LaneState} (h : q = .listen ∨ q = .tune ∨ q = .ready ∨ q = .count)
    (ha : l.admits q = true) : l.admits .listen = true ∧ l.admits .tune = true := by
  rcases h with rfl | rfl | rfl | rfl <;> cases l <;> simp_all [LegState.admits]

theorem LegState.admits_ready_of_tune {l : LegState} (ha : l.admits .tune = true) : l.admits .ready = true := by
  cases l <;> simp_all [LegState.admits]

theorem LegState.admits_data_of_count {l : LegState} (ha : l.admits .count = true) : l.admits .data = true := by
  cases l <;> simp_all [LegState.admits]

theorem State.laneStep_enterTune (s : State) (n : LegId) (h : s.laneState i x = .listen) :
    s.LaneStep n i x (s.enterTune i x) := by
  unfold State.enterTune State.startWatch
  rw [State.modExch_modExch]
  exact s.laneStep_lane n i x _ (fun _ ha => (LegState.admits_listen (.inl h) ha).2) (by simp [h]) (by simp [h])

theorem State.laneStep_startWatch (s : State) (n : LegId) (i : Lane) (x : Side) : s.LaneStep n i x (s.startWatch i x) :=
  s.laneStep_modExch n i x _ rfl

theorem State.laneStep_enterReady (s : State) (n : LegId) (h : s.laneState i x = .tune) :
    s.LaneStep n i x (s.enterReady i x) :=
  s.laneStep_lane n i x _ (fun _ ha => LegState.admits_ready_of_tune (h ▸ ha)) (by simp [h]) (by simp [h])

/-- A READY lane whose side is released is one of a leg that admits COUNT (R83, R86). -/
theorem State.laneStep_enterCount (s : State) (n : LegId) (h : s.laneState i x = .ready) (hr : (s.leg n).released.get x = true) :
    s.LaneStep n i x (s.enterCount i x) := by
  refine s.laneStep_lane n i x _ (fun ho ha => ?_) (by simp [h]) (by simp [h])
  rw [h] at ha
  obtain ⟨-, -, -, -, -, -, hrel, -⟩ := ho
  show (s.leg n).state.admits .count = true
  cases hs : (s.leg n).state <;> rw [hs] at ha <;> simp [LegState.admits] at ha ⊢
  have hnone := hrel (.inr (.inl hs))
  rw [hnone] at hr
  cases x <;> cases hr

theorem TxPath.learn_fit {C F : Nat} {p : TxPath} (h : p.BanksFit C F) (hu : p.inUse.feasible C F = true) (r : RateClass) :
    (p.learn r).BanksFit C F := by
  intro q
  refine ⟨(h q).1, fun hv => ?_⟩
  by_cases hq : q = r
  · subst hq
    cases q <;> exact hu
  · have hl : (p.learn r).learned.get q = p.learned.get q ∧ (p.learn r).learnedValid.get q = p.learnedValid.get q :=
      ⟨ByClass.get_set_ne _ _ hq, ByClass.get_set_ne _ _ hq⟩
    rw [hl.1]
    exact (h q).2 (hl.2 ▸ hv)

theorem State.enterData_laneState (s : State) (i : Lane) (x : Side) : (s.enterData i x).laneState i x = .data :=
  congrArg Exchange.lane (State.exch_modExch_same _ i x _)

theorem State.enterData_txPath (s : State) (i : Lane) (x : Side) :
    (s.enterData i x).txPath i x = (s.txPath i x).learn (s.workingClass i) :=
  s.txPath_modTx_same i x fun p => p.learn (s.workingClass i)

theorem State.laneStep_enterData (s : State) (n : LegId) (h : s.laneState i x = .count) : s.LaneStep n i x (s.enterData i x) := by
  have hm := s.laneMove_enterData n i x
  refine ⟨hm, fun _ ⟨ha, _⟩ => ⟨?_, fun hd => absurd (s.enterData_laneState i x) hd⟩, fun ⟨hb, hu⟩ => ?_⟩
  · rw [hm.state, s.enterData_laneState]
    exact LegState.admits_data_of_count (h ▸ ha)
  · have huse := hu (by simp [h])
    unfold State.BankLaw
    rw [hm.profile, s.enterData_txPath]
    exact ⟨TxPath.learn_fit hb huse _, fun _ => huse⟩

theorem State.laneStep_dataIfBoth (s : State) (n : LegId) (h : s.laneState i x = .count) : s.LaneStep n i x (s.dataIfBoth i x) := by
  unfold State.dataIfBoth
  split
  · exact s.laneStep_enterData n h
  · exact .refl s

/-! ### Returns to TUNE -/

theorem State.returnToTune_idle {s : State} (hi : s.laneState i x ≠ .data → (s.rxPath i x).eye.phase = .idle) (cause : ReturnCause) :
    ((s.returnToTune i x cause).rxPath i x).eye.phase = .idle := by
  have h := State.outOfService_idle hi
  unfold State.returnToTune
  dsimp only
  split <;> exact h

theorem State.returnToTune_laneState (s : State) (i : Lane) (x : Side) (cause : ReturnCause) :
    (s.returnToTune i x cause).laneState i x = .tune := by
  unfold State.returnToTune State.startWatch
  dsimp only
  split
  · exact congrArg Exchange.lane (State.exch_modExch_same _ i x _)
  · rw [State.modExch_modExch]
    exact congrArg Exchange.lane (State.exch_modExch_same _ i x _)

theorem State.returnToTune_bank {s : State} (h : s.owner i = some n) (cause : ReturnCause) (hb : s.BankLaw n i x)
    (hq : s.laneState i x ≠ .quiet) : (s.returnToTune i x cause).BankLaw n i x := by
  have hm := State.laneMove_returnToTune h x cause
  have hp : (s.returnToTune i x cause).txPath i x = { s.txPath i x with line := (s.txPath i x).line.stopService } := by
    have hs : (s.outOfService i x).slices = s.slices := (s.serviceMoves_outOfService i x).lanes.slices
    rw [← s.outOfService_txPath i x, State.txPath_eq_txAt hm.slices, State.txAt_congr (s.returnToTune_tx i x cause),
      ← State.txPath_eq_txAt hs]
  unfold State.BankLaw
  rw [hm.profile, hp]
  exact ⟨hb.1, fun _ => hb.2 hq⟩

theorem State.laneStep_returnToTune {s : State} (h : s.owner i = some n) (hr : s.laneState i x = .ready) (cause : ReturnCause) :
    s.LaneStep n i x (s.returnToTune i x cause) := by
  have hm := State.laneMove_returnToTune h x cause
  refine ⟨hm, fun _ ⟨ha, hi⟩ => ⟨?_, fun _ => State.returnToTune_idle hi cause⟩,
    fun hb => State.returnToTune_bank h cause hb (by simp [hr])⟩
  rw [hm.state, State.returnToTune_laneState]
  exact (LegState.admits_listen (.inr (.inr (.inl hr))) ha).2

end

end Sys2Proof.Machine
end

section
/-! SUPPORT. Every event of a leg as a run of the leg's turns: steps of its lanes, and what the leg answers (R14, R15, R25, R33, R34,
R70, R74, R82, R92, R101, R105 to R119). -/

namespace Sys2Proof.Machine

/-! ### The turns of a leg -/

/-- One thing that an event of leg `n` does. -/
inductive State.LegTurn (n : LegId) (s : State) : State → Prop
  | time (now : Nat) : State.LegTurn n s { s with now }
  | lane (i : Lane) (x : Side) (t : State) (hi : s.owner i = some n) (h : s.LaneStep n i x t) : State.LegTurn n s t
  | queues (kind : EventKind) : State.LegTurn n s (s.queueEvent (some n) kind)
  | reports : State.LegTurn n s (s.laneReport n)
  | margin : State.LegTurn n s (s.marginCheck n)
  | orders : State.LegTurn n s (s.deriveOrders n)
  | ends (code : FaultCode) (hc : OwnsCode (some n) code) : State.LegTurn n s (s.endCondition (some n) code)
  | fails (cause : LegCause) (code : FaultCode) (failure : LastFailure) (hc : code.OfAttempt)
      (hs : (s.leg n).state = .training ∨ (s.leg n).state = .lost) : State.LegTurn n s (s.failAttempt n cause code failure)
  | reverts (i : Lane) (x : Side) (hi : s.owner i = some n) (h : s.laneState i x = .count ∨ s.laneState i x = .data) :
      State.LegTurn n s (s.partnerRevert n i x)
  | holds (h : (s.leg n).state = .up) : State.LegTurn n s (s.enterHeld n)
  | restores (h : (s.leg n).state = .held) : State.LegTurn n s (s.endGlitch n)
  | starts (x : Side) (h : (s.leg n).state = .lost) : State.LegTurn n s (s.startSide n x)
  | loses (h : (s.leg n).state = .held) : State.LegTurn n s (s.enterLost n)
  | boundary (cause : LegCause) (h : (s.leg n).state = .down ∨ s.resetHeld = false ∧ s.legExists n = true) : State.LegTurn n s (s.boundary n cause)
  | parks (cause : LegCause) : State.LegTurn n s (s.parkLeg n cause)
  | clears : State.LegTurn n s (s.clearLeg n (s.legLanes n))
  | retries : State.LegTurn n s ((s.countRetrain n).modLeg n fun l => { l with retry := 0 })

/-- A run of the turns of one leg. -/
abbrev State.LegTurns (n : LegId) : State → State → Prop := Relation.ReflTransGen (State.LegTurn n)

section
variable {n : LegId} {i : Lane} {x : Side}

theorem State.LegTurn.run {s t : State} (h : s.LegTurn n t) : s.LegTurns n t := .single h

theorem State.LaneStep.run {s t : State} (h : s.LaneStep n i x t) (hi : s.owner i = some n) : s.LegTurns n t :=
  (State.LegTurn.lane i x t hi h).run

/-- A step and what follows it. -/
theorem State.LaneStep.followed {s t u : State} (h : s.LaneStep n i x t) (hi : s.owner i = some n) (k : t.LegTurn n u) : s.LegTurns n u :=
  (h.run hi).tail k

theorem State.LegTurns.keeps {P : State → Prop} {s t : State} (h : s.LegTurns n t) (hP : ∀ u v, P u → u.LegTurn n v → P v)
    (hs : P s) : P t := by
  induction h with
  | refl => exact hs
  | tail _ hv ih => exact hP _ _ ih hv

/-- The supervisor hears of the lane, or not (R82). -/
theorem State.LegTurns.reportIfMoved {s t : State} (h : s.LegTurns n t) (before : State) (i : Lane) (x : Side) :
    s.LegTurns n (before.reportIfMoved t n i x) := by
  unfold State.reportIfMoved
  split
  · exact h
  · exact h.tail .reports

theorem State.laneState_modExch_at (s : State) (i : Lane) (x : Side) (f : Exchange → Exchange) :
    (s.modExch i x f).laneState i x = (f (s.exch i x)).lane := congrArg Exchange.lane (s.exch_modExch_same i x f)

/-! ### Signals (R14, R116 to R118, R123) -/

theorem State.laneStep_setSignal (s : State) (n : LegId) (i : Lane) (x : Side) (b : Bool) : s.LaneStep n i x (s.setSignal i x b) :=
  s.laneStep_modRx n i x _ rfl

/-- An entry to LISTEN from TUNE, READY or COUNT, or from DATA in TRAINING. -/
theorem State.listens_legTurns {s : State} (hi : s.owner i = some n)
    (h : s.laneState i x = .listen ∨ s.laneState i x = .tune ∨ s.laneState i x = .ready ∨ s.laneState i x = .count
      ∨ s.laneState i x = .data ∧ (s.leg n).state = .training) : s.LegTurns n (s.enterListen i x) := by
  refine (State.laneStep_enterListen hi fun ha => ?_).run hi
  rcases h with h | h | h | h | ⟨-, h⟩
  · exact (LegState.admits_listen (.inl h) ha).1
  · exact (LegState.admits_listen (.inr (.inl h)) ha).1
  · exact (LegState.admits_listen (.inr (.inr (.inl h))) ha).1
  · exact (LegState.admits_listen (.inr (.inr (.inr h))) ha).1
  · rw [h]
    rfl

theorem State.loseSignal_legTurns {s : State} (hi : s.owner i = some n) (x : Side) : s.LegTurns n (s.loseSignal i x) := by
  have hset := (s.laneStep_setSignal n i x false).run hi
  have hot : (s.setSignal i x false).owner i = some n := hi
  have hst : (s.setSignal i x false).laneState i x = s.laneState i x := rfl
  have hlt : (s.setSignal i x false).leg n = s.leg n := rfl
  unfold State.loseSignal
  dsimp only
  rw [hi]
  generalize s.setSignal i x false = t at hset hot hst hlt
  dsimp only
  split
  · exact hset
  · exact hset
  · next h => exact (hset.trans (State.listens_legTurns hot (.inr (.inl (hst.trans h))))).tail .reports
  · next h => exact (hset.trans (State.listens_legTurns hot (.inr (.inr (.inl (hst.trans h)))))).tail .reports
  · next h => exact (hset.trans (State.listens_legTurns hot (.inr (.inr (.inr (.inl (hst.trans h))))))).tail .reports
  · next h =>
    unfold State.lossInData
    split
    · next hs => exact (hset.trans (State.listens_legTurns hot (.inr (.inr (.inr (.inr ⟨hst.trans h, hs⟩)))))).tail .reports
    · next hs => exact hset.tail (.holds hs)
    · exact hset.tail .orders
    · next hs => exact (hset.tail (.starts x hs)).tail .reports
    · exact hset

theorem State.regainSignal_legTurns {s : State} (hi : s.owner i = some n) (x : Side) : s.LegTurns n (s.regainSignal i x) := by
  have hset := (s.laneStep_setSignal n i x true).run hi
  have hrestore : s.LegTurns n ((s.setSignal i x true).restoreReported n) := by
    unfold State.restoreReported
    split
    · next hs =>
      split
      · exact hset.tail .orders
      · exact hset.tail (.restores hs)
    · exact hset
  unfold State.regainSignal
  dsimp only
  rw [hi]
  dsimp only
  split
  · exact hset
  · exact hset
  · exact hrestore

/-! ### Measurement records (R15, R62 to R74) -/

/-- A record of a path in DATA touches the eye path alone, which the law leaves free in DATA (R133). -/
theorem State.laneStep_eye (s : State) (n : LegId) (h : s.laneState i x = .data) (f : RxPath → RxPath) :
    s.LaneStep n i x (s.modRx i x f) :=
  ⟨s.laneMove_modRx n i x f, fun _ ⟨ha, _⟩ => ⟨ha, fun hd => absurd h hd⟩, fun hb => hb⟩

theorem State.laneFailure_legTurns {s : State} (hi : s.owner i = some n) (h : s.laneState i x = .tune ∨ s.laneState i x = .ready)
    (reason : LaneFailReason) : s.LegTurns n (s.laneFailure n i x reason) := by
  unfold State.laneFailure
  split
  · next hs => exact (State.LegTurn.fails _ _ _ (.inr (.inl rfl)) (.inl hs)).run
  · exact State.listens_legTurns hi (h.elim (fun k => .inr (.inl k)) fun k => .inr (.inr (.inl k)))

theorem State.becomeContent_legTurns {s : State} (hi : s.owner i = some n) (x : Side) (low : Bool) (eye : Nat) :
    s.LegTurns n (s.becomeContent n i x low eye) := by
  have ht := (s.laneStep_modExch n i x (fun e => { e with req := { e.req with mode := .content } }) rfl).run hi
  have hot : (s.modExch i x fun e => { e with req := { e.req with mode := .content } }).owner i = some n := hi
  have hst : (s.modExch i x fun e => { e with req := { e.req with mode := .content } }).laneState i x = s.laneState i x :=
    s.laneState_modExch_at i x _
  unfold State.becomeContent
  dsimp only
  generalize (s.modExch i x fun e => { e with req := { e.req with mode := .content } }) = t at ht hot hst
  split
  · next h =>
    have hready : (t.queueEvent (some n) (.laneTuned x i low eye (s.exch i x).req.taps)).LaneStep n i x _ :=
      State.laneStep_enterReady _ n (hst.trans h.2)
    exact (ht.tail (.queues _)).tail (.lane i x _ hot hready)
  · exact ht.tail (.queues _)

theorem State.policyTake_legTurns {s : State} (hi : s.owner i = some n) (h : s.laneState i x = .tune ∨ s.laneState i x = .ready)
    (eye : Nat) (rp rq : Int) : s.LegTurns n (s.policyTake n i x eye rp rq) := by
  unfold State.policyTake
  split
  · exact (s.laneStep_modExch n i x _ rfl).run hi
  · exact State.becomeContent_legTurns hi x _ eye
  · exact State.laneFailure_legTurns hi h _

theorem State.endContentment_legTurns {s : State} (hi : s.owner i = some n) (h : s.laneState i x = .tune ∨ s.laneState i x = .ready) :
    s.LegTurns n (s.endContentment i x) ∧ (s.endContentment i x).owner i = some n
      ∧ (s.endContentment i x).laneState i x = .tune := by
  have ht := s.laneStep_modExch n i x (fun e => { e with req := { e.req with mode := .seeking } }) rfl
  have hst : (s.modExch i x fun e => { e with req := { e.req with mode := .seeking } }).laneState i x = s.laneState i x :=
    s.laneState_modExch_at i x _
  unfold State.endContentment
  dsimp only
  split
  · next hr =>
    have hot : (s.modExch i x fun e => { e with req := { e.req with mode := .seeking } }).owner i = some n := hi
    have hreturn := State.laneStep_returnToTune hot (hst.trans hr) .ownReceiver
    exact ⟨(ht.trans hreturn).run hi, ((ht.trans hreturn).move.owner i).trans hi, State.returnToTune_laneState _ i x _⟩
  · next hr => exact ⟨ht.run hi, hi, hst.trans (h.resolve_right hr)⟩

theorem State.requesterRecord_legTurns {s : State} (hi : s.owner i = some n) (h : s.laneState i x = .tune ∨ s.laneState i x = .ready)
    (eye : Nat) (rp rq : Int) : s.LegTurns n (s.requesterRecord n i x eye rp rq) := by
  unfold State.requesterRecord
  dsimp only
  split
  · exact .refl
  · split
    · exact (s.laneStep_modExch n i x _ rfl).run hi
    · split
      · exact State.policyTake_legTurns hi h eye rp rq
      · split
        · exact .refl
        · obtain ⟨hend, ho, hl⟩ := State.endContentment_legTurns hi h
          exact hend.trans (State.policyTake_legTurns ho (.inl hl) eye rp rq)

theorem State.takeRecord_legTurns {s : State} (hi : s.owner i = some n) (x : Side) (eye rp rq : BitVec 7) :
    s.LegTurns n (s.takeRecord i x eye rp rq) := by
  unfold State.takeRecord
  rw [hi]
  dsimp only
  split
  · next h => exact (State.requesterRecord_legTurns hi (.inl h) _ _ _).reportIfMoved s i x
  · next h => exact (State.requesterRecord_legTurns hi (.inr h) _ _ _).reportIfMoved s i x
  · next h => exact (s.laneStep_eye n h _).followed hi .margin
  · exact .refl

/-! ### Frames (R25, R33, R44, R78, R86, R88, R90) -/

theorem State.laneStep_processTap {s : State} (hi : s.owner i = some n) (x : Side) (tap : Tap) (delta : Int) (seq : BitVec 3) :
    s.LaneStep n i x (s.processTap i x tap delta seq) := by
  have hmove : s.LaneMove n i x (s.processTap i x tap delta seq) := by
    unfold State.processTap
    exact (s.laneMove_modTx n i x _).trans (State.laneMove_modExch _ n i x _)
  have hlane : (s.processTap i x tap delta seq).laneState i x = s.laneState i x := by
    unfold State.processTap
    exact State.laneState_modExch_at _ i x _
  have hpath := s.processTap_txPath i x tap delta seq
  have hprof := s.profileAt_of_owner hi
  refine ⟨hmove, fun _ ⟨ha, he⟩ => ⟨?_, fun hd => he (hlane ▸ hd)⟩, fun ⟨hb, hu⟩ => ?_⟩
  · rwa [hmove.state, hlane]
  · unfold State.BankLaw
    rw [hmove.profile, hlane, hpath, ← hprof]
    exact ⟨hprof ▸ hb, fun hq => moveTap_feasible (hprof ▸ hu hq) tap delta⟩

theorem State.laneStep_processRestart (s : State) (n : LegId) (i : Lane) (x : Side) (seq : BitVec 3) :
    s.LaneStep n i x (s.processRestart i x seq) := by
  have hmove : s.LaneMove n i x (s.processRestart i x seq) := by
    unfold State.processRestart
    exact (s.laneMove_modTx n i x _).trans (State.laneMove_modExch _ n i x _)
  have hlane : (s.processRestart i x seq).laneState i x = s.laneState i x := by
    unfold State.processRestart
    exact State.laneState_modExch_at _ i x _
  have hpath : (s.processRestart i x seq).txPath i x =
      { s.txPath i x with inUse := (s.txPath i x).start.get (s.workingClass i) } :=
    s.txPath_modTx_same i x fun p => { p with inUse := p.start.get (s.workingClass i) }
  refine ⟨hmove, fun _ ⟨ha, he⟩ => ⟨?_, fun hd => he (hlane ▸ hd)⟩, fun ⟨hb, hu⟩ => ?_⟩
  · rwa [hmove.state, hlane]
  · unfold State.BankLaw
    rw [hmove.profile, hlane, hpath]
    exact ⟨hb, fun _ => (hb _).1⟩

theorem State.laneStep_takeRequest {s : State} (hi : s.owner i = some n) (x : Side) (f : TuneFields) :
    s.LaneStep n i x (s.takeRequest i x f) := by
  unfold State.takeRequest
  split
  · exact .refl s
  · split
    · exact .refl s
    · exact State.laneStep_processTap hi x _ _ _
    · exact State.laneStep_processTap hi x _ _ _
    · exact State.laneStep_processTap hi x _ _ _
    · exact s.laneStep_processRestart n i x _

theorem State.laneStep_handoverMove {s : State} (hi : s.owner i = some n) (x : Side) (v : Verdict) :
    s.LaneStep n i x (s.handoverMove n i x v) := by
  unfold State.handoverMove
  split
  · next h =>
    split
    · exact s.laneStep_enterReady n h
    · exact .refl s
  · next h =>
    split
    · next hr => exact s.laneStep_enterCount n h hr
    · exact .refl s
  · next h => exact State.laneStep_returnToTune hi h _
  · exact .refl s

theorem State.laneStep_tuneInTraining {s : State} (hi : s.owner i = some n) (x : Side) (f : TuneFields) :
    s.LaneStep n i x (s.tuneInTraining n i x f) := by
  have hnoted := (s.laneStep_startWatch n i x).trans (State.laneStep_modExch (s.startWatch i x) n i x
    (fun e => { e with partnerVerdict := f.verdict, partnerCount := f.count }) rfl)
  have hmoved := hnoted.trans (State.laneStep_handoverMove (((hnoted.move.owner i)).trans hi) x f.verdict)
  have hasked := hmoved.trans (State.laneStep_takeRequest ((hmoved.move.owner i).trans hi) x f)
  exact hasked.trans (State.laneStep_modExch _ n i x (fun e => { e with req := e.req.readAnswer f }) rfl)

theorem State.laneStep_countArrived {s : State} (h : s.laneState i x = .count) (n : LegId) : s.LaneStep n i x (s.countArrived i x) := by
  have ht := s.laneStep_modExch n i x (fun e => { e with zeroSeen := e.zeroSeen || e.partnerCount == 0 }) rfl
  have hst : (s.modExch i x fun e => { e with zeroSeen := e.zeroSeen || e.partnerCount == 0 }).laneState i x = .count :=
    (s.laneState_modExch_at i x _).trans h
  exact ht.trans (State.laneStep_dataIfBoth _ n hst)

theorem State.takeTune_legTurns {s : State} (hi : s.owner i = some n) (x : Side) (f : TuneFields) :
    s.LegTurns n (s.takeTune n i x f) := by
  have hheard := s.laneStep_modExch n i x (fun e => { e with partnerVerdict := f.verdict, partnerCount := f.count }) rfl
  have hst : (s.recordHandover i x f).laneState i x = s.laneState i x := s.laneState_modExch_at i x _
  unfold State.takeTune
  split
  · exact .refl
  · next h =>
    split
    · have ht := s.laneStep_enterTune n h
      exact (ht.trans (State.laneStep_tuneInTraining ((ht.move.owner i).trans hi) x f)).run hi
    · exact .refl
  · exact (State.laneStep_tuneInTraining hi x f).run hi
  · exact (State.laneStep_tuneInTraining hi x f).run hi
  · next h =>
    split
    · exact (hheard.trans (State.laneStep_countArrived (hst.trans h) n)).run hi
    · exact hheard.followed hi (.reverts i x hi (.inl (hst.trans h)))
  · next h =>
    split
    · exact hheard.run hi
    · exact hheard.followed hi (.reverts i x hi (.inr (hst.trans h)))

theorem State.takeFill_legTurns {s : State} (hi : s.owner i = some n) (x : Side) : s.LegTurns n (s.takeFill i x) := by
  have hseeking := (s.laneStep_startWatch n i x).trans (State.laneStep_modExch (s.startWatch i x) n i x
    (fun e => { e with partnerVerdict := .seeking }) rfl)
  have hcontent := s.laneStep_modExch n i x (fun e => { e with partnerVerdict := .content, partnerCount := 0 }) rfl
  unfold State.takeFill
  split
  · exact .refl
  · exact .refl
  · exact hseeking.run hi
  · next h =>
    have hst : ((s.startWatch i x).modExch i x fun e => { e with partnerVerdict := .seeking }).laneState i x = .ready := by
      unfold State.startWatch
      rw [State.modExch_modExch]
      exact (s.laneState_modExch_at i x _).trans h
    exact (hseeking.trans (State.laneStep_returnToTune ((hseeking.move.owner i).trans hi) hst _)).run hi
  · next h =>
    exact (hcontent.trans (State.laneStep_countArrived ((s.laneState_modExch_at i x _).trans h) n)).run hi
  · exact hcontent.run hi

theorem State.arrive_legTurns {s : State} (hi : s.owner i = some n) (x : Side) (w : ControlWord) : s.LegTurns n (s.arrive i x w) := by
  unfold State.arrive
  rw [hi]
  dsimp only
  split
  · unfold State.takeInvalid
    split
    · exact .refl
    · exact (s.laneStep_modExch n i x _ rfl).run hi
  · exact (State.takeTune_legTurns hi x _).reportIfMoved s i x
  · exact (State.takeFill_legTurns hi x).reportIfMoved s i x

/-! ### Frame intervals (R21, R87) -/

theorem State.laneStep_beginFrame (s : State) (n : LegId) (i : Lane) (x : Side) (w : ControlWord) :
    s.LaneStep n i x (s.beginFrame i x w) := s.laneStep_modTx n i x _ fun _ => rfl

theorem State.laneStep_sendTuning (s : State) (n : LegId) (i : Lane) (x : Side) : s.LaneStep n i x (s.sendTuning i x) :=
  (s.laneStep_modExch n i x (fun e => { e with req := e.req.frameStarts s.now }) rfl).trans (State.laneStep_beginFrame _ n i x _)

theorem State.laneStep_serve (s : State) (n : LegId) (i : Lane) (x : Side) : s.LaneStep n i x (s.serve i x) := by
  unfold State.serve
  split
  · exact s.laneStep_beginFrame n i x _
  · exact s.laneStep_beginFrame n i x _
  · exact s.laneStep_beginFrame n i x _
  · exact s.laneStep_modTx n i x _ fun _ => rfl
  · exact s.laneStep_modTx n i x _ fun _ => rfl

theorem State.endCountZero_legTurns {s : State} (hi : s.owner i = some n) (x : Side) : s.LegTurns n (s.endCountZero i x) := by
  unfold State.endCountZero
  rw [hi]
  dsimp only
  split
  · next h =>
    have hended := s.laneStep_modExch n i x (fun e => { e with countEnded := true }) rfl
    have hline := hended.trans (State.laneStep_modTx (s.modExch i x fun e => { e with countEnded := true }) n i x
      (fun p => { p with line := LineOut.gap.obey (s.exch i x).order }) fun _ => rfl)
    have hst : ((s.modExch i x fun e => { e with countEnded := true }).modTx i x fun p =>
        { p with line := LineOut.gap.obey (s.exch i x).order }).laneState i x = .count :=
      Eq.trans (s.laneState_modExch_at i x fun e => { e with countEnded := true }) h.1
    exact State.LegTurns.reportIfMoved ((hline.trans (State.laneStep_dataIfBoth _ n hst)).run hi) s i x
  · exact .refl

theorem State.startInterval_legTurns {s : State} (hi : s.owner i = some n) (x : Side) : s.LegTurns n (s.startInterval i x) := by
  have hended := State.endCountZero_legTurns hi x
  have hot : (s.endCountZero i x).owner i = some n :=
    s.endCountZero_inScope (c := some n) (x := x) (fun m hm => hi.trans hm) n rfl
  unfold State.startInterval
  generalize s.endCountZero i x = t at hended hot
  have hsend := hended.trans ((t.laneStep_sendTuning n i x).run hot)
  have hserve := hended.trans ((t.laneStep_serve n i x).run hot)
  dsimp only
  split
  · exact hended
  · exact hsend
  · exact hsend
  · exact hsend
  · split
    · exact hserve
    · exact hended.trans (((t.laneStep_modExch n i x (fun e => { e with ownCount := nextCount e.ownCount }) rfl).trans
        (State.laneStep_sendTuning _ n i x)).run hot)
  · exact hserve

/-! ### The timers of an exchange and of a leg (R34, R70, R105, R107, R119, R125) -/

theorem State.reach_legTurns (s : State) (n : LegId) (a : Nat) : s.LegTurns n (s.reach a) := (State.LegTurn.time _).run

theorem State.silence_legTurns {s : State} (hi : s.owner i = some n) (h : s.laneState i x = .tune ∨ s.laneState i x = .ready) :
    s.LegTurns n (s.silence n i x) := by
  unfold State.silence
  split
  · exact (State.laneFailure_legTurns hi h _).reportIfMoved s i x
  · have hlisten := State.listens_legTurns (x := x) hi (h.elim (fun k => .inr (.inl k)) fun k => .inr (.inr (.inl k)))
    have hot := ((State.laneMove_enterListen hi x).owner i).trans hi
    unfold State.restartExchange
    dsimp only
    generalize s.enterListen i x = t at hlisten hot
    split
    · exact (hlisten.trans ((t.laneStep_modExch n i x (fun e => { e with restarts := e.restarts + 1 }) rfl).run hot)).tail .reports
    · exact hlisten.tail .reports

theorem State.watchRunning_some {s : State} {w : LegId × Nat} (h : s.watchRunning i x = some w) :
    s.owner i = some w.1 ∧ (s.laneState i x = .tune ∨ s.laneState i x = .ready) := by
  unfold State.watchRunning at h
  split at h
  · next hl =>
    split at h
    · next m instant ho _ =>
      cases h
      exact ⟨ho, hl⟩
    · cases h
  · cases h

theorem State.answerRunning_some {s : State} {w : LegId × Nat} (h : s.answerRunning i x = some w) :
    s.owner i = some w.1 ∧ s.laneState i x = .tune := by
  unfold State.answerRunning at h
  split at h
  · next hl =>
    split at h
    · next m instant ho _ =>
      cases h
      exact ⟨ho, hl⟩
    · cases h
  · cases h

theorem execFrameSilenceExpiry_legTurns {s t : State} (hi : s.owner i = some n) (h : execFrameSilenceExpiry i x s = .next t) :
    s.LegTurns n t := by
  unfold execFrameSilenceExpiry at h
  split at h
  · next m instant hw =>
    obtain ⟨ho, hl⟩ := State.watchRunning_some hw
    obtain rfl := Option.some.inj (ho.symm.trans hi)
    rw [← Host.Outcome.next.inj h]
    exact (s.reach_legTurns m instant).trans (State.silence_legTurns (s := s.reach instant) hi hl)
  · cases h
    exact .refl

theorem execAnswerTimerExpiry_legTurns {s t : State} (hi : s.owner i = some n) (h : execAnswerTimerExpiry i x s = .next t) :
    s.LegTurns n t := by
  unfold execAnswerTimerExpiry at h
  split at h
  · next m instant hw =>
    obtain ⟨ho, hl⟩ := State.answerRunning_some hw
    obtain rfl := Option.some.inj (ho.symm.trans hi)
    rw [← Host.Outcome.next.inj h]
    exact (s.reach_legTurns m instant).trans
      ((State.laneFailure_legTurns (s := s.reach instant) hi (.inl hl) _).reportIfMoved _ i x)
  · cases h
    exact .refl

theorem execTrainingBudgetExpiry_legTurns {s t : State} (h : execTrainingBudgetExpiry n s = .next t) : s.LegTurns n t := by
  unfold execTrainingBudgetExpiry at h
  split at h
  · next instant hs _ =>
    rw [← Host.Outcome.next.inj h]
    exact (s.reach_legTurns n instant).tail (.fails _ _ _ (.inl rfl) (.inl hs))
  · cases h
    exact .refl

theorem execCutExpiry_legTurns {s t : State} (h : execCutExpiry n s = .next t) : s.LegTurns n t := by
  unfold execCutExpiry at h
  split at h
  · next instant hs _ =>
    rw [← Host.Outcome.next.inj h]
    exact (s.reach_legTurns n instant).tail (.fails _ _ _ (.inr (.inr rfl)) (.inr hs))
  · cases h
    exact .refl

theorem execBackoffExpiry_legTurns {s t : State} (h : execBackoffExpiry n s = .next t) : s.LegTurns n t := by
  unfold execBackoffExpiry at h
  split at h
  · next instant hs _ =>
    rw [← Host.Outcome.next.inj h]
    exact (s.reach_legTurns n instant).tail (.boundary _ (.inl hs))
  · cases h
    exact .refl

theorem execBridgeExpiry_legTurns {s t : State} (h : execBridgeExpiry n s = .next t) : s.LegTurns n t := by
  unfold execBridgeExpiry at h
  split at h
  · next instant hs _ =>
    rw [← Host.Outcome.next.inj h]
    exact (s.reach_legTurns n instant).tail (.loses hs)
  · cases h
    exact .refl

/-! ### The commands on a leg (R108 to R111) -/

theorem State.legCommand_legTurns (s : State) (n : LegId) (f : State → State)
    (h : s.resetHeld = false → s.legExists n = true → s.LegTurns n (f s)) : s.LegTurns n (s.legCommand n f) := by
  unfold State.legCommand State.whenOpen
  split
  · next hw =>
    dsimp only
    split
    · next he => exact h (by simp [State.windowOpen] at hw; exact hw.2) he
    · exact .refl
  · exact .refl

theorem State.retrainLeg_legTurns {s : State} (hr : s.resetHeld = false) (he : s.legExists n = true) :
    s.LegTurns n (s.retrainLeg n) := by
  unfold State.retrainLeg
  split
  · exact .refl
  · have hcount : s.LegTurns n ((s.countRetrain n).modLeg n fun l => { l with retry := 0 }) := State.LegTurn.retries.run
    have hrt : ((s.countRetrain n).modLeg n fun l => { l with retry := 0 }).resetHeld = false := hr
    have het : ((s.countRetrain n).modLeg n fun l => { l with retry := 0 }).legExists n = true := by
      unfold State.legExists State.countRetrain
      rw [State.leg_modLeg_same, State.leg_congr (State.deriveAttention_legs _), State.leg_modLeg_same]
      exact he
    dsimp only
    generalize ((s.countRetrain n).modLeg n fun l => { l with retry := 0 }) = t at hcount hrt het
    split
    · have hends := t.endCondition_condsMove (some n) .retryOut
      refine (hcount.tail (.ends .retryOut (ownsCode_some n (by simp) (by simp)))).tail (.boundary _ (.inr ⟨?_, ?_⟩))
      · exact hends.moves.fabricMoves.keeps.2.2.trans hrt
      · unfold State.legExists
        rw [hends.moves.fabricMoves.keeps.2.1, hends.legs n]
        exact het
    · exact hcount.tail (.boundary _ (.inr ⟨hrt, het⟩))

theorem State.unparkLeg_legTurns {s : State} (hr : s.resetHeld = false) (he : s.legExists n = true) :
    s.LegTurns n (s.unparkLeg n) := by
  unfold State.unparkLeg
  split
  · exact (State.LegTurn.boundary _ (.inr ⟨hr, he⟩)).run
  · exact .refl

/-- An event of a lane of leg `n`, an expiry of its timers or a command on it is a run of the leg's turns. -/
theorem exec_legTurns {cmd : Instr} {s t : State} (h : exec cmd s = .next t) (hc : s.concerned cmd = some n) : s.LegTurns n t := by
  cases cmd
  case signalLost i x a =>
    cases h
    split
    · exact .refl
    · exact (s.reach_legTurns n a).trans (State.loseSignal_legTurns (s := s.reach a) hc x)
  case signalRestored i x a =>
    cases h
    split
    · exact .refl
    · exact (s.reach_legTurns n a).trans (State.regainSignal_legTurns (s := s.reach a) hc x)
  case measurementRecord i x eye rp rq => cases h; exact State.takeRecord_legTurns hc x eye rp rq
  case tuneFrameArrives i x w => cases h; exact State.arrive_legTurns hc x w
  case fillFrameArrives i x w => cases h; exact State.arrive_legTurns hc x w
  case invalidFrame i x w => cases h; exact State.arrive_legTurns hc x w
  case frameIntervalStart i x => cases h; exact State.startInterval_legTurns hc x
  case countZeroFrameEnd i x => cases h; exact State.endCountZero_legTurns hc x
  case frameSilenceExpiry i x => exact execFrameSilenceExpiry_legTurns hc h
  case answerTimerExpiry i x => exact execAnswerTimerExpiry_legTurns hc h
  case trainingBudgetExpiry m => cases hc; exact execTrainingBudgetExpiry_legTurns h
  case backoffExpiry m => cases hc; exact execBackoffExpiry_legTurns h
  case bridgeExpiry m => cases hc; exact execBridgeExpiry_legTurns h
  case cutExpiry m => cases hc; exact execCutExpiry_legTurns h
  case retrain m => cases hc; cases h; exact s.legCommand_legTurns _ _ State.retrainLeg_legTurns
  case park m => cases hc; cases h; exact s.legCommand_legTurns _ _ fun _ _ => (State.LegTurn.parks _).run
  case unpark m => cases hc; cases h; exact s.legCommand_legTurns _ _ State.unparkLeg_legTurns
  case clear m => cases hc; cases h; exact s.legCommand_legTurns _ _ fun _ _ => State.LegTurn.clears.run
  all_goals cases hc

end

end Sys2Proof.Machine
end

section
/-! PROOF. The law of the memory agent, kept by every step (R144, R160, R162, R164 to R167). -/

namespace Sys2Proof.Machine

/-! ### A leg at rest (R20, R114) -/

/-- Leg `n` is PARKED where no command and no timer of it can be: under reset, or where it does not exist. -/
def State.Dormant (n : LegId) (s : State) : Prop := (s.leg n).state = .parked ∧ (s.resetHeld = true ∨ s.legExists n = false)

/-- Leg `n`'s state, profile and group stand, and so do the agent, the head and the reset input. -/
structure State.Rests (n : LegId) (s t : State) : Prop where
  state : (t.leg n).state = (s.leg n).state
  profile : (t.leg n).profile = (s.leg n).profile
  width : (t.leg n).width = (s.leg n).width
  first : (t.leg n).first = (s.leg n).first
  agent : t.agent = s.agent
  head : t.head = s.head
  held : t.resetHeld = s.resetHeld

section
variable {n : LegId}

theorem State.Rests.refl (s : State) : s.Rests n s := ⟨rfl, rfl, rfl, rfl, rfl, rfl, rfl⟩

theorem State.Rests.trans {s t u : State} (h : s.Rests n t) (k : t.Rests n u) : s.Rests n u :=
  ⟨k.state.trans h.state, k.profile.trans h.profile, k.width.trans h.width, k.first.trans h.first,
    k.agent.trans h.agent, k.head.trans h.head, k.held.trans h.held⟩

theorem State.Rests.dormant {s t : State} (h : s.Rests n t) (hs : s.Dormant n) : t.Dormant n := by
  unfold State.Dormant State.legExists at *
  rw [h.state, h.width, h.head, h.held]
  exact hs

theorem State.LanesMove.rests {s t : State} (h : s.LanesMove t) (hs : (t.leg n).state = (s.leg n).state)
    (hp : (t.leg n).profile = (s.leg n).profile) (hw : (t.leg n).width = (s.leg n).width) (hf : (t.leg n).first = (s.leg n).first) : s.Rests n t := by
  unfold State.LanesMove at h
  exact ⟨hs, hp, hw, hf, by rw [h], by rw [h], by rw [h]⟩

theorem State.CondsMove.rests {s t : State} (h : s.CondsMove t) : s.Rests n t := by
  have hl := h.legs n
  have hm := h.moves
  unfold State.ReportMoves at hm
  exact ⟨by rw [hl], by rw [hl], by rw [hl], by rw [hl], by rw [hm], by rw [hm], by rw [hm]⟩

theorem State.LaneMove.rests {i : Lane} {x : Side} {s t : State} (h : s.LaneMove n i x t) : s.Rests n t :=
  h.lanes.rests (by rw [h.leg]) (by rw [h.leg]) (by rw [h.leg]) (by rw [h.leg])

theorem State.deriveOrders_rests (s : State) (n : LegId) : s.Rests n (s.deriveOrders n) := by
  have hl := State.leg_congr (s.deriveOrders_legs n) n
  exact (s.deriveOrders_moves n).rests (by rw [hl]) (by rw [hl]) (by rw [hl]) (by rw [hl])

/-- A PARKED leg answers a lane's report with its orders and its margin condition alone (R82). -/
theorem State.laneReport_parked {s : State} (h : (s.leg n).state = .parked) : s.laneReport n = (s.deriveOrders n).marginCheck n := by
  have htrain : s.trainingTest n = s := if_neg (by simp [h])
  have hrelease : s.releaseTest n = s := if_neg (by simp [h])
  have hup : s.upTest n = s := if_neg (by simp [h])
  rw [State.laneReport, htrain, hrelease, hup]

theorem State.clearLeg_legs (s : State) (n : LegId) (lanes : List Lane) : (s.clearLeg n lanes).legs = (s.modLeg n Leg.cleared).legs :=
  State.onExchanges_induct (P := fun t => t.legs = (s.modLeg n Leg.cleared).legs) (fun i x t => t.clearExchange i x)
    (fun _ _ _ ht => ht) lanes rfl

theorem State.LegTurn.rests {s t : State} (h : s.LegTurn n t) (hs : s.Dormant n) : s.Rests n t := by
  obtain ⟨hp, hd⟩ := hs
  cases h with
  | time now => exact ⟨rfl, rfl, rfl, rfl, rfl, rfl, rfl⟩
  | lane i x t hi h => exact h.move.rests
  | queues kind => exact (s.queueEvent_condsMove _ _).rests
  | reports =>
    rw [State.laneReport_parked hp]
    exact (s.deriveOrders_rests n).trans (State.marginCheck_condsMove _ n).rests
  | margin => exact (s.marginCheck_condsMove n).rests
  | orders => exact s.deriveOrders_rests n
  | ends code _ => exact (s.endCondition_condsMove _ _).rests
  | fails cause code failure hc hs => simp [hp] at hs
  | reverts i x hi h =>
    have hm := State.laneMove_returnToTune hi x .partnerRevert
    have hstay : (s.returnToTune i x .partnerRevert).revertLeg n x = s.returnToTune i x .partnerRevert := by
      unfold State.revertLeg
      rw [hm.state, hp]
    unfold State.partnerRevert
    rw [hstay]
    exact hm.rests
  | holds h => simp [hp] at h
  | restores h => simp [hp] at h
  | starts x h => simp [hp] at h
  | loses h => simp [hp] at h
  | boundary cause h =>
    rcases h with h | ⟨hr, he⟩
    · simp [hp] at h
    · simp [hr, he] at hd
  | parks cause =>
    rw [show s.parkLeg n cause = s from if_pos hp]
    exact .refl s
  | clears =>
    have hl := (State.leg_congr (s.clearLeg_legs n (s.legLanes n)) n).trans (s.leg_modLeg_same n Leg.cleared)
    have hm := (State.onExchanges_lanes (s.modLeg n Leg.cleared) (s.legLanes n) (fun i x t => t.clearExchange i x) fun _ _ _ => rfl)
    refine ⟨by rw [hl]; rfl, by rw [hl]; rfl, by rw [hl]; rfl, by rw [hl]; rfl, ?_, ?_, ?_⟩
    all_goals
      unfold State.LanesMove at hm
      unfold State.clearLeg
      rw [hm]
      rfl
  | retries =>
    have hl : (((s.countRetrain n).modLeg n fun l => { l with retry := 0 })).leg n = { (s.countRetrain n).leg n with retry := 0 } :=
      State.leg_modLeg_same _ _ _
    have hc : (s.countRetrain n).leg n = { s.leg n with
        retrain := (s.leg n).retrain + 1, rollRetrain := (s.leg n).rollRetrain || (s.leg n).retrain == 0xFFFF } :=
      s.leg_modLeg_same n fun l => { l with retrain := l.retrain + 1, rollRetrain := l.rollRetrain || l.retrain == 0xFFFF }
    exact ⟨by rw [hl, hc], by rw [hl, hc], by rw [hl, hc], by rw [hl, hc], rfl, rfl, rfl⟩

theorem State.LegTurns.rests {s t : State} (h : s.LegTurns n t) (hs : s.Dormant n) : s.Rests n t :=
  (h.keeps (P := fun u => s.Rests n u ∧ u.Dormant n) (fun _ _ hu hv => by
    have hr := hv.rests hu.2
    exact ⟨hu.1.trans hr, hr.dormant hu.2⟩) ⟨.refl s, hs⟩).1

end

/-! ### The law by what an operation leaves -/

theorem State.AgentOk.congr {s t : State} (h : s.AgentOk) (ha : t.agent = s.agent) (hp : t.bridge.port = s.bridge.port)
    (hr : t.resetHeld = true → s.resetHeld = true) : t.AgentOk := by
  obtain ⟨h1, h2, h3, h4, h5, h6, h7⟩ := h
  unfold State.AgentOk
  rw [ha, hp]
  exact ⟨h1, h2, h3, h4, h5, h6, fun k => h7 (hr k)⟩

/-- An agent whose port is free. -/
theorem State.agentOk_of_free {t : State} (hp : t.bridge.port = .free) (hserial : 1 ≤ t.agent.nextSerial ∧ t.agent.nextSerial ≤ 65535)
    (hskip : t.agent.skipped ≤ 255) (hspace : t.agent.spacing ≤ 10000) (hr : t.resetHeld = true → t.agent.records = []) :
    t.AgentOk := by
  unfold State.AgentOk
  rw [hp]
  exact ⟨hserial, hskip, hspace, nofun, nofun, nofun, fun k => ⟨hr k, rfl⟩⟩

theorem State.AgentOk.serial {s : State} (h : s.AgentOk) : 1 ≤ s.agent.nextSerial ∧ s.agent.nextSerial ≤ 65535 := h.1

theorem State.AgentOk.counts {s : State} (h : s.AgentOk) : s.agent.skipped ≤ 255 ∧ s.agent.spacing ≤ 10000 := ⟨h.2.1, h.2.2.1⟩

/-- Under reset nothing is kept and the port is free (R160). -/
theorem State.AgentOk.underReset {s : State} (h : s.AgentOk) (hr : s.resetHeld = true) :
    s.agent.records = [] ∧ s.bridge.port = .free := h.2.2.2.2.2.2 hr

/-- The agent holds the port, so the reset input is not asserted. -/
theorem State.AgentOk.running {s : State} (h : s.AgentOk) {job : AgentJob} (hp : s.bridge.port = .agent job) : s.resetHeld = false := by
  cases hr : s.resetHeld with
  | false => rfl
  | true => simp [(h.underReset hr).2] at hp

theorem State.FabricMoves.agentOk {s t : State} (h : s.FabricMoves t) (hs : s.AgentOk)
    (hr : s.resetHeld = true → t.agent.records = []) : t.AgentOk := by
  obtain ⟨h1, h2, h3, h4, h5, h6, h7⟩ := hs
  have hb := h.keeps.1
  have ha : t.agent = { s.agent with records := t.agent.records, spacing := t.agent.spacing, skipped := t.agent.skipped } := by
    rw [h.frame]
  have hserial : t.agent.nextSerial = s.agent.nextSerial := by rw [ha]
  have hload : t.agent.load = s.agent.load := by rw [ha]
  unfold State.AgentOk
  rw [hb, hserial, hload, h.keeps.2.2]
  refine ⟨h1, h.skipped.elim (fun e => e ▸ h2) id, h.spacing.elim (fun e => e ▸ h3) fun e => by omega, fun k e => ?_, h5, h6,
    fun k => ⟨hr k, (h7 k).2⟩⟩
  have hprefix := h.records
  rw [e] at hprefix
  exact h4 k (List.prefix_nil.1 hprefix)

/-! ### The bridge's events, as the agent sees them (R144) -/

/-- The agent stands, and the port has passed to the bridge, been given up by it, or stays. -/
structure State.PortMoves (s t : State) : Prop where
  agent : t.agent = s.agent
  head : t.head = s.head
  held : t.resetHeld = s.resetHeld
  jobs : ∀ job : AgentJob, t.bridge.port = .agent job → s.bridge.port = .agent job
  free : s.resetHeld = true → s.bridge.port = .free → t.bridge.port = .free

theorem State.PortMoves.trans {s t u : State} (h : s.PortMoves t) (k : t.PortMoves u) : s.PortMoves u :=
  ⟨k.agent.trans h.agent, k.head.trans h.head, k.held.trans h.held, fun job e => h.jobs job (k.jobs job e),
    fun hr e => k.free (h.held.trans hr) (h.free hr e)⟩

/-- A change of the bridge that leaves the port. -/
theorem State.BridgeMoves.keepsPort {s t : State} (h : s.BridgeMoves t) (hp : t.bridge.port = s.bridge.port) : s.PortMoves t := by
  unfold State.BridgeMoves at h
  exact ⟨by rw [h], by rw [h], by rw [h], fun job e => hp ▸ e, fun _ e => hp.trans e⟩

theorem State.PortMoves.refl (s : State) : s.PortMoves s := State.BridgeMoves.keepsPort rfl rfl

theorem State.endTxn_portMoves (s : State) (acts : List MemAct) (a : SwitchAnswer) : s.PortMoves (s.endTxn acts a) := by
  refine ⟨rfl, rfl, rfl, fun job e => ?_, fun _ e => ?_⟩
  · have hp : s.bridge.port.afterBridge = .agent job := e
    cases hs : s.bridge.port <;> rw [hs] at hp <;> simp [Port.afterBridge] at hp
    rw [hp]
  · show s.bridge.port.afterBridge = .free
    rw [e]
    rfl

theorem State.beginTxn_portMoves (s : State) {port : Port} (phase : TxnPhase) (hp : port = .bridge ∧ s.resetHeld = false ∨ port = s.bridge.port) :
    s.PortMoves (s.beginTxn port phase) := by
  refine ⟨rfl, rfl, rfl, fun job e => ?_, fun hr e => ?_⟩
  · have he : port = .agent job := e
    rcases hp with ⟨k, -⟩ | k
    · simp [k] at he
    · exact k ▸ he
  · show port = .free
    rcases hp with ⟨-, k⟩ | k
    · simp [k] at hr
    · exact k.trans e

theorem State.mirrorUnknown_portMoves (s : State) : s.PortMoves s.mirrorUnknown := State.BridgeMoves.keepsPort rfl rfl

theorem State.endAbnormally_portMoves (s : State) (acts : List MemAct) : s.PortMoves (s.endAbnormally acts) := by
  unfold State.endAbnormally
  dsimp only
  split
  · exact s.mirrorUnknown_portMoves.trans (State.endTxn_portMoves _ _ _)
  · exact s.endTxn_portMoves _ _

theorem State.switchStarts_portMoves (s : State) : s.PortMoves s.switchStarts := by
  unfold State.switchStarts
  split
  · exact .refl s
  · next hr =>
    split
    · exact s.beginTxn_portMoves _ (.inl ⟨rfl, by simpa using hr⟩)
    · next hp => exact s.beginTxn_portMoves _ (.inr hp.symm)
    · exact .refl s

theorem State.givePort_portMoves (s : State) : s.PortMoves s.givePort := by
  unfold State.givePort
  split
  · exact .refl s
  · next hr =>
    split
    · exact s.beginTxn_portMoves _ (.inl ⟨rfl, by simpa using hr⟩)
    · exact .refl s

theorem State.beginWrite_portMoves (s : State) (memAck : Bool) : s.PortMoves (s.beginWrite memAck) := by
  unfold State.beginWrite
  split
  · exact s.endTxn_portMoves _ _
  · exact State.BridgeMoves.keepsPort rfl rfl
  · split
    · exact State.BridgeMoves.keepsPort rfl rfl
    · exact s.endTxn_portMoves _ _

theorem State.beginServed_portMoves (s : State) : s.PortMoves s.beginServed := State.BridgeMoves.keepsPort rfl rfl

theorem State.beginForwarded_portMoves (s : State) (acts : List MemAct) : s.PortMoves (s.beginForwarded acts) :=
  State.BridgeMoves.keepsPort rfl rfl

theorem State.beginRead_portMoves (s : State) (answer : MemAnswer) : s.PortMoves (s.beginRead answer) := by
  have hrefused (acts : List MemAct) : s.PortMoves (s.mirrorUnknown.endTxn acts .nack) :=
    s.mirrorUnknown_portMoves.trans (State.endTxn_portMoves _ _ _)
  unfold State.beginRead
  split
  · exact s.endTxn_portMoves _ _
  · exact s.beginServed_portMoves
  · exact s.beginServed_portMoves
  · exact s.beginServed_portMoves
  · split
    · split
      · exact s.endTxn_portMoves _ _
      · exact s.beginForwarded_portMoves _
    · split
      · exact s.beginForwarded_portMoves _
      · exact s.endTxn_portMoves _ _
      · exact hrefused _
      · exact hrefused _
      · exact hrefused _

theorem State.outOfPlace_portMoves (s : State) : s.PortMoves s.outOfPlace := State.BridgeMoves.keepsPort rfl rfl

theorem State.setPointers_portMoves (s : State) (a : BusAddr) : s.PortMoves (s.setPointers a) := by
  refine (s.setPointers_moves a).keepsPort ?_
  unfold State.setPointers
  dsimp only
  split
  · split <;> rfl
  · rfl

theorem State.wordArrives_portMoves (s : State) (high low : WordByte) : s.PortMoves (s.wordArrives high low) := by
  unfold State.wordArrives
  split
  · split
    · exact State.BridgeMoves.keepsPort rfl rfl
    · split
      · exact s.endAbnormally_portMoves _
      · split
        · exact s.endAbnormally_portMoves _
        · exact s.setPointers_portMoves _
  · exact s.outOfPlace_portMoves

theorem State.writtenByte_portMoves (s : State) (phase : TxnPhase) (take : State → State) (h : s.PortMoves (take s)) :
    s.PortMoves (s.writtenByte phase take) := by
  unfold State.writtenByte
  split
  · exact State.BridgeMoves.keepsPort rfl rfl
  · split
    · exact h
    · exact s.outOfPlace_portMoves

theorem State.discardByte_portMoves (s : State) : s.PortMoves s.discardByte := State.BridgeMoves.keepsPort rfl rfl

theorem State.takeLiveByte_portMoves (s : State) (v : Byte) : s.PortMoves (s.takeLiveByte v) := State.BridgeMoves.keepsPort rfl rfl

theorem State.liveByte_portMoves (s : State) (v : Byte) : s.PortMoves (s.liveByte v) :=
  s.writtenByte_portMoves _ _ (s.takeLiveByte_portMoves v)

theorem State.voidByte_portMoves (s : State) : s.PortMoves s.voidByte := s.writtenByte_portMoves _ _ s.discardByte_portMoves

theorem State.forwardByte_portMoves (s : State) (v : Byte) : s.PortMoves (s.forwardByte v) := by
  have hsnoop : s.PortMoves (s.snoop s.bridge.combined v) := by
    unfold State.snoop
    split <;> exact ⟨rfl, rfl, rfl, fun _ e => e, fun _ e => e⟩
  exact hsnoop.trans (State.BridgeMoves.keepsPort rfl rfl)

theorem State.memoryByte_portMoves (s : State) (v : Byte) (memAck : Bool) : s.PortMoves (s.memoryByte v memAck) := by
  refine s.writtenByte_portMoves _ _ ?_
  unfold State.takeMemoryByte
  split
  · split
    · exact s.forwardByte_portMoves v
    · exact s.endAbnormally_portMoves _
  · exact State.BridgeMoves.keepsPort rfl rfl

theorem State.forwardedByte_portMoves (s : State) (v : Byte) (switchAck : Bool) : s.PortMoves (s.forwardedByte v switchAck) := by
  unfold State.forwardedByte
  split
  · exact State.BridgeMoves.keepsPort rfl rfl
  · exact s.outOfPlace_portMoves

theorem State.servedByte_portMoves (s : State) (switchAck : Bool) : s.PortMoves (s.servedByte switchAck) := by
  unfold State.servedByte
  split
  · exact State.BridgeMoves.keepsPort rfl rfl
  · exact s.outOfPlace_portMoves

theorem State.leaveWordAddress_portMoves (s : State) : s.PortMoves s.leaveWordAddress := by
  unfold State.leaveWordAddress
  split
  · exact s.mirrorUnknown_portMoves
  · exact .refl s

theorem State.dropSnapshot_portMoves (s : State) (target : RestartTarget) : s.PortMoves (s.dropSnapshot target) := by
  unfold State.dropSnapshot
  split
  · exact State.BridgeMoves.keepsPort rfl rfl
  · exact .refl s

theorem State.restartRunOn_portMoves (s : State) (target : RestartTarget) : s.PortMoves (s.restartRunOn target) := by
  cases target with
  | read => exact s.beginServed_portMoves
  | write => exact State.BridgeMoves.keepsPort rfl rfl
  | otherAddress => exact s.endTxn_portMoves _ _

theorem State.restartTo_portMoves (s : State) (target : RestartTarget) (answer : MemAnswer) : s.PortMoves (s.restartTo target answer) := by
  cases target with
  | read => exact s.beginRead_portMoves _
  | write => exact s.beginWrite_portMoves _
  | otherAddress => exact s.endTxn_portMoves _ _

/-! ### The law, with the head in LOADING while a load runs -/

/-- The agent's law, and the head in LOADING while a load runs. -/
structure State.Guarded (s : State) : Prop where
  agent : s.AgentOk
  loading : s.agent.load.isSome = true → s.head = .loading

theorem State.Guarded.port {s t : State} (h : s.Guarded) (k : s.PortMoves t) : t.Guarded := by
  obtain ⟨⟨h1, h2, h3, h4, h5, h6, h7⟩, hl⟩ := h
  refine ⟨?_, fun e => k.head.trans (hl (k.agent ▸ e))⟩
  unfold State.AgentOk
  rw [k.agent, k.held]
  exact ⟨h1, h2, h3, fun e => h4 (k.jobs _ e), fun e => h5 (k.jobs _ e), fun e => h6 (k.jobs _ e),
    fun e => ⟨(h7 e).1, k.free e (h7 e).2⟩⟩

theorem State.parkedHead_fabricMoves (s : State) : s.FabricMoves s.parkedHead := by
  have hpark : s.FabricMoves s.parkAll := State.onLegs_fabricMoves _ (fun t n => by
    split
    · exact (t.parkLeg_turns (R := False) (G := False) _ (covers_self n)).fabricMoves
    · exact .refl t) allLegs s
  have hlapse (t : State) : t.FabricMoves t.lapsePlan := by
    rw [t.lapsePlan_only_slices]
    exact .of_agent rfl rfl
  exact (hpark.trans (State.idleAll_service _).lanes.fabricMoves).trans (hlapse _)

/-- A reload's start keeps the record on the port, and no chunk is on it (R164). -/
theorem State.Guarded.reloadHead {s : State} (h : s.Guarded) (hw : s.windowOpen = true) : s.reloadHead.Guarded := by
  have hclosed : s.head ≠ .loading ∧ s.resetHeld = false := by simpa [State.windowOpen] using hw
  have hload : s.agent.load = none := by
    cases hl : s.agent.load with
    | none => rfl
    | some l => exact absurd (h.loading (by simp [hl])) hclosed.1
  have hm := s.parkedHead_fabricMoves
  have hp := hm.agentOk h.agent fun k => by simp [hclosed.2] at k
  have hport := hm.keeps.1
  have hheld := hm.keeps.2.2
  have hnone : s.parkedHead.agent.load = none := by rw [hm.frame]; exact hload
  rw [State.reloadHead_eq hw]
  generalize s.parkedHead = w at hp hheld hnone
  obtain ⟨h1, h2, h3, h4, h5, h6, -⟩ := hp
  refine ⟨⟨h1, h2, h3, fun k e => ?_, fun k => ?_, fun k => ?_, fun k => ?_⟩, fun _ => rfl⟩
  · have hlen := heldRecords_length w.bridge.port w.agent.records
    rw [show heldRecords w.bridge.port w.agent.records = [] from e] at hlen
    exact h4 k (List.length_eq_zero_iff.1 hlen.symm)
  · have := h5 k
    simp [hnone] at this
  · have := h6 k
    simp [hnone] at this
  · have hk : w.resetHeld = true := k
    simp [hheld, hclosed.2] at hk

theorem State.Guarded.applyByte {s : State} (h : s.Guarded) (a : BusAddr) (v : Byte) : (s.applyByte a v).Guarded := by
  by_cases hw : s.windowOpen = true
  · rcases s.applyByte_fabric a v with hm | ⟨-, he⟩
    · refine ⟨hm.agentOk h.agent fun k => by simp [State.windowOpen, k] at hw, fun k => ?_⟩
      rw [hm.keeps.2.1]
      refine h.loading ?_
      rw [hm.frame] at k
      exact k
    · rw [he]
      exact h.reloadHead hw
  · rw [s.applyByte_closed a v (by simpa using hw)]
    exact h

theorem State.Guarded.applyBytes {s : State} (h : s.Guarded) (bytes : List (BusAddr × Byte)) : (s.applyBytes bytes).Guarded := by
  unfold State.applyBytes
  induction bytes generalizing s with
  | nil => exact h
  | cons b rest ih => exact ih (h.applyByte b.1 b.2)

theorem State.Guarded.applyBuffer {s : State} (h : s.Guarded) : s.applyBuffer.Guarded := by
  have hm : s.PortMoves { s with bridge := { s.bridge with txn := { s.bridge.txn with buffer := [] } } } :=
    State.BridgeMoves.keepsPort rfl rfl
  exact (h.port hm).applyBytes s.bridge.txn.buffer

theorem State.Guarded.repeatStart {s : State} (h : s.Guarded) (target : RestartTarget) (answer : MemAnswer) :
    (s.repeatStart target answer).Guarded := by
  have happlied : (s.leaveWordAddress.applyBuffer.dropSnapshot target).Guarded :=
    ((h.port s.leaveWordAddress_portMoves).applyBuffer).port (State.dropSnapshot_portMoves _ target)
  unfold State.repeatStart
  dsimp only
  generalize s.leaveWordAddress.applyBuffer.dropSnapshot target = t at happlied
  split
  · split
    · exact happlied.port (t.restartRunOn_portMoves target)
    · exact happlied.port (t.restartTo_portMoves target answer)
  · exact h.port s.outOfPlace_portMoves

theorem State.Guarded.stopTxn {s : State} (h : s.Guarded) : s.stopTxn.Guarded := by
  unfold State.stopTxn
  dsimp only
  split
  · exact h
  · exact h
  · exact ((h.port s.leaveWordAddress_portMoves).port (State.endTxn_portMoves _ _ _)).applyBytes _

end Sys2Proof.Machine
end

section
/-! PROOF. The law of the memory agent at its own events, and so at every step (R144, R160, R162 to R167). -/

namespace Sys2Proof.Machine

/-! ### The law at the agent's events -/

theorem State.AgentOk.chunkRead {s : State} (h : s.AgentOk) (hr : s.resetHeld = false) (a : BusAddr) :
    (s.chunkRead a).AgentOk ∧ (s.chunkRead a).bridge.port = .free ∧ (s.chunkRead a).resetHeld = false
      ∧ (s.chunkRead a).agent = s.agent := by
  have hm := ((s.releasePort (readActs a ++ [.stop])).moveMirror (memoryPointer (a + 64))).endCondition_moves none .memoryFault
  have hk := hm.fabricMoves.keeps
  have hp : (s.chunkRead a).bridge.port = .free := congrArg Bridge.port hk.1
  have hheld : (s.chunkRead a).resetHeld = false := hk.2.2.trans hr
  have ha : (s.chunkRead a).agent = s.agent := by
    unfold State.chunkRead
    unfold State.ReportMoves at hm
    rw [hm]
    rfl
  exact ⟨State.agentOk_of_free hp (ha ▸ h.serial) (ha ▸ h.counts.1) (ha ▸ h.counts.2) fun k => (by simp [hheld] at k), hp, hheld, ha⟩

/-- A step of the load at a free port. -/
theorem State.AgentOk.loadStep {s : State} (h : s.AgentOk) (hp : s.bridge.port = .free) (l : Load) (stage : LoadStage) :
    (s.loadStep l stage).AgentOk :=
  State.agentOk_of_free hp h.serial h.counts.1 h.counts.2 fun k => (h.underReset k).1

theorem State.AgentOk.recoveryDone {s : State} (h : s.AgentOk) (l : Load) : (s.recoveryDone l).AgentOk :=
  State.agentOk_of_free rfl h.serial h.counts.1 h.counts.2 fun k => (h.underReset k).1

theorem State.AgentOk.headerRead {s : State} (h : s.AgentOk) (hr : s.resetHeld = false) (l : Load) (bytes : Page) :
    (s.headerRead l bytes).AgentOk := by
  obtain ⟨hread, hp, hheld, -⟩ := h.chunkRead hr 0x0000
  unfold State.headerRead
  generalize s.chunkRead 0x0000 = t at hread hp hheld
  exact (hread.congr (t := { t with pendingHeader := bytes }) rfl rfl fun k => k).loadStep hp l _

theorem State.AgentOk.legRead {s : State} (h : s.AgentOk) (hr : s.resetHeld = false) (l : Load) (n : LegId) (bytes : Page) :
    (s.legRead l n bytes).AgentOk := by
  obtain ⟨hread, hp, hheld, -⟩ := h.chunkRead hr (BitVec.ofNat 16 (0x0040 + 64 * n.val))
  unfold State.legRead
  generalize s.chunkRead (BitVec.ofNat 16 (0x0040 + 64 * n.val)) = t at hread hp hheld
  exact (hread.congr (t := t.loadPending n bytes) rfl rfl fun k => k).loadStep hp l _

/-- A load that ends leaves the port and the serial, and holds the records (R163, R164). -/
theorem State.AgentOk.closeLoad {s : State} (h : s.AgentOk) (hr : s.resetHeld = false) (head : HeadState)
    (hp : s.bridge.port ≠ .agent .recovery) (hc : s.bridge.port ≠ .agent .loadChunk) : (s.closeLoad head).AgentOk := by
  obtain ⟨h1, h2, h3, h4, -, -, -⟩ := h
  refine ⟨h1, h2, h3, fun k e => h4 k ?_, fun k => absurd k hp, fun k => absurd k hc, fun k => ?_⟩
  · exact List.map_eq_nil_iff.1 e
  · have hk : s.resetHeld = true := k
    simp [hr] at hk

theorem State.AgentOk.endLoad {s : State} (h : s.AgentOk) (hr : s.resetHeld = false) (hp : s.bridge.port = .free) :
    s.endLoad.AgentOk := by
  obtain ⟨head, -, hm⟩ := s.endLoad_fabricMoves
  exact hm.agentOk (h.closeLoad hr head (by simp [hp]) (by simp [hp])) fun k => by
    have hk : s.resetHeld = true := k
    simp [hr] at hk

/-- The next serial after the scan is in its range (R165). -/
theorem scanResult_serial (best : Option (Nat × Fin 8)) : 1 ≤ (scanResult best).2 ∧ (scanResult best).2 ≤ 65535 := by
  cases best with
  | none => simp [scanResult]
  | some b =>
    show 1 ≤ min 65535 (b.1 + 1) ∧ min 65535 (b.1 + 1) ≤ 65535
    omega

theorem State.AgentOk.slotRead {s : State} (h : s.AgentOk) (hr : s.resetHeld = false) (l : Load) (k : Fin 8) (bytes : Page) :
    (s.slotRead l k bytes).AgentOk := by
  obtain ⟨hread, hp, hheld, -⟩ := h.chunkRead hr (slotAddress k)
  have hserial := scanResult_serial (weighSlot l.best k bytes)
  unfold State.slotRead
  generalize s.chunkRead (slotAddress k) = t at hread hp hheld
  dsimp only
  generalize scanResult (weighSlot l.best k bytes) = r at hserial
  split
  · have hscan : State.AgentOk { t with agent := { t.agent with nextSlot := r.1, nextSerial := r.2 } } :=
      State.agentOk_of_free hp hserial hread.counts.1 hread.counts.2 fun e => (hread.underReset e).1
    exact hscan.endLoad hheld hp
  · exact hread.loadStep hp _ _

theorem State.dropJob_ports (s : State) (job other : AgentJob) (h : (s.dropJob job).bridge.port = .agent other) :
    s.bridge.port = .agent other ∧ other ≠ job := by
  unfold State.dropJob at h
  split at h
  · cases h
  · next hp =>
    refine ⟨h, ?_⟩
    rintro rfl
    exact hp h

theorem State.dropJob_agent (s : State) (job : AgentJob) : (s.dropJob job).agent = s.agent ∧ (s.dropJob job).resetHeld = s.resetHeld := by
  unfold State.dropJob
  split <;> exact ⟨rfl, rfl⟩

/-- A load that has tried a chunk is given up (R162, R163). -/
theorem State.AgentOk.giveUp {s : State} (h : s.AgentOk) (hr : s.resetHeld = false)
    (hl : (s.agent.load.bind Load.windowEnd).isSome = true) : ((s.dropJob .loadChunk).endNoMemory).AgentOk := by
  obtain ⟨ha, hheld⟩ := s.dropJob_agent .loadChunk
  have hports := s.dropJob_ports .loadChunk
  obtain ⟨h1, h2, h3, h4, h5, -, -⟩ := h
  generalize s.dropJob .loadChunk = d at ha hheld hports
  have hrecovery : d.bridge.port ≠ .agent .recovery := fun k => by
    have hstage := h5 (hports _ k).1
    cases hload : s.agent.load with
    | none => simp [hload] at hstage
    | some l =>
      have hst : l.stage = .recovery := by simpa [hload] using hstage
      simp [hload, Load.windowEnd, hst] at hl
  have hchunk : d.bridge.port ≠ .agent .loadChunk := fun k => (hports _ k).2 rfl
  have hdropped : d.AgentOk := by
    unfold State.AgentOk
    rw [ha]
    refine ⟨h1, h2, h3, fun k => h4 (hports _ k).1, fun k => absurd k hrecovery, fun k => absurd k hchunk, fun k => ?_⟩
    simp [hheld, hr] at k
  have hclosed := hdropped.closeLoad (hheld.trans hr) .noMemory hrecovery hchunk
  obtain ⟨u, hu, hm⟩ := d.endNoMemory_fabricMoves
  have hnot : u.resetHeld = false := hu.keeps.2.2.trans (hheld.trans hr)
  have hopened := hu.agentOk hclosed fun k => by
    have hk : d.resetHeld = true := k
    simp [hheld, hr] at hk
  refine hm.agentOk (hopened.congr rfl rfl fun k => k) fun k => ?_
  have hk : u.resetHeld = true := k
  simp [hnot] at hk

theorem State.AgentOk.recordDone {s : State} (h : s.AgentOk) (hr : s.resetHeld = false) (r : FailureRecord) (rest : List FailureRecord) :
    (s.recordDone r rest).AgentOk := by
  have ha := s.recordDone_alone r rest
  have hserial := h.serial
  have hsent : (s.recordSent r rest).AgentOk := by
    refine State.agentOk_of_free rfl ?_ (Nat.zero_le _) h.counts.2 fun k => ?_
    · show 1 ≤ min 65535 (s.agent.nextSerial + 1) ∧ min 65535 (s.agent.nextSerial + 1) ≤ 65535
      omega
    · have hk : s.resetHeld = true := k
      simp [hr] at hk
  exact hsent.congr ha.agent (congrArg Bridge.port ha.bridge) fun k => by rw [ha] at k; exact k

theorem State.AgentOk.dropRecord {s : State} (h : s.AgentOk) (hr : s.resetHeld = false) (rest : List FailureRecord) :
    (s.dropRecord rest).AgentOk := by
  obtain ⟨ha, hheld⟩ := s.dropJob_agent .record
  have hports := s.dropJob_ports .record
  obtain ⟨h1, h2, h3, -, h5, h6, -⟩ := h
  unfold State.dropRecord
  dsimp only
  generalize s.dropJob .record = d at ha hheld hports
  have hdropped : State.AgentOk { d with agent := { d.agent with records := rest } } := by
    unfold State.AgentOk
    dsimp only
    rw [ha]
    refine ⟨h1, h2, h3, fun k => absurd rfl (hports _ k).2, fun k => h5 (hports _ k).1, fun k => h6 (hports _ k).1, fun k => ?_⟩
    simp [hheld, hr] at k
  refine (State.raiseFault_moves _ _ _ _).fabricMoves.agentOk hdropped fun k => ?_
  have hk : d.resetHeld = true := k
  simp [hheld, hr] at hk

theorem State.chunkRefused_counts (s : State) (job : AgentJob) (at_ : NackAt) :
    (s.chunkRefused job at_).agent.nextSerial = s.agent.nextSerial ∧ (s.chunkRefused job at_).agent.skipped = s.agent.skipped
      ∧ (s.chunkRefused job at_).agent.spacing = s.agent.spacing := by
  unfold State.chunkRefused
  cases job with
  | recovery => exact ⟨rfl, rfl, rfl⟩
  | loadChunk => by_cases ha : at_ = .addressByte <;> simp [ha, State.releasePort]
  | record => by_cases ha : at_ = .addressByte <;> simp [ha, State.releasePort]

theorem State.AgentOk.chunkRefused {s : State} (h : s.AgentOk) {job : AgentJob} (hp : s.bridge.port = .agent job) (at_ : NackAt) :
    (s.chunkRefused job at_).AgentOk := by
  by_cases hj : job = .recovery
  · subst hj
    exact h
  · obtain ⟨h1, h2, h3⟩ := s.chunkRefused_counts job at_
    refine State.agentOk_of_free (by rw [s.chunkRefused_bridge hj at_]) (h1 ▸ h.serial) (h2 ▸ h.counts.1) (h3 ▸ h.counts.2) fun k => ?_
    rw [s.chunkRefused_frame job at_] at k
    have hk : s.resetHeld = true := k
    simp [h.running hp] at hk

/-- A ready job is the recovery of the load's step, a chunk that its step reads, or the oldest record (R144). -/
theorem State.readyJob_some {s : State} {job : AgentJob} (h : s.readyJob = some job) :
    (∃ l, s.agent.load = some l ∧ l.stage = .recovery ∧ job = .recovery)
      ∨ (∃ l, s.agent.load = some l ∧ l.stage ≠ .recovery ∧ l.stage ≠ .awaitStart ∧ job = .loadChunk)
      ∨ s.agent.records ≠ [] ∧ job = .record := by
  unfold State.readyJob at h
  split at h
  · next l hl =>
    split at h
    · cases h
    · next hs => exact .inl ⟨l, hl, hs, (Option.some.inj h).symm⟩
    · next hawait hrec =>
      split at h
      · cases h
      · exact .inr (.inl ⟨l, hl, hrec, hawait, (Option.some.inj h).symm⟩)
  · split at h
    · cases h
    · next r rest hr =>
      split at h
      · cases h
      · exact .inr (.inr ⟨by simp [hr], (Option.some.inj h).symm⟩)

theorem openWindow_isSome (window : Option Nat) (now : Nat) : (openWindow window now).isSome = true := by
  cases window <;> rfl

theorem Load.windowEnd_opened (l : Load) (now : Nat) (hr : l.stage ≠ .recovery) (ha : l.stage ≠ .awaitStart) :
    (Load.windowEnd { l with window := openWindow l.window now }).isSome = true := by
  unfold Load.windowEnd
  split
  · next h => exact absurd h ha
  · next h => exact absurd h hr
  · exact openWindow_isSome _ _

theorem State.AgentOk.agentTakes {s : State} (h : s.AgentOk) : s.agentTakes.AgentOk := by
  unfold State.agentTakes
  split
  · next hp =>
    split
    · next job hj =>
      obtain ⟨h1, h2, h3, -⟩ := h
      have hheld : (s.startJob job).resetHeld ≠ true := by
        show s.resetHeld ≠ true
        simp [hp.2.2]
      rcases State.readyJob_some hj with ⟨l, hl, hs, rfl⟩ | ⟨l, hl, hrec, hawait, rfl⟩ | ⟨hne, rfl⟩
      · refine ⟨h1, h2, h3, nofun, fun _ => ?_, nofun, fun k => absurd k hheld⟩
        show s.agent.load.map Load.stage = some .recovery
        rw [hl]
        exact congrArg some hs
      · refine ⟨h1, h2, h3, nofun, nofun, fun _ => ?_, fun k => absurd k hheld⟩
        show ((s.agent.load.map fun l => { l with window := openWindow l.window s.now }).bind Load.windowEnd).isSome = true
        rw [hl]
        exact l.windowEnd_opened s.now hrec hawait
      · refine ⟨h1, h2, h3, fun _ e => hne ?_, nofun, nofun, fun k => absurd k hheld⟩
        cases hrecords : s.agent.records with
        | nil => rfl
        | cons r rest => simp [State.startJob, hrecords] at e
    · exact h
  · exact h

/-! ### Every command -/

theorem execBusRecovery_agentOk {s t : State} (hs : s.AgentOk) (he : execBusRecovery s = .next t) : t.AgentOk := by
  unfold execBusRecovery at he
  split at he
  · next l hl =>
    cases he
    split
    · exact hs.recoveryDone l
    · exact hs
  · cases he; exact hs

theorem execHeaderChunk_agentOk {s t : State} (bytes : Page) (hs : s.AgentOk) (he : execHeaderChunk bytes s = .next t) : t.AgentOk := by
  unfold execHeaderChunk at he
  split at he
  · next l hl =>
    split at he
    · cases he; exact hs.headerRead (hs.running (State.chunkRunning_port hl).1) l bytes
    · cases he; exact hs
  · cases he; exact hs

theorem execLegRecordChunk_agentOk {s t : State} (bytes : Page) (hs : s.AgentOk) (he : execLegRecordChunk bytes s = .next t) :
    t.AgentOk := by
  unfold execLegRecordChunk at he
  split at he
  · next l hl =>
    split at he
    · cases he; exact hs.legRead (hs.running (State.chunkRunning_port hl).1) l _ bytes
    · cases he; exact hs
  · cases he; exact hs

theorem execRingSlotRead_agentOk {s t : State} (bytes : Page) (hs : s.AgentOk) (he : execRingSlotRead bytes s = .next t) : t.AgentOk := by
  unfold execRingSlotRead at he
  split at he
  · next l hl =>
    split at he
    · cases he; exact hs.slotRead (hs.running (State.chunkRunning_port hl).1) l _ bytes
    · cases he; exact hs
  · cases he; exact hs

theorem execLoadChunkTimeout_agentOk {s t : State} (hs : s.AgentOk) (hload : s.resetHeld = true → s.agent.load = none)
    (he : execLoadChunkTimeout s = .next t) : t.AgentOk := by
  unfold execLoadChunkTimeout at he
  split at he
  · next instant hw =>
    rw [← Host.Outcome.next.inj he]
    have hr : s.resetHeld = false := by
      cases hr : s.resetHeld with
      | false => rfl
      | true => simp [hload hr] at hw
    exact (hs.congr (t := s.reach instant) rfl rfl fun k => k).giveUp hr (by
      show (s.agent.load.bind Load.windowEnd).isSome = true
      rw [hw]
      rfl)
  · cases he; exact hs

theorem execChunkRetry_agentOk {s t : State} (hs : s.AgentOk) (he : execChunkRetry s = .next t) : t.AgentOk := by
  cases he
  obtain ⟨h1, h2, h3, h4, h5, h6, h7⟩ := hs
  refine ⟨h1, h2, h3, h4, fun k => ?_, fun k => ?_, h7⟩
  · have hk := h5 k
    show (s.agent.load.map fun l => { l with retryWait := false }).map Load.stage = some .recovery
    rw [← hk]
    cases s.agent.load <;> rfl
  · have hk := h6 k
    show ((s.agent.load.map fun l => { l with retryWait := false }).bind Load.windowEnd).isSome = true
    rw [← hk]
    cases s.agent.load <;> rfl

theorem execReloadLoadStart_agentOk {s t : State} (hs : s.AgentOk) (he : execReloadLoadStart s = .next t) : t.AgentOk := by
  unfold execReloadLoadStart at he
  split at he
  · next l hl =>
    cases he
    split
    · next hawait =>
      obtain ⟨h1, h2, h3, h4, h5, h6, h7⟩ := hs
      refine ⟨h1, h2, h3, h4, fun _ => rfl, fun k => ?_, h7⟩
      have hk := h6 k
      simp [hl, Load.windowEnd, hawait.1] at hk
    · exact hs
  · cases he; exact hs

theorem execRecordWritten_agentOk {s t : State} (hs : s.AgentOk) (he : execRecordWritten s = .next t) : t.AgentOk := by
  unfold execRecordWritten at he
  split at he
  · next r rest hp hr => cases he; exact hs.recordDone (hs.running hp) r rest
  · cases he; exact hs

theorem execFailureRecordRetry_agentOk {s t : State} (hs : s.AgentOk) (he : execFailureRecordRetry s = .next t) : t.AgentOk := by
  unfold execFailureRecordRetry at he
  split at he
  · next r rest hr =>
    cases he
    obtain ⟨h1, h2, h3, h4, h5, h6, h7⟩ := hs
    refine ⟨h1, h2, h3, fun _ => List.cons_ne_nil _ _, h5, h6, fun k => ?_⟩
    have hk := (h7 k).1
    simp [hr] at hk
  · cases he; exact hs

theorem execFailureRecordTimeout_agentOk {s t : State} (hs : s.AgentOk) (he : execFailureRecordTimeout s = .next t) : t.AgentOk := by
  unfold execFailureRecordTimeout at he
  split at he
  · next r rest hrecords =>
    split at he
    · next instant _ =>
      cases he
      have hr : s.resetHeld = false := by
        cases hr : s.resetHeld with
        | false => rfl
        | true => simp [(hs.underReset hr).1] at hrecords
      split
      · exact (hs.congr (t := s.reach instant) rfl rfl fun k => k).dropRecord hr _
      · exact hs
    · cases he; exact hs
  · cases he; exact hs

theorem execChunkNotAcknowledged_agentOk {s t : State} (nackAt : NackAt) (hs : s.AgentOk)
    (he : execChunkNotAcknowledged nackAt s = .next t) : t.AgentOk := by
  unfold execChunkNotAcknowledged at he
  split at he
  · next hp => cases he; exact hs.chunkRefused hp _
  · cases he; exact hs

/-- Under reset an event of the lanes and legs leaves the agent: every leg is PARKED and no command acts (R146, R160). -/
theorem exec_fabric_underReset {cmd : Instr} {s t : State} (hf : isFabric cmd = true) (h : exec cmd s = .next t) (hlegs : s.LegsOk)
    (hr : s.resetHeld = true) : t.agent = s.agent := by
  obtain ⟨-, hparked, hloading, -⟩ := hlegs
  cases hc : s.concerned cmd with
  | none =>
    have hm := exec_spare hf hc h
    unfold State.PathsMove at hm
    rw [hm]
  | some n =>
    have hexists : s.legExists n = false := by simp [State.legExists, hloading (.inr hr)]
    exact ((exec_legTurns h hc).rests ⟨hparked n hexists, .inl hr⟩).agent

theorem exec_fabric_agentOk {cmd : Instr} {s t : State} (hf : isFabric cmd = true) (h : exec cmd s = .next t) (hlegs : s.LegsOk)
    (hs : s.AgentOk) : t.AgentOk := by
  refine (exec_fabricMoves hf h).agentOk hs fun hr => ?_
  rw [exec_fabric_underReset hf h hlegs hr]
  exact (hs.underReset hr).1

/-- A command of the window that is not a leg's does not act under reset (R146). -/
theorem exec_window_agentOk {cmd : Instr} {s t : State} (hw : isWindowCommand cmd = true) (hf : ¬ isFabric cmd = true)
    (hr : cmd ≠ .reload) (h : exec cmd s = .next t) (hs : s.AgentOk) : t.AgentOk := by
  refine (exec_windowMoves hw hr h).agentOk hs fun k => ?_
  have hclosed : s.windowOpen = false := by simp [State.windowOpen, k]
  have hstays (f : State → State) : s.whenOpen f = s := by simp [State.whenOpen, hclosed]
  have hsame : t = s := by
    cases cmd
    case liveWindowOtherWrite a v => cases h; rfl
    all_goals simp [isWindowCommand, isFabric] at hw hf hr
    all_goals
      cases h
      exact hstays _
  rw [hsame]
  exact (hs.underReset k).1

theorem exec_agentOk {cmd : Instr} {s t : State} (h : exec cmd s = .next t) (hlegs : s.LegsOk) (hs : s.AgentOk) : t.AgentOk := by
  have hguard : s.Guarded := ⟨hs, fun k => hlegs.2.2.1 (.inl k)⟩
  by_cases hf : isFabric cmd = true
  · exact exec_fabric_agentOk hf h hlegs hs
  by_cases hw : isWindowCommand cmd = true ∧ cmd ≠ .reload
  · exact exec_window_agentOk hw.1 hf hw.2 h hs
  cases cmd
  case powerOn => cases h; exact reset_agentOk.congr rfl rfl fun k => k
  case resetLineAssert =>
    cases h
    exact State.agentOk_of_free rfl ⟨le_refl 1, (by decide : 1 ≤ 65535)⟩ (Nat.zero_le _) (Nat.zero_le _) fun _ => rfl
  case resetLineRelease =>
    cases h
    unfold State.releaseReset
    split
    · next hr =>
      obtain ⟨hrec, hp⟩ := hs.underReset hr
      exact State.agentOk_of_free hp hs.serial hs.counts.1 hs.counts.2 fun k => nomatch k
    · exact hs
  case headClockTick =>
    cases h
    split
    · exact hs
    · obtain ⟨h1, h2, h3, hrest⟩ := hs
      exact ⟨h1, h2, (Nat.sub_le _ _).trans h3, hrest⟩
  case reload =>
    cases h
    by_cases hopen : s.windowOpen = true
    · exact (hguard.reloadHead hopen).agent
    · unfold State.reloadHead
      rw [if_neg hopen]
      exact hs
  case switchStart => cases h; exact (hguard.port s.switchStarts_portMoves).agent
  case bridgeTakesPort => cases h; exact (hguard.port s.givePort_portMoves).agent
  case writeAddressPhase memAck =>
    cases h
    unfold State.writeAddress
    split
    · exact (hguard.port (s.beginWrite_portMoves memAck)).agent
    · exact (hguard.port s.outOfPlace_portMoves).agent
  case addressNotForMemory =>
    cases h
    unfold State.otherAddress
    split
    · exact (hguard.port (s.endTxn_portMoves _ _)).agent
    · exact (hguard.port s.outOfPlace_portMoves).agent
  case wordAddress high low => cases h; exact (hguard.port (s.wordArrives_portMoves high low)).agent
  case memoryWriteByte v memAck => cases h; exact (hguard.port (s.memoryByte_portMoves v memAck)).agent
  case liveWindowWriteByte v => cases h; exact (hguard.port (s.liveByte_portMoves v)).agent
  case voidWriteByte v => cases h; exact (hguard.port s.voidByte_portMoves).agent
  case currentAddressRead answer =>
    cases h
    unfold State.readAddress
    split
    · exact (hguard.port (s.beginRead_portMoves answer)).agent
    · exact (hguard.port s.outOfPlace_portMoves).agent
  case forwardedReadByte v switchAck => cases h; exact (hguard.port (s.forwardedByte_portMoves v switchAck)).agent
  case servedReadByte switchAck => cases h; exact (hguard.port (s.servedByte_portMoves switchAck)).agent
  case repeatedStart target answer => cases h; exact (hguard.repeatStart target answer).agent
  case transactionStop => cases h; exact hguard.stopTxn.agent
  case abnormalEnd =>
    cases h
    unfold State.abnormal
    split
    · next hp => exact hs.chunkRefused hp _
    · exact (hguard.port (s.endAbnormally_portMoves _)).agent
    · exact hs
  case busRecovery => exact execBusRecovery_agentOk hs h
  case agentTakesPort => cases h; exact hs.agentTakes
  case headerChunk bytes => exact execHeaderChunk_agentOk _ hs h
  case legRecordChunk bytes => exact execLegRecordChunk_agentOk _ hs h
  case ringSlotRead bytes => exact execRingSlotRead_agentOk _ hs h
  case chunkRetry => exact execChunkRetry_agentOk hs h
  case loadChunkTimeout => exact execLoadChunkTimeout_agentOk hs hlegs.2.2.2 h
  case reloadLoadStart => exact execReloadLoadStart_agentOk hs h
  case recordWritten => exact execRecordWritten_agentOk hs h
  case failureRecordRetry => exact execFailureRecordRetry_agentOk hs h
  case failureRecordTimeout => exact execFailureRecordTimeout_agentOk hs h
  case chunkNotAcknowledged nackAt => exact execChunkNotAcknowledged_agentOk _ hs h
  all_goals simp [isFabric, isWindowCommand] at hf hw

/-- Settles O15: by command; the lanes and legs leave the port and ask for records, but under reset every leg is PARKED and asks
for none; each event of the bridge and of the agent keeps the law. -/
theorem agentLawKept : Obligations.AgentLawKept := by
  intro s t hlegs hs h
  unfold step at h
  split at h
  · cases h
    exact hs
  · exact exec_agentOk h hlegs (hs.congr (t := s.popped) rfl rfl fun k => k)

end Sys2Proof.Machine
end

section
/-! SUPPORT. The law of one leg, with its lanes and their sets, and what a turn of the leg must show to keep it (R4, R7, R8, R38, R96,
R104, R106, R133). -/

namespace Sys2Proof.Machine

/-- The plan, and leg `n`'s record and lanes, are in order. -/
structure State.LegLaw (n : LegId) (s : State) : Prop where
  plan : s.PlanOk
  leg : (s.leg n).Ok
  absent : s.legExists n = false → (s.leg n).state = .parked
  lanes : ∀ i : Lane, s.owner i = some n → ∀ x : Side, s.LaneLaw n i x

/-- Leg `n`'s profile and the sets of its lanes are in order. -/
structure State.SetLaw (n : LegId) (s : State) : Prop where
  profile : (s.leg n).profile.Ok
  banks : ∀ i : Lane, s.owner i = some n → ∀ x : Side, s.BankLaw n i x

/-- Leg `n`'s law is kept, and under it that of its sets. -/
def State.LegKeeps (n : LegId) (s t : State) : Prop := s.LegLaw n → t.LegLaw n ∧ (s.SetLaw n → t.SetLaw n)

section
variable {n : LegId}

theorem State.LegKeeps.refl (s : State) : s.LegKeeps n s := fun h => ⟨h, id⟩

theorem State.LegKeeps.trans {s t u : State} (h : s.LegKeeps n t) (k : t.LegKeeps n u) : s.LegKeeps n u := fun hs => by
  obtain ⟨ht, hst⟩ := h hs
  obtain ⟨hu, htu⟩ := k ht
  exact ⟨hu, fun e => htu (hst e)⟩

theorem State.inGroup_congr {s t : State} {n : LegId} (hw : (t.leg n).width = (s.leg n).width) (hf : (t.leg n).first = (s.leg n).first)
    (j : Lane) : t.inGroup n j ↔ s.inGroup n j := by
  unfold State.inGroup
  rw [hw, hf]

theorem State.PlanOk.congr {s t : State} (h : s.PlanOk) (hs : t.slices = s.slices) (hh : t.head = s.head)
    (hw : ∀ m : LegId, (t.leg m).width = (s.leg m).width) (hf : ∀ m : LegId, (t.leg m).first = (s.leg m).first) : t.PlanOk := by
  obtain ⟨h1, h2, h3, h4, h5, h6⟩ := h
  have hg (m : LegId) (j : Lane) : t.inGroup m j ↔ s.inGroup m j := State.inGroup_congr (hw m) (hf m) j
  refine ⟨fun m => ?_, fun j m => ?_, fun j => ?_, fun j hj => ?_, fun j k hjk => ?_, fun j m m' hm hm' => ?_⟩
  · unfold Leg.groupOk
    rw [hw, hf]
    exact h1 m
  · rw [State.owner_congr hs, hh, hg]
    exact h2 j m
  · rw [State.slice_congr hs, State.owner_congr hs, State.owner_congr hs]
    exact h3 j
  · rw [State.slice_congr hs]
    exact h4 j (by rwa [State.owner_congr hs] at hj)
  · rw [State.slice_congr hs, State.slice_congr hs] at hjk
    exact h5 j k hjk
  · exact h6 j m m' ((hg m j).1 hm) ((hg m' j).1 hm')

theorem State.LaneMove.beside {i : Lane} {x : Side} {s t : State} (h : s.LaneMove n i x t) (hi : s.owner i = some n)
    (hp : s.PairsWithin n) : s.StandsBeside n t := by
  have hf := h.lanes
  unfold State.LanesMove at hf
  have hs := h.slices
  have hphys := hp.phys hi x
  have hne {k : Lane} {y : Side} (hk : s.owner k ≠ some n) : (k, y) ≠ (s.phys i x, x) := fun e =>
    hk (by rw [(Prod.mk.inj e).1]; exact hphys)
  refine ⟨h.legs, h.owner, fun j _ => State.slice_congr hs j, fun j y hj => h.exchs j y fun e => hj (by rw [(Prod.mk.inj e).1]; exact hi),
    fun j y hj => h.txs j y (hne hj), fun j y hj => h.rxs j y (hne hj), ?_, ?_⟩
  · rw [hf]
  · rw [hf]

/-- The widths and the head stand beside a leg whose own group does. -/
theorem State.StandsBeside.planOk {s t : State} (h : s.StandsBeside n t) (hs : t.slices = s.slices)
    (hw : (t.leg n).width = (s.leg n).width) (hf : (t.leg n).first = (s.leg n).first) (hp : s.PlanOk) : t.PlanOk := by
  have hother {m : LegId} (hm : m ≠ n) := h.legs m hm
  refine hp.congr hs (by rw [h.frame]) (fun m => ?_) fun m => ?_
  · by_cases hm : m = n
    · rw [hm, hw]
    · rw [hother hm]
  · by_cases hm : m = n
    · rw [hm, hf]
    · rw [hother hm]

theorem State.StandsBeside.legExists {s t : State} (h : s.StandsBeside n t) (hw : (t.leg n).width = (s.leg n).width) :
    t.legExists n = s.legExists n := by
  have hh : t.head = s.head := by rw [h.frame]
  unfold State.legExists
  rw [hw, hh]

/-- One lane of leg `n` has moved, and then its leg has answered: what is to be shown of the leg and of that lane. -/
theorem State.LegKeeps.moved {i : Lane} {x : Side} {s u t : State} (hi : s.owner i = some n) (hm : s.LaneMove n i x u)
    (ht : State.Turns False True (some n) u t) (ho : u.OrdersMove t) (hw : (t.leg n).width = (s.leg n).width)
    (hf : (t.leg n).first = (s.leg n).first) (hp : (t.leg n).profile = (s.leg n).profile)
    (hok : s.LegLaw n → (t.leg n).Ok ∧ (s.legExists n = false → (t.leg n).state = .parked)
      ∧ (∀ j : Lane, s.owner j = some n → ∀ y : Side, (t.leg n).state.admits (u.laneState j y) = true)
      ∧ (u.laneState i x ≠ .data → (u.rxPath i x).eye.phase = .idle))
    (hb : s.BankLaw n i x → u.BankLaw n i x) : s.LegKeeps n t := by
  intro hs
  have hwithin := hs.plan.pairsWithin n
  have hapart := hs.plan.pairsApart
  have hbeside := (hm.beside hi hwithin).trans (ht.beside (hwithin.congr hm.slices)).1
  have hslices := ho.slices.trans hm.slices
  have howner (j : Lane) : t.owner j = s.owner j := hbeside.owners j
  have hlane (j : Lane) (y : Side) : t.laneState j y = u.laneState j y := ho.laneState j y
  have hphys {j : Lane} {y : Side} (hj : (j, y) ≠ (i, x)) : (s.phys j y, y) ≠ (s.phys i x, x) := s.phys_ne hapart hj
  have hrx (j : Lane) (y : Side) : t.rxPath j y = u.rxPath j y := ho.rxPath j y
  have hux : (u.leg n).profile = (s.leg n).profile := hm.profile
  obtain ⟨hleg, habsent, hadmits, heye⟩ := hok hs
  refine ⟨⟨hbeside.planOk hslices hw hf hs.plan, hleg, fun he => habsent ((hbeside.legExists hw).symm.trans he), fun j hj y => ?_⟩,
    fun hset => ⟨hp ▸ hset.profile, fun j hj y => ?_⟩⟩
  · rw [howner] at hj
    refine ⟨by rw [hlane]; exact hadmits j hj y, fun hd => ?_⟩
    rw [hlane] at hd
    rw [hrx]
    by_cases hne : (j, y) = (i, x)
    · obtain ⟨rfl, rfl⟩ := Prod.mk.inj hne
      exact heye hd
    · have hstate : u.laneState j y = s.laneState j y := congrArg Exchange.lane (hm.exchs j y hne)
      rw [State.rxPath_eq_rxAt hm.slices, hm.rxs _ _ (hphys hne)]
      exact (hs.lanes j hj y).2 (hstate ▸ hd)
  · rw [howner] at hj
    have hub : u.BankLaw n j y := by
      by_cases hne : (j, y) = (i, x)
      · obtain ⟨rfl, rfl⟩ := Prod.mk.inj hne
        exact hb (hset.banks j hj y)
      · have hstate : u.laneState j y = s.laneState j y := congrArg Exchange.lane (hm.exchs j y hne)
        have hpath : u.txPath j y = s.txPath j y := by
          rw [State.txPath_eq_txAt hm.slices, hm.txs _ _ (hphys hne)]
          rfl
        unfold State.BankLaw
        rw [hux, hstate, hpath]
        exact hset.banks j hj y
    unfold State.BankLaw at hub ⊢
    rw [hp, ← hux, hlane, State.txPath_eq_txAt ho.slices, ho.txs]
    exact hub

/-- Only leg `n`'s record moves, with orders and reports. -/
theorem State.LegKeeps.recast {s t : State} (ht : State.Turns False True (some n) s t) (ho : s.OrdersMove t)
    (hw : (t.leg n).width = (s.leg n).width) (hf : (t.leg n).first = (s.leg n).first)
    (hp : (t.leg n).profile = (s.leg n).profile)
    (hok : s.LegLaw n → (t.leg n).Ok ∧ (s.legExists n = false → (t.leg n).state = .parked)
      ∧ ∀ q : LaneState, (s.leg n).state.admits q = true → (∃ i x, s.owner i = some n ∧ s.laneState i x = q) →
        (t.leg n).state.admits q = true) : s.LegKeeps n t := by
  intro hs
  have hbeside := (ht.beside (hs.plan.pairsWithin n)).1
  have howner (j : Lane) : t.owner j = s.owner j := hbeside.owners j
  obtain ⟨hleg, habsent, hadmits⟩ := hok hs
  refine ⟨⟨hbeside.planOk ho.slices hw hf hs.plan, hleg, fun he => habsent ((hbeside.legExists hw).symm.trans he), fun j hj y => ?_⟩,
    fun hset => ⟨hp ▸ hset.profile, fun j hj y => ?_⟩⟩
  · rw [howner] at hj
    unfold State.LaneLaw
    rw [ho.laneState, ho.rxPath]
    obtain ⟨ha, hi⟩ := hs.lanes j hj y
    exact ⟨hadmits _ ha ⟨j, y, hj, rfl⟩, hi⟩
  · rw [howner] at hj
    have hb := hset.banks j hj y
    unfold State.BankLaw at hb ⊢
    rw [hp, ho.laneState, State.txPath_eq_txAt ho.slices, ho.txs]
    exact hb

/-- Leg `n`'s record moves within its state. -/
theorem State.LegKeeps.record {s t : State} (ht : State.Turns False True (some n) s t) (ho : s.OrdersMove t)
    (hst : (t.leg n).state = (s.leg n).state) (hw : (t.leg n).width = (s.leg n).width) (hf : (t.leg n).first = (s.leg n).first)
    (hp : (t.leg n).profile = (s.leg n).profile) (hok : (s.leg n).Ok → (t.leg n).Ok) : s.LegKeeps n t :=
  .recast ht ho hw hf hp fun hs => ⟨hok hs.leg, fun he => hst.trans (hs.absent he), fun q hq _ => by rwa [hst]⟩

theorem Leg.Ok.withConds {l : Leg} (h : l.Ok) (c : LegConds) : ({ l with conds := c } : Leg).Ok := h

/-- Orders and reports keep the law. -/
theorem State.LegKeeps.reports {s t : State} (ht : State.Turns False True (some n) s t) (ho : s.OrdersMove t)
    (hl : t.leg n = { s.leg n with conds := (t.leg n).conds }) : s.LegKeeps n t := by
  generalize (t.leg n).conds = c at hl
  refine .record ht ho ?_ ?_ ?_ ?_ fun hok => ?_ <;> rw [hl]
  exact hok.withConds c

theorem State.CondsMove.legKeeps {s t : State} (h : s.CondsMove t) (ht : State.Turns False True (some n) s t) : s.LegKeeps n t :=
  .reports ht h.orders (h.legs n)

theorem State.LaneStep.legKeeps {i : Lane} {x : Side} {s t : State} (h : s.LaneStep n i x t) (hi : s.owner i = some n) :
    s.LegKeeps n t := by
  refine .moved hi h.move (.refl t) (.refl t) (by rw [h.move.leg]) (by rw [h.move.leg]) h.move.profile (fun hs => ?_) h.bank
  have hlaw := h.law hs.leg (hs.lanes i hi x)
  refine ⟨h.move.legOk hs.leg, fun he => h.move.state.trans (hs.absent he), fun j hj y => ?_, hlaw.2⟩
  by_cases hne : (j, y) = (i, x)
  · obtain ⟨rfl, rfl⟩ := Prod.mk.inj hne
    exact hlaw.1
  · have hstate : t.laneState j y = s.laneState j y := congrArg Exchange.lane (h.move.exchs j y hne)
    rw [h.move.state, hstate]
    exact (hs.lanes j hj y).1

end

end Sys2Proof.Machine
end

section
/-! PROOF. Each turn of a leg but its boundary keeps the law of the leg and of its sets (R84, R92, R102, R104, R106, R109, R116 to R119,
R124). -/

namespace Sys2Proof.Machine

section
variable {n : LegId}

/-! ### The leg's answer to a lane's report (R82) -/

theorem Leg.Ok.inTraining {l : Leg} (h : l.Ok) (hs : l.state = .waiting ∨ l.state = .up) (now : Nat) : (l.inTraining now).Ok := by
  obtain ⟨h1, h2, h3, h4, h5, h6, h7, h8, h9, h10⟩ := h
  rcases hs with hs | hs <;> simp_all [Leg.Ok, Leg.inTraining]

/-- A leg in HELD whose episode a partner revert has ended enters TRAINING (R92). -/
theorem Leg.Ok.inTraining_of_held {l : Leg} (h : l.Ok) (hs : l.state = .held) (now : Nat) :
    (Leg.inTraining { l with bridge := none, episode := none } now).Ok := by
  obtain ⟨h1, h2, h3, h4, h5, h6, h7, h8, h9, h10⟩ := h
  simp_all [Leg.Ok, Leg.inTraining]

theorem Leg.Ok.withReleased {l : Leg} (h : l.Ok) (hs : l.state = .training ∨ l.state = .lost) (r : Sides Bool) :
    ({ l with released := r } : Leg).Ok := by
  obtain ⟨h1, h2, h3, h4, h5, h6, -, h8, h9, h10⟩ := h
  refine ⟨h1, h2, h3, h4, h5, h6, fun k => ?_, h8, h9, h10⟩
  rcases hs with hs | hs <;> simp [hs] at k

theorem Leg.Ok.inUp {l : Leg} (h : l.Ok) (hs : l.state = .training ∨ l.state = .lost) : l.inUp.Ok := by
  obtain ⟨h1, h2, h3, h4, h5, h6, h7, h8, h9, h10⟩ := h
  rcases hs with hs | hs <;> simp_all [Leg.Ok, Leg.inUp]

theorem State.trainingTest_legKeeps (s : State) (n : LegId) : s.LegKeeps n (s.trainingTest n) := by
  have hturns : State.Turns False True (some n) s (s.trainingTest n) := s.trainingTest_turns (covers_self n)
  unfold State.trainingTest at hturns ⊢
  split
  · next h =>
    rw [if_pos h] at hturns
    rw [Bool.and_eq_true, decide_eq_true_iff, s.allPastListen_iff] at h
    obtain ⟨hwaiting, -, hpast⟩ := h
    have hl := s.enterTraining_leg n .allSignals
    refine .recast hturns (s.ordersMove_enterTraining n _) (by rw [hl]; rfl) (by rw [hl]; rfl) (by rw [hl]; rfl) fun hs => ?_
    rw [hl]
    refine ⟨hs.leg.inTraining (.inl hwaiting) _, fun he => ?_, fun q _ ⟨i, x, hi, hq⟩ => ?_⟩
    · exact absurd (hs.absent he) (by simp [hwaiting])
    · have hne : q ≠ .quiet := hq ▸ (hpast i ((s.mem_legLanes n i).2 hi) x).2
      simpa [Leg.inTraining, LegState.admits] using hne
  · exact .refl s

theorem State.releaseTest_legKeeps (s : State) (n : LegId) : s.LegKeeps n (s.releaseTest n) := by
  have hturns : State.Turns False True (some n) s (s.releaseTest n) := s.releaseTest_turns (covers_self n)
  have horders := s.ordersMove_releaseTest n
  unfold State.releaseTest at hturns horders ⊢
  dsimp only at hturns horders ⊢
  split
  · next h =>
    rw [if_pos h] at hturns horders
    have hl := s.leg_modLeg_same n fun l => { l with released :=
      ⟨l.released.s || (s.sideStatus n .s == some .gated && (s.sideStatus n Side.s.opposite).any SideStatus.letsRelease),
        l.released.c || (s.sideStatus n .c == some .gated && (s.sideStatus n Side.c.opposite).any SideStatus.letsRelease)⟩ }
    refine .record hturns horders ?_ ?_ ?_ ?_ fun hok => ?_ <;> rw [hl]
    exact hok.withReleased h _
  · exact .refl s

theorem State.upTest_legKeeps (s : State) (n : LegId) : s.LegKeeps n (s.upTest n) := by
  have hturns : State.Turns False True (some n) s (s.upTest n) := s.upTest_turns (covers_self n)
  unfold State.upTest at hturns ⊢
  split
  · next h =>
    rw [if_pos h] at hturns
    obtain ⟨hstate, hdata⟩ := h
    obtain ⟨-, -, hall⟩ := (s.bothData_iff n).1 hdata
    have hl := s.enterUp_leg n
    generalize ((s.enterUp n).leg n).conds = c at hl
    refine .recast hturns (s.ordersMove_enterUp n) (by rw [hl]; rfl) (by rw [hl]; rfl) (by rw [hl]; rfl) fun hs => ?_
    rw [hl]
    refine ⟨(hs.leg.inUp hstate).withConds c, fun he => ?_, fun q _ ⟨i, x, hi, hq⟩ => ?_⟩
    · have hp := hs.absent he
      rcases hstate with k | k <;> simp [k] at hp
    · rw [← hq, hall i ((s.mem_legLanes n i).2 hi) x]
      rfl
  · exact .refl s

theorem State.deriveOrders_legKeeps (s : State) (n : LegId) : s.LegKeeps n (s.deriveOrders n) :=
  .reports (s.deriveOrders_turns (covers_self n)) (s.ordersMove_deriveOrders n) (by rw [State.leg_congr (s.deriveOrders_legs n)])

theorem State.marginCheck_legKeeps (s : State) (n : LegId) : s.LegKeeps n (s.marginCheck n) :=
  (s.marginCheck_condsMove n).legKeeps (s.marginCheck_turns (covers_self n))

theorem State.queueEvent_legKeeps (s : State) (n : LegId) (leg : Option LegId) (kind : EventKind) :
    s.LegKeeps n (s.queueEvent leg kind) :=
  (s.queueEvent_condsMove leg kind).legKeeps (s.queueEvent_turns leg kind)

theorem State.laneReport_legKeeps (s : State) (n : LegId) : s.LegKeeps n (s.laneReport n) :=
  ((((s.trainingTest_legKeeps n).trans (State.releaseTest_legKeeps _ n)).trans (State.upTest_legKeeps _ n)).trans
    (State.deriveOrders_legKeeps _ n)).trans (State.marginCheck_legKeeps _ n)

/-! ### Episodes (R116 to R119, R123) -/

theorem Leg.Ok.inHeld {l : Leg} (h : l.Ok) (hs : l.state = .up) (now : Nat) : (l.inHeld now).Ok := by
  obtain ⟨h1, h2, h3, h4, h5, h6, h7, h8, h9, h10⟩ := h
  simp_all [Leg.Ok, Leg.inHeld]

theorem Leg.Ok.restored {l : Leg} (h : l.Ok) (hs : l.state = .held) (now : Nat) : (l.restored now).Ok := by
  obtain ⟨h1, h2, h3, h4, h5, h6, h7, h8, h9, h10⟩ := h
  simp_all [Leg.Ok, Leg.restored]

theorem Leg.Ok.inLost {l : Leg} (h : l.Ok) (hs : l.state = .held) (kept : Sides Bool) (now : Nat) : (l.inLost kept now).Ok := by
  obtain ⟨h1, h2, h3, h4, h5, h6, h7, h8, h9, h10⟩ := h
  simp_all [Leg.Ok, Leg.inLost]

theorem State.enterHeld_legKeeps {s : State} (h : (s.leg n).state = .up) : s.LegKeeps n (s.enterHeld n) := by
  have hl : (s.enterHeld n).leg n = (s.leg n).inHeld s.now := by
    rw [s.enterHeld_eq n, State.queueLegState, State.leg_of_queueEvent, State.leg_congr (State.deriveOrders_legs _ n),
      State.leg_modLeg_same]
  have horders : s.OrdersMove (s.enterHeld n) :=
    ((s.ordersMove_modLeg n fun l => l.inHeld s.now).trans (State.ordersMove_deriveOrders _ n)).trans
      (State.queueEvent_condsMove _ _ _).orders
  refine .recast (s.enterHeld_turns (covers_self n)) horders (by rw [hl]; rfl) (by rw [hl]; rfl) (by rw [hl]; rfl) fun hs => ?_
  rw [hl]
  refine ⟨hs.leg.inHeld h _, fun he => ?_, fun q hq _ => ?_⟩
  · exact absurd (hs.absent he) (by simp [h])
  · rwa [h] at hq

theorem State.endGlitch_legKeeps {s : State} (h : (s.leg n).state = .held) : s.LegKeeps n (s.endGlitch n) := by
  have hl : (s.endGlitch n).leg n = (s.leg n).restored s.now := by
    rw [s.endGlitch_eq n, State.queueLegState, State.leg_of_queueEvent, State.restoredUp,
      State.leg_congr (State.deriveOrders_legs _ n)]
    exact s.leg_modLeg_same n fun l => l.restored s.now
  have horders : s.OrdersMove (s.endGlitch n) := by
    rw [s.endGlitch_eq n]
    have hm : s.OrdersMove (s.modLeg n fun l => l.restored s.now).deriveAttention := ⟨rfl, rfl, fun _ _ => rfl, fun _ _ => rfl⟩
    exact (hm.trans (State.ordersMove_deriveOrders _ n)).trans (State.queueEvent_condsMove _ _ _).orders
  refine .recast (s.endGlitch_turns (covers_self n)) horders (by rw [hl]; rfl) (by rw [hl]; rfl) (by rw [hl]; rfl) fun hs => ?_
  rw [hl]
  refine ⟨hs.leg.restored h _, fun he => ?_, fun q hq _ => ?_⟩
  · exact absurd (hs.absent he) (by simp [h])
  · rwa [h] at hq

/-- The leg admits LISTEN, or no lane of it. -/
theorem State.enterListen_legKeeps {s : State} {i : Lane} {x : Side} (hi : s.owner i = some n)
    (h : (s.leg n).state = .training ∨ (s.leg n).state = .lost) : s.LegKeeps n (s.enterListen i x) :=
  (State.laneStep_enterListen hi fun _ => by rcases h with h | h <;> rw [h] <;> rfl).legKeeps hi

theorem State.startSide_legKeeps {s : State} (x : Side) (h : (s.leg n).state = .lost) :
    s.LegKeeps n (s.startSide n x) ∧ ((s.startSide n x).leg n).state = .lost := by
  have hall := State.onLanes_keeps (P := fun t => s.LegKeeps n t ∧ (t.leg n).state = .lost ∧ t.slices = s.slices)
    (f := fun i t => t.enterListen i x) (lanes := s.legLanes n) (fun i hi t ⟨hk, hs, hsl⟩ => by
      have hot : t.owner i = some n := (State.owner_congr hsl i).trans ((s.mem_legLanes n i).1 hi)
      have hm := State.laneMove_enterListen hot x
      exact ⟨hk.trans (State.enterListen_legKeeps hot (.inr hs)), hm.state.trans hs, hm.slices.trans hsl⟩) ⟨.refl s, h, rfl⟩
  exact ⟨hall.1, hall.2.1⟩

theorem State.startUnless_legKeeps {s : State} (kept : Bool) (x : Side) (h : (s.leg n).state = .lost) :
    s.LegKeeps n (s.startUnless n kept x) ∧ ((s.startUnless n kept x).leg n).state = .lost := by
  unfold State.startUnless
  split
  · exact ⟨.refl s, h⟩
  · exact State.startSide_legKeeps x h

theorem State.recovering_legKeeps {s : State} (h : (s.leg n).state = .held) : s.LegKeeps n (s.recovering n) := by
  have hl := s.recovering_leg n
  have hturns : State.Turns False True (some n) s (s.recovering n) :=
    (State.Turn.counts n ((s.leg n).inLost (s.keptSides n) s.now) (covers_self n) rfl).run
  refine .recast hturns ⟨rfl, rfl, fun _ _ => rfl, fun _ _ => rfl⟩ (by rw [hl]; rfl) (by rw [hl]; rfl) (by rw [hl]; rfl) fun hs => ?_
  rw [hl]
  refine ⟨hs.leg.inLost h _ _, fun he => ?_, fun q hq _ => ?_⟩
  · exact absurd (hs.absent he) (by simp [h])
  · rw [h] at hq
    have hd : q = .data := by simpa [LegState.admits] using hq
    rw [hd]
    rfl

theorem State.enterLost_legKeeps {s : State} (h : (s.leg n).state = .held) : s.LegKeeps n (s.enterLost n) := by
  have hl : ((s.recovering n).leg n).state = .lost := by
    rw [s.recovering_leg n]
    rfl
  obtain ⟨hs, hls⟩ := State.startUnless_legKeeps (!s.sideLost n .s) .s hl
  obtain ⟨hc, -⟩ := State.startUnless_legKeeps (!s.sideLost n .c) .c hls
  rw [s.enterLost_eq n]
  exact ((((((State.recovering_legKeeps h).trans hs).trans hc).trans (State.releaseTest_legKeeps _ n)).trans
    (State.deriveOrders_legKeeps _ n)).trans (State.queueEvent_legKeeps _ n _ _)).trans (State.marginCheck_legKeeps _ n)

/-! ### Partner reverts (R90, R92) -/

theorem State.returnToTune_eye {s : State} {i : Lane} {x : Side} (hs : s.LegLaw n) (hi : s.owner i = some n) (cause : ReturnCause) :
    ((s.returnToTune i x cause).rxPath i x).eye.phase = .idle := State.returnToTune_idle (hs.lanes i hi x).2 cause

/-- The lane that has returned to TUNE, and the leg in TRAINING. -/
theorem State.LegLaw.admits_training {s u : State} {i : Lane} {x : Side} (hs : s.LegLaw n) (hm : s.LaneMove n i x u)
    (hu : u.laneState i x = .tune) (hq : LegState.admits (s.leg n).state .quiet = false) (j : Lane) (hj : s.owner j = some n) (y : Side) :
    LegState.admits .training (u.laneState j y) = true := by
  by_cases hne : (j, y) = (i, x)
  · obtain ⟨rfl, rfl⟩ := Prod.mk.inj hne
    rw [hu]
    rfl
  · have hstate : u.laneState j y = s.laneState j y := congrArg Exchange.lane (hm.exchs j y hne)
    have ha := (hs.lanes j hj y).1
    rw [hstate]
    cases hl : s.laneState j y
    case quiet =>
      rw [hl, hq] at ha
      cases ha
    all_goals rfl

theorem State.dropAbsent_legKeeps {s : State} {j : Lane} {y : Side} (hj : s.owner j = some n) (h : (s.leg n).state = .training) :
    s.LegKeeps n (State.dropAbsent j y s) ∧ ((State.dropAbsent j y s).leg n).state = .training
      ∧ (State.dropAbsent j y s).slices = s.slices := by
  unfold State.dropAbsent
  split
  · have hm := State.laneMove_enterListen hj y
    exact ⟨State.enterListen_legKeeps hj (.inl h), hm.state.trans h, hm.slices⟩
  · exact ⟨.refl s, h, rfl⟩

theorem State.dropsAbsent_legKeeps {s : State} (h : (s.leg n).state = .training) (lanes : List Lane)
    (hl : ∀ j ∈ lanes, s.owner j = some n) : s.LegKeeps n (s.onExchanges lanes State.dropAbsent) := by
  refine (State.onExchanges_keeps (P := fun t => s.LegKeeps n t ∧ (t.leg n).state = .training ∧ t.slices = s.slices)
    (fun j hj y t ⟨hk, hs, hsl⟩ => ?_) ⟨.refl s, h, rfl⟩).1
  obtain ⟨hk', hs', hsl'⟩ := State.dropAbsent_legKeeps (y := y) ((State.owner_congr hsl j).trans (hl j hj)) hs
  exact ⟨hk.trans hk', hs', hsl'.trans hsl⟩

theorem Leg.Ok.withKept {l : Leg} (h : l.Ok) (hs : l.state = .lost) (k : Sides Bool) : ({ l with kept := k } : Leg).Ok := by
  obtain ⟨h1, h2, h3, h4, h5, -, h7, h8, h9, h10⟩ := h
  exact ⟨h1, h2, h3, h4, h5, fun k => absurd hs k, h7, h8, h9, h10⟩

/-- A partner revert of a leg in UP (R92). -/
theorem State.partnerRevert_up {s : State} {i : Lane} {x : Side} (hi : s.owner i = some n) (h : (s.leg n).state = .up) :
    s.LegKeeps n (s.partnerRevert n i x) := by
  have hm := State.laneMove_returnToTune hi x .partnerRevert
  have htune := s.returnToTune_laneState i x .partnerRevert
  have heye (hs : s.LegLaw n) := State.returnToTune_eye (x := x) hs hi .partnerRevert
  have hbank (hb : s.BankLaw n i x) (hq : s.laneState i x ≠ .quiet) := State.returnToTune_bank hi .partnerRevert hb hq
  unfold State.partnerRevert
  rw [State.revertLeg_up (hm.state.trans h)]
  generalize s.returnToTune i x .partnerRevert = u at hm htune heye hbank
  have hl := u.enterTraining_leg n .partnerRevert
  intro hs
  have hdata : s.laneState i x ≠ .quiet := fun k => by
    have ha := (hs.lanes i hi x).1
    rw [h, k] at ha
    cases ha
  refine State.LegKeeps.moved hi hm (u.enterTraining_turns _ (covers_self n)) (u.ordersMove_enterTraining n _)
    (by rw [hl, hm.leg]; rfl) (by rw [hl, hm.leg]; rfl) (by rw [hl, hm.leg]; rfl) (fun _ => ?_) (fun hb => hbank hb hdata) hs
  refine ⟨?_, fun he => absurd (hs.absent he) (by simp [h]), fun j hj y => ?_, fun _ => heye hs⟩
  · rw [hl]
    exact (hm.legOk hs.leg).inTraining (.inr (hm.state.trans h)) _
  · rw [hl]
    exact hs.admits_training hm htune (by rw [h]; rfl) j hj y

/-- A partner revert of a leg in HELD (R92). -/
theorem State.partnerRevert_held {s : State} {i : Lane} {x : Side} (hi : s.owner i = some n) (h : (s.leg n).state = .held) :
    s.LegKeeps n (s.partnerRevert n i x) := by
  have hm := State.laneMove_returnToTune hi x .partnerRevert
  have htune := s.returnToTune_laneState i x .partnerRevert
  have heye (hs : s.LegLaw n) := State.returnToTune_eye (x := x) hs hi .partnerRevert
  have hbank (hb : s.BankLaw n i x) (hq : s.laneState i x ≠ .quiet) := State.returnToTune_bank hi .partnerRevert hb hq
  unfold State.partnerRevert
  rw [State.revertLeg_held (hm.state.trans h)]
  generalize s.returnToTune i x .partnerRevert = u at hm htune heye hbank
  have hl : ((u.modLeg n fun l => { l with bridge := none, episode := none }).enterTraining n .partnerRevert).leg n =
      Leg.inTraining { u.leg n with bridge := none, episode := none } u.now := by
    rw [State.enterTraining_leg, State.leg_modLeg_same]
    rfl
  have hturns : State.Turns False True (some n) u
      ((u.modLeg n fun l => { l with bridge := none, episode := none }).enterTraining n .partnerRevert) :=
    (u.modLeg_turns (f := fun l => { l with bridge := none, episode := none }) (covers_self n) fun _ => ⟨rfl, rfl, rfl, rfl⟩).trans
      (State.enterTraining_turns _ _ (covers_self n))
  have horders : u.OrdersMove ((u.modLeg n fun l => { l with bridge := none, episode := none }).enterTraining n .partnerRevert) :=
    (u.ordersMove_modLeg n _).trans (State.ordersMove_enterTraining _ n _)
  generalize (u.modLeg n fun l => { l with bridge := none, episode := none }).enterTraining n .partnerRevert = v at hl hturns horders
  have htraining : (v.leg n).state = .training := by
    rw [hl]
    rfl
  have hstart : s.LegKeeps n v := fun hs => by
    have hdata : s.laneState i x ≠ .quiet := fun k => by
      have ha := (hs.lanes i hi x).1
      rw [h, k] at ha
      cases ha
    refine State.LegKeeps.moved hi hm hturns horders (by rw [hl, hm.leg]; rfl) (by rw [hl, hm.leg]; rfl)
      (by rw [hl, hm.leg]; rfl) (fun _ => ?_) (fun hb => hbank hb hdata) hs
    refine ⟨?_, fun he => absurd (hs.absent he) (by simp [h]), fun j hj y => ?_, fun _ => heye hs⟩
    · rw [hl]
      exact (hm.legOk hs.leg).inTraining_of_held (hm.state.trans h) _
    · rw [htraining]
      exact hs.admits_training hm htune (by rw [h]; rfl) j hj y
  refine hstart.trans (State.dropsAbsent_legKeeps htraining _ fun j hj => ?_)
  exact (State.owner_congr horders.slices j).trans ((u.mem_legLanes n j).1 hj)

/-- A partner revert in TRAINING or LOST is a move of its lane, and in LOST the side's kept mark goes (R92). -/
theorem State.partnerRevert_attempt {s : State} {i : Lane} {x : Side} (hi : s.owner i = some n)
    (hl : s.laneState i x = .count ∨ s.laneState i x = .data) (h : (s.leg n).state = .training ∨ (s.leg n).state = .lost) :
    s.LegKeeps n (s.partnerRevert n i x) := by
  have hm := State.laneMove_returnToTune hi x .partnerRevert
  have hstep : s.LaneStep n i x (s.returnToTune i x .partnerRevert) := by
    refine ⟨hm, fun _ ⟨_, he⟩ => ⟨?_, fun _ => State.returnToTune_idle he _⟩, fun hb => State.returnToTune_bank hi _ hb ?_⟩
    · rw [hm.state, s.returnToTune_laneState]
      rcases h with h | h <;> rw [h] <;> rfl
    · rcases hl with hl | hl <;> simp [hl]
  have hkeeps := hstep.legKeeps hi
  have hstate := hm.state
  unfold State.partnerRevert
  generalize s.returnToTune i x .partnerRevert = u at hkeeps hstate
  unfold State.revertLeg
  rcases h with h | h
  · rw [hstate, h]
    exact hkeeps
  · rw [hstate, h]
    have hlost : (u.leg n).state = .lost := hstate.trans h
    have hleg := u.leg_modLeg_same n fun l => { l with kept := l.kept.set x false }
    refine hkeeps.trans (.record (u.modLeg_turns (covers_self n) fun _ => ⟨rfl, rfl, rfl, rfl⟩) (u.ordersMove_modLeg n _)
      (by rw [hleg]) (by rw [hleg]) (by rw [hleg]) (by rw [hleg]) fun hok => ?_)
    rw [hleg]
    exact hok.withKept hlost _

theorem State.partnerRevert_legKeeps {s : State} {i : Lane} {x : Side} (hi : s.owner i = some n)
    (hl : s.laneState i x = .count ∨ s.laneState i x = .data) : s.LegKeeps n (s.partnerRevert n i x) := by
  intro hs
  have ha := (hs.lanes i hi x).1
  cases hst : (s.leg n).state
  case training => exact State.partnerRevert_attempt hi hl (.inl hst) hs
  case lost => exact State.partnerRevert_attempt hi hl (.inr hst) hs
  case up => exact State.partnerRevert_up hi hst hs
  case held => exact State.partnerRevert_held hi hst hs
  all_goals
    rw [hst] at ha
    rcases hl with hl | hl <;> rw [hl] at ha <;> cases ha

end

end Sys2Proof.Machine
end

section
/-! PROOF. The law of a leg over its parks and failed attempts, its clear and retrain, and over a boundary (R99, R101, R106, R108, R109,
R111). -/

namespace Sys2Proof.Machine

section
variable {n : LegId}

/-! ### A leg that is quieted (R12, R106, R109) -/

theorem RxPath.LeftOrSame.idle {p q : RxPath} (h : p.LeftOrSame q) (hp : p.eye.phase = .idle) : q.eye.phase = .idle := by
  obtain rfl | rfl := h
  · exact hp
  · rfl

theorem State.enterQuiet_idle {s : State} {j : Lane} {y : Side} (h : s.laneState j y ≠ .data → (s.rxPath j y).eye.phase = .idle) :
    ((s.enterQuiet j y).rxAt (s.phys j y) y).eye.phase = .idle := by
  have hs := (s.serviceMoves_outOfService j y).lanes.slices
  have hr := State.outOfService_idle h
  rwa [State.rxPath_eq_rxAt hs] at hr

/-- The eye paths of a leg that is quieted are IDLE (R133). -/
theorem State.quietLeg_idle {s : State} {j : Lane} {y : Side} (hj : s.owner j = some n)
    (h : s.laneState j y ≠ .data → (s.rxPath j y).eye.phase = .idle) :
    ((s.quietLeg n).rxAt (s.phys j y) y).eye.phase = .idle := by
  have hquiet {t : State} (hs : t.slices = s.slices)
      (ha : t.laneState j y ≠ .data → (t.rxAt (s.phys j y) y).eye.phase = .idle) :
      ((t.enterQuiet j y).rxAt (s.phys j y) y).eye.phase = .idle := by
    rw [← State.phys_congr hs]
    exact State.enterQuiet_idle (by rwa [State.rxPath_eq_rxAt hs])
  unfold State.quietLeg
  refine State.onExchanges_reaches (x := y) (f := fun i x t => t.enterQuiet i x)
    (P := fun t => t.slices = s.slices ∧ (t.laneState j y ≠ .data → (t.rxAt (s.phys j y) y).eye.phase = .idle))
    (Q := fun t => (t.rxAt (s.phys j y) y).eye.phase = .idle) ((s.mem_legLanes n j).2 hj) (fun i _ x t ⟨hs, ha⟩ => ?_)
    (fun t ⟨hs, ha⟩ => hquiet hs ha) (fun i _ x t _ _ hq => (t.enterQuiet_rx i x _ y).idle hq) ⟨rfl, h⟩
  refine ⟨(t.enterQuiet_moves i x).slices.trans hs, fun hd => ?_⟩
  by_cases hne : (j, y) = (i, x)
  · obtain ⟨rfl, rfl⟩ := Prod.mk.inj hne
    exact hquiet hs ha
  · have hstate : (t.enterQuiet i x).laneState j y = t.laneState j y := congrArg Exchange.lane (t.enterQuiet_exch_ne hne)
    exact (t.enterQuiet_rx i x _ y).idle (ha (hstate ▸ hd))

/-- A leg that is quieted and then stopped, in a state that admits QUIET. -/
theorem State.LegKeeps.stopped {s t : State} (ht : State.Turns False True (some n) s t) (ho : (s.quietLeg n).OrdersMove t)
    (hw : (t.leg n).width = (s.leg n).width) (hf : (t.leg n).first = (s.leg n).first) (hp : (t.leg n).profile = (s.leg n).profile)
    (hok : s.LegLaw n → (t.leg n).Ok ∧ (s.legExists n = false → (t.leg n).state = .parked)
      ∧ (t.leg n).state.admits .quiet = true) : s.LegKeeps n t := by
  intro hs
  have hbeside := (ht.beside (hs.plan.pairsWithin n)).1
  have hq := s.serviceMoves_quietLeg n
  have hslices := ho.slices.trans hq.lanes.slices
  have howner (j : Lane) : t.owner j = s.owner j := hbeside.owners j
  have hquiet {j : Lane} (hj : s.owner j = some n) (y : Side) : t.laneState j y = .quiet :=
    (ho.laneState j y).trans (s.quietLeg_laneState hj y)
  obtain ⟨hleg, habsent, hadmits⟩ := hok hs
  refine ⟨⟨hbeside.planOk hslices hw hf hs.plan, hleg, fun he => habsent ((hbeside.legExists hw).symm.trans he), fun j hj y => ?_⟩,
    fun hset => ⟨hp ▸ hset.profile, fun j hj y => ?_⟩⟩
  · rw [howner] at hj
    refine ⟨by rwa [hquiet hj y], fun _ => ?_⟩
    rw [State.rxPath_eq_rxAt hslices, State.rxAt_congr ho.rx]
    exact State.quietLeg_idle hj (hs.lanes j hj y).2
  · rw [howner] at hj
    refine ⟨?_, fun hne => absurd (hquiet hj y) hne⟩
    rw [hp, State.txPath_eq_txAt hslices, ho.txs, (s.quietLeg_path n (s.phys j y) y).1]
    exact (hset.banks j hj y).1

theorem Leg.parked_ok (l : Leg) : l.parked.Ok := by
  simp [Leg.Ok, Leg.parked, Leg.standDown]

theorem Leg.afterFailure_ok (l : Leg) (failure : LastFailure) (now : Nat) : (l.afterFailure failure now).Ok := by
  have hout := l.retriesOut_iff
  unfold Leg.afterFailure
  dsimp only
  split
  · next ho =>
    have hlimit := (hout.1 ho).1
    simp [Leg.Ok, Leg.standDown]
    omega
  · next ho =>
    have hin : l.profile.retryLimit < 15 → l.retry + 1 < l.profile.retryLimit := fun hlt => by
      by_contra hge
      exact ho (hout.2 ⟨hlt, by omega⟩)
    simp [Leg.Ok, Leg.standDown]
    omega

theorem State.parkLeg_legKeeps (s : State) (n : LegId) (cause : LegCause) : s.LegKeeps n (s.parkLeg n cause) := by
  by_cases h : (s.leg n).state = .parked
  · rw [show s.parkLeg n cause = s from if_pos h]
    exact .refl s
  · have hl : (s.parkLeg n cause).leg n = { (s.leg n).parked with conds := ((s.parkLeg n cause).leg n).conds } :=
      s.parkLeg_leg cause h
    have horders : (s.quietLeg n).OrdersMove (s.parkLeg n cause) :=
      ((State.ordersMove_modLeg _ n Leg.parked).trans (State.ordersMove_deriveOrders _ n)).trans (s.parkLeg_condsMove cause h).orders
    generalize ((s.parkLeg n cause).leg n).conds = c at hl
    refine .stopped (s.parkLeg_turns cause (covers_self n)) horders ?_ ?_ ?_ fun _ => ?_ <;> rw [hl]
    · rfl
    · rfl
    · rfl
    · exact ⟨(s.leg n).parked_ok.withConds c, fun _ => rfl, rfl⟩

theorem State.ReportsAndAsks.orders {s t : State} (h : s.ReportsAndAsks t) : s.OrdersMove t := by
  obtain ⟨hs, htx, hrx, hex⟩ := h.fabric
  refine ⟨hs, hrx, fun j y => ?_, fun k y => ?_⟩
  · rw [State.exch_congr hex]
  · rw [State.txAt_congr htx]

theorem State.failAttempt_legKeeps {s : State} (cause : LegCause) {code : FaultCode} (failure : LastFailure) (hc : code.OfAttempt)
    (hs : (s.leg n).state = .training ∨ (s.leg n).state = .lost) : s.LegKeeps n (s.failAttempt n cause code failure) := by
  have hm := (s.failAttempt_reported n cause failure hc).1
  have hturns : State.Turns False True (some n) s (s.failAttempt n cause code failure) :=
    s.failAttempt_turns (covers_self n) cause failure (by rcases hc with e | e | e <;> simp [e])
      (by rcases hc with e | e | e <;> simp [e])
  have horders : (s.quietLeg n).OrdersMove (s.failAttempt n cause code failure) :=
    ((State.ordersMove_modLeg _ n fun l => l.afterFailure failure s.now).trans (State.ordersMove_deriveOrders _ n)).trans hm.orders
  have hl := hm.legs n
  rw [s.stoppedBy_leg] at hl
  have hstate := (s.leg n).afterFailure_state failure s.now
  generalize s.failAttempt n cause code failure = t at hturns horders hl
  generalize (t.leg n).conds = c at hl
  have hkeep : ((s.leg n).afterFailure failure s.now).width = (s.leg n).width ∧ ((s.leg n).afterFailure failure s.now).first = (s.leg n).first
      ∧ ((s.leg n).afterFailure failure s.now).profile = (s.leg n).profile := by
    unfold Leg.afterFailure
    dsimp only
    split <;> exact ⟨rfl, rfl, rfl⟩
  obtain ⟨hw, hf, hp⟩ := hkeep
  refine .stopped hturns horders (by rw [hl]; exact hw) (by rw [hl]; exact hf) (by rw [hl]; exact hp) fun hlaw => ?_
  rw [hl]
  refine ⟨((s.leg n).afterFailure_ok failure s.now).withConds c, fun he => ?_, ?_⟩
  · have hparked := hlaw.absent he
    rcases hs with k | k <;> simp [k] at hparked
  · show LegState.admits ((s.leg n).afterFailure failure s.now).state .quiet = true
    rw [hstate]
    split <;> rfl

/-! ### Clear and retrain (R108, R111) -/

theorem State.laneStep_clearExchange (s : State) (n : LegId) (i : Lane) (x : Side) : s.LaneStep n i x (s.clearExchange i x) :=
  (s.laneStep_modExch n i x Exchange.cleared rfl).trans
    (State.laneStep_modRx _ n i x (fun r => { r with eye := r.eye.cleared }) rfl)

theorem State.deriveAttention_legKeeps (s : State) (n : LegId) : s.LegKeeps n s.deriveAttention :=
  fun h => ⟨⟨h.plan, h.leg, h.absent, h.lanes⟩, fun k => ⟨k.profile, k.banks⟩⟩

theorem State.modLeg_legKeeps (s : State) (n : LegId) (f : Leg → Leg) (hf : ∀ l : Leg, (f l).conds = l.conds)
    (hst : (f (s.leg n)).state = (s.leg n).state) (hw : (f (s.leg n)).width = (s.leg n).width)
    (hfirst : (f (s.leg n)).first = (s.leg n).first) (hp : (f (s.leg n)).profile = (s.leg n).profile)
    (hok : (s.leg n).Ok → (f (s.leg n)).Ok) : s.LegKeeps n (s.modLeg n f) := by
  have hl := s.leg_modLeg_same n f
  intro hs
  have hd : s.LegKeeps n (s.modLeg n f).deriveAttention :=
    .record (State.Turn.counts n (f (s.leg n)) (covers_self n) (hf _)).run ⟨rfl, rfl, fun _ _ => rfl, fun _ _ => rfl⟩
      ((congrArg Leg.state hl).trans hst) ((congrArg Leg.width hl).trans hw) ((congrArg Leg.first hl).trans hfirst)
      ((congrArg Leg.profile hl).trans hp) fun h => (congrArg Leg.Ok hl).mpr (hok h)
  obtain ⟨⟨h1, h2, h3, h4⟩, hset⟩ := hd hs
  exact ⟨⟨h1, h2, h3, h4⟩, fun k => ⟨(hset k).profile, (hset k).banks⟩⟩

theorem State.clearLeg_legKeeps (s : State) (n : LegId) : s.LegKeeps n (s.clearLeg n (s.legLanes n)) := by
  have hstart : s.LegKeeps n (s.modLeg n Leg.cleared) := s.modLeg_legKeeps n _ (fun _ => rfl) rfl rfl rfl rfl fun h => h
  have hloop := State.onExchanges_keeps (P := fun t => s.LegKeeps n t ∧ t.slices = s.slices) (f := fun i x t => t.clearExchange i x)
    (lanes := s.legLanes n) (s := s.modLeg n Leg.cleared) (fun i hi x t ⟨hk, hsl⟩ =>
      ⟨hk.trans ((t.laneStep_clearExchange n i x).legKeeps ((State.owner_congr hsl i).trans ((s.mem_legLanes n i).1 hi))), hsl⟩)
    ⟨hstart, rfl⟩
  exact hloop.1.trans (State.deriveAttention_legKeeps _ n)

theorem Leg.Ok.withRetry {l : Leg} (h : l.Ok) : ({ l with retry := 0 } : Leg).Ok := by
  obtain ⟨h1, h2, h3, h4, h5, h6, h7, -, -, -⟩ := h
  exact ⟨h1, h2, h3, h4, h5, h6, h7, Nat.zero_le _, fun _ => Nat.zero_le _, fun _ => rfl⟩

theorem State.retries_legKeeps (s : State) (n : LegId) :
    s.LegKeeps n ((s.countRetrain n).modLeg n fun l => { l with retry := 0 }) := by
  have hcount : s.LegKeeps n (s.countRetrain n) :=
    (s.modLeg_legKeeps n (fun l => { l with retrain := l.retrain + 1, rollRetrain := l.rollRetrain || l.retrain == 0xFFFF })
      (fun _ => rfl) rfl rfl rfl rfl fun h => h).trans (State.deriveAttention_legKeeps _ n)
  exact hcount.trans (State.modLeg_legKeeps _ n _ (fun _ => rfl) rfl rfl rfl rfl Leg.Ok.withRetry)

end

end Sys2Proof.Machine
end

section
/-! SUPPORT. What a boundary brings its leg: a profile in range with feasible start sets, a lane map that pairs the group with itself,
eye paths IDLE, and sets that fit (R8, R37, R38, R54 to R56, R61, R97, R99, R101, R133). -/

namespace Sys2Proof.Machine

section
variable {n : LegId}

/-! ### The profile of a record (R37, R38, R54 to R56, R61, R97) -/

/-- The repaired start set is feasible whatever taps are stored (R38, R54 to R56). -/
theorem repairSet_feasible {C F : Nat} (hC : 40 ≤ C ∧ C ≤ 63) (hF : 4 ≤ F ∧ F ≤ 30) (t : Coef) :
    (repairSet C F t).feasible C F = true := by
  have hclamp : (clampTaps t).pre ≤ 15 ∧ 20 ≤ (clampTaps t).main ∧ (clampTaps t).main ≤ 60 ∧ (clampTaps t).post ≤ 23 := by
    simp only [clampTaps, clampRange]
    omega
  rw [Coef.feasible_iff]
  unfold repairSet
  generalize clampTaps t = u at hclamp
  have hceiling : (ceilingRepair C u).pre ≤ 15 ∧ 20 ≤ (ceilingRepair C u).main ∧ (ceilingRepair C u).main ≤ 60
      ∧ (ceilingRepair C u).post ≤ 23
      ∧ (ceilingRepair C u).pre + (ceilingRepair C u).main + (ceilingRepair C u).post ≤ C := by
    unfold ceilingRepair
    dsimp only
    split
    · omega
    · split
      · dsimp only; omega
      · split <;> dsimp only <;> omega
  generalize ceilingRepair C u = v at hceiling
  unfold floorRepair
  dsimp only
  split
  · omega
  · split
    · dsimp only; omega
    · split <;> dsimp only <;> omega

theorem recordCeiling_range (p : Page) : 40 ≤ recordCeiling p ∧ recordCeiling p ≤ 63 := by
  simp only [recordCeiling, clampRange]
  omega

theorem recordFloor_range (p : Page) : 4 ≤ recordFloor p ∧ recordFloor p ≤ 30 := by
  simp only [recordFloor, clampRange]
  omega

theorem pageByte_lt (p : Page) {k : Nat} (h : k < 64) : pageByte p k ≤ 255 := by
  rw [pageByte_eq p k h]
  exact Nat.le_of_lt_succ (BitVec.isLt _)

/-- Every value that a record gives lies in its range (R97). -/
theorem profileOf_ok (p : Page) : (profileOf p).Ok := by
  have hpositive {k : Nat} (hk : k < 64) : 1 ≤ atLeastOne (pageByte p k) ∧ atLeastOne (pageByte p k) ≤ 255 := by
    have := pageByte_lt p hk
    unfold atLeastOne
    omega
  refine ⟨hpositive (by omega), hpositive (by omega), hpositive (by omega), hpositive (by omega), Nat.min_le_left _ _,
    Nat.min_le_left _ _, Nat.min_le_left _ _, Nat.min_le_left _ _, ?_, recordCeiling_range p, recordFloor_range p, fun r x => ⟨?_, ?_⟩⟩
  · show 1 ≤ clampRange 1 31 _ ∧ clampRange 1 31 _ ≤ 31
    unfold clampRange
    omega
  · rw [profileOf_start]
    exact repairSet_feasible (recordCeiling_range p) (recordFloor_range p) _
  · rw [profileOf_equalizer]
    exact Nat.min_le_left _ _

/-! ### A group mapped anew (R8) -/

/-- Leg `n`'s lanes are mapped by its record, and every other lane is where it was. -/
theorem State.PlanOk.remapped {s t : State} (h : s.PlanOk) (hh : t.head = s.head)
    (hw : ∀ m : LegId, (t.leg m).width = (s.leg m).width) (hf : ∀ m : LegId, (t.leg m).first = (s.leg m).first)
    (ho : ∀ j : Lane, t.owner j = s.owner j) (hother : ∀ j : Lane, s.owner j ≠ some n → t.slice j = s.slice j)
    (hmap : ∀ j : Lane, s.owner j = some n → t.Mapped n j) : t.PlanOk := by
  obtain ⟨h1, h2, h3, h4, h5, h6⟩ := h
  have hg (m : LegId) (j : Lane) : t.inGroup m j ↔ s.inGroup m j := State.inGroup_congr (hw m) (hf m) j
  have hin {j : Lane} (hj : s.owner j = some n) : (s.leg n).first ≤ j.val ∧ j.val < (s.leg n).first + (s.leg n).width :=
    ((h2 j n).1 hj).2
  have hpair {j : Lane} (hj : s.owner j = some n) : (t.slice j).pair.val =
      if (t.leg n).profile.reverse then (s.leg n).first + ((s.leg n).width - 1 - (j.val - (s.leg n).first)) else j.val := by
    rw [(hmap j hj).1, hw n, hf n]
  have hwithin {j : Lane} (hj : s.owner j = some n) : s.owner (t.slice j).pair = some n := by
    have hrun := ((h2 j n).1 hj).1
    have hlo := hin hj
    have hp := hpair hj
    refine (h2 _ n).2 ⟨hrun, ?_⟩
    unfold State.inGroup
    generalize (t.slice j).pair = k at hp ⊢
    split at hp <;> omega
  have hcloses (j : Lane) : s.owner (t.slice j).pair = s.owner j := by
    by_cases hj : s.owner j = some n
    · rw [hwithin hj, hj]
    · rw [hother j hj]
      exact h3 j
  refine ⟨fun m => ?_, fun j m => ?_, fun j => ?_, fun j hj => ?_, fun j k hjk => ?_, fun j m m' hm hm' => ?_⟩
  · unfold Leg.groupOk
    rw [hw, hf]
    exact h1 m
  · rw [ho, hh, hg]
    exact h2 j m
  · rw [ho, ho]
    exact hcloses j
  · rw [ho] at hj
    rw [hother j (by simp [hj])]
    exact h4 j hj
  · have howner : s.owner j = s.owner k := by rw [← hcloses j, ← hcloses k, hjk]
    by_cases hj : s.owner j = some n
    · have hk : s.owner k = some n := howner ▸ hj
      have hpj := hpair hj
      have hpk := hpair hk
      have hlj := hin hj
      have hlk := hin hk
      rw [hjk, hpk] at hpj
      refine Fin.ext ?_
      clear hpk
      by_cases hr : (t.leg n).profile.reverse = true
      · rw [if_pos hr, if_pos hr] at hpj
        omega
      · rw [if_neg hr, if_neg hr] at hpj
        exact hpj.symm
    · have hk : s.owner k ≠ some n := howner ▸ hj
      rw [hother j hj, hother k hk] at hjk
      exact h5 j k hjk
  · exact h6 j m m' ((hg m j).1 hm) ((hg m' j).1 hm')

/-- Where the pairing is one-to-one and stays within the group, every slice of the group carries a path of the leg. -/
theorem State.PlanOk.carries {s : State} (h : s.PlanOk) {k : Lane} (hk : s.owner k = some n) (y : Side) :
    ∃ j : Lane, s.owner j = some n ∧ s.phys j y = k := by
  obtain ⟨j, hj⟩ := h.pairsApart.onto k y
  refine ⟨j, ?_, hj⟩
  obtain ⟨-, -, h3, -⟩ := h
  cases y with
  | s => exact (congrArg s.owner hj).trans hk
  | c =>
    rw [← h3 j]
    exact (congrArg s.owner hj).trans hk

/-! ### Eye paths that stay IDLE (R133) -/

/-- The eye paths of leg `n`'s slices are IDLE. -/
def State.EyesIdle (s : State) (n : LegId) : Prop := ∀ (k : Lane) (y : Side), s.owner k = some n → (s.rxAt k y).eye.phase = .idle

theorem State.enterListen_eyeIdle {s : State} {j : Lane} (h : s.owner j = some n) (x : Side) {k : Lane} {y : Side}
    (ha : (s.rxAt k y).eye.phase = .idle) : ((s.enterListen j x).rxAt k y).eye.phase = .idle := by
  obtain ⟨warm, he⟩ := s.enterListen_eq h x
  have ho : ((s.outOfService j x).rxAt k y).eye.phase = .idle := by
    rcases s.outOfService_rx j x k y with e | e <;> rw [e]
    · exact ha
    · rfl
  rw [he]
  generalize s.outOfService j x = o at ho ⊢
  show ((o.loadLane (s.leg n).profile j x).rxAt k y).eye.phase = .idle
  unfold State.loadLane
  rcases State.modRx_path (o.modTx j x fun q => q.loadSet (s.leg n).profile.rate) j x
    (fun r => { r with eqCode := ((s.leg n).profile.equalizer.get (s.leg n).profile.rate).get x }) k y with e | ⟨_, e⟩ <;> rw [e]
  · exact ho
  · exact ho

theorem State.startLeg_eyeIdle {s : State} {k : Lane} {y : Side} (ha : (s.rxAt k y).eye.phase = .idle) :
    ((s.startLeg n).rxAt k y).eye.phase = .idle := by
  unfold State.startLeg
  refine (State.onExchanges_keeps (P := fun t => s.ServiceMoves t ∧ (t.rxAt k y).eye.phase = .idle)
    (f := fun i x t => t.enterListen i x) (fun j hj x t ⟨ht, hq⟩ => ?_) ⟨.refl s, ha⟩).2
  have hj' := (ht.owner j).trans ((s.mem_legLanes n j).1 hj)
  exact ⟨ht.trans (State.serviceMoves_enterListen t j x), State.enterListen_eyeIdle hj' x hq⟩

/-- The eye paths of a leg that leaves service are IDLE (R133). -/
theorem State.legLeavesService_idle {s : State} {j : Lane} {y : Side} (hj : s.owner j = some n)
    (h : s.laneState j y ≠ .data → (s.rxPath j y).eye.phase = .idle) :
    ((s.legLeavesService n).rxAt (s.phys j y) y).eye.phase = .idle := by
  have hsame (t : State) (i : Lane) (x : Side) (k : Lane) : (t.outOfService i x).rxAt k y = (t.leaveService i x).rxAt k y :=
    State.rxAt_congr (State.clearRelease_rx _ i x) k y
  have hleaves {t : State} (hs : t.slices = s.slices) (he : t.ex = s.ex)
      (ha : t.laneState j y ≠ .data → (t.rxAt (s.phys j y) y).eye.phase = .idle) :
      ((t.leaveService j y).rxAt (s.phys j y) y).eye.phase = .idle := by
    have hsl := (t.serviceMoves_outOfService j y).lanes.slices
    have hr := State.outOfService_idle (s := t) (i := j) (x := y) fun hd => by
      rw [State.rxPath_eq_rxAt hs]
      exact ha hd
    rwa [State.rxPath_eq_rxAt hsl, State.phys_congr hs, hsame] at hr
  unfold State.legLeavesService
  refine State.onExchanges_reaches (x := y) (f := fun i x t => t.leaveService i x)
    (P := fun t => t.slices = s.slices ∧ t.ex = s.ex ∧ (t.laneState j y ≠ .data → (t.rxAt (s.phys j y) y).eye.phase = .idle))
    (Q := fun t => (t.rxAt (s.phys j y) y).eye.phase = .idle) ((s.mem_legLanes n j).2 hj) (fun i _ x t ⟨hs, he, ha⟩ => ?_)
    (fun t ⟨hs, he, ha⟩ => hleaves hs he ha) (fun i _ x t _ _ hq => ?_) ⟨rfl, rfl, h⟩
  · refine ⟨(t.serviceMoves_leaveService i x).lanes.slices.trans hs, (t.leaveService_ex i x).trans he, fun hd => ?_⟩
    have hkeep : (t.leaveService i x).laneState j y = t.laneState j y :=
      congrArg Exchange.lane (State.exch_congr (t.leaveService_ex i x) j y)
    rw [← hsame]
    exact (t.outOfService_rx i x _ y).idle (ha (hkeep ▸ hd))
  · rw [← hsame]
    exact (t.outOfService_rx i x _ y).idle hq

theorem State.LegLaw.legLeavesService_idle {s : State} (h : s.LegLaw n) : (s.legLeavesService n).EyesIdle n := fun k y hk => by
  rw [State.owner_congr (s.serviceMoves_legLeavesService n).lanes.slices] at hk
  obtain ⟨j, hj, rfl⟩ := h.plan.carries hk y
  exact State.legLeavesService_idle hj (h.lanes j hj y).2

/-! ### The leg after its boundary (R99, R101) -/

theorem Leg.waitingUnder_ok {l : Leg} (h : l.Ok) (page : Page) : (l.waitingUnder page).Ok := by
  obtain ⟨-, -, -, -, -, -, -, hretry, hlimit, -⟩ := h
  unfold Leg.waitingUnder Leg.taken
  by_cases ht : l.source ≠ some page ∧ checkByteHolds page = true
  · rw [Leg.taking_of_taken ht.1 ht.2]
    have hcap : (if (profileOf page).retryLimit < 15 then min l.retry (profileOf page).retryLimit else l.retry) ≤ 15 := by
      split <;> omega
    have hunder : (profileOf page).retryLimit < 15 →
        (if (profileOf page).retryLimit < 15 then min l.retry (profileOf page).retryLimit else l.retry)
          ≤ (profileOf page).retryLimit := fun hlt => by
      rw [if_pos hlt]
      exact Nat.min_le_right _ _
    simpa [Leg.Ok, Leg.standDown] using ⟨hcap, hunder⟩
  · rw [Leg.taking_of_not_taken ht]
    simpa [Leg.Ok, Leg.standDown] using ⟨hretry, hlimit⟩

theorem Leg.waitingUnder_profile {l : Leg} (h : l.profile.Ok) (page : Page) : (l.waitingUnder page).profile.Ok := by
  unfold Leg.waitingUnder Leg.taken Leg.taking
  split
  · exact profileOf_ok page
  · exact h

/-- A leg whose lanes wait in LISTEN with idle eye paths. -/
theorem State.LegLaw.listening {t : State} (hp : t.PlanOk) (hok : (t.leg n).Ok) (hs : (t.leg n).state = .waiting)
    (he : t.legExists n = true) (hfresh : ∀ (j : Lane) (y : Side), t.owner j = some n → (t.exch j y).Fresh) (heye : t.EyesIdle n) :
    t.LegLaw n := by
  refine ⟨hp, hok, fun hne => absurd he (by simp [hne]), fun j hj y => ⟨?_, fun _ => ?_⟩⟩
  · obtain ⟨hl, -⟩ := hfresh j y hj
    rw [hs, State.laneState, hl]
    rfl
  · rw [State.rxPath_eq_rxAt rfl]
    exact heye _ y ((hp.pairsWithin n).phys hj y)

theorem TxPath.Loaded.fits {C F : Nat} {p : TxPath} {r : RateClass} (h : p.Loaded r) (hb : p.BanksFit C F) :
    p.inUse.feasible C F = true := by
  unfold TxPath.Loaded at h
  rw [h]
  split
  · next hv => exact (hb r).2 hv
  · exact (hb r).1

theorem TxPath.Given.fits {q : Profile} {y : Side} {p : TxPath} (h : p.Given q y) (hq : q.Ok) : p.BanksFit q.ceiling q.floor := by
  obtain ⟨hv, hstart⟩ := h
  obtain ⟨-, -, -, -, -, -, -, -, -, -, -, hsets⟩ := hq
  intro r
  refine ⟨?_, fun k => ?_⟩
  · rw [hstart r]
    exact (hsets r y).1
  · rw [hv] at k
    cases r <;> cases k

/-- The banks of every slice of leg `n` fit its profile. -/
def State.BanksIn (s : State) (n : LegId) : Prop :=
  ∀ (k : Lane) (y : Side), s.owner k = some n → (s.txAt k y).BanksFit (s.leg n).profile.ceiling (s.leg n).profile.floor

theorem State.SetLaw.banksIn {s : State} (h : s.SetLaw n) (hp : s.PlanOk) : s.BanksIn n := fun k y hk => by
  obtain ⟨j, hj, rfl⟩ := hp.carries hk y
  exact (h.banks j hj y).1

theorem State.SetLaw.listening {t : State} (hp : t.PlanOk) (hprof : (t.leg n).profile.Ok) (hb : t.BanksIn n)
    (hload : ∀ (j : Lane) (y : Side), t.owner j = some n → (t.txPath j y).Loaded (t.leg n).profile.rate) : t.SetLaw n :=
  ⟨hprof, fun j hj y =>
    have hfit := hb _ y ((hp.pairsWithin n).phys hj y)
    ⟨hfit, fun _ => (hload j y hj).fits hfit⟩⟩

theorem TxPath.BanksFit.congr {C F : Nat} {p q : TxPath} (h : p.BanksFit C F)
    (hq : q.start = p.start ∧ q.learned = p.learned ∧ q.learnedValid = p.learnedValid) : q.BanksFit C F := by
  obtain ⟨hs, hl, hv⟩ := hq
  unfold TxPath.BanksFit
  rw [hs, hl, hv]
  exact h

/-- The banks after a boundary fit the profile that its take leaves (R43, R54, R99). -/
theorem State.boundary_banksIn {s : State} (cause : LegCause) (hs : s.LegLaw n) (hset : s.SetLaw n)
    (hp : (s.boundary n cause).PlanOk) (ho : ∀ j : Lane, (s.boundary n cause).owner j = s.owner j) :
    (s.boundary n cause).BanksIn n := by
  obtain ⟨hsl, htx, -⟩ := (s.boundary_condsMove n cause).fabric
  have hprof : ((s.boundary n cause).leg n).profile = ((s.leg n).taken s.pendingLegs[n]).profile := by
    rw [s.boundary_leg n cause]
    rfl
  by_cases ht : s.Takes n
  · intro k y hk
    obtain ⟨j, hj, rfl⟩ := hp.carries hk y
    have hgiven := s.standingBy_given ht ((ho j).symm.trans hj) y
    rw [hprof, State.txAt_congr htx, State.phys_congr hsl]
    refine TxPath.Given.fits hgiven ?_
    exact Leg.waitingUnder_profile hset.profile s.pendingLegs[n]
  · have hkept := (s.standingBy_banksKept ht).congr htx
    have hsame : ((s.boundary n cause).leg n).profile = (s.leg n).profile := by
      rw [hprof, Leg.taken, Leg.taking_of_not_taken ht]
    intro k y hk
    rw [ho] at hk
    rw [hsame]
    exact (hset.banksIn hs.plan k y hk).congr (hkept k y hk)

theorem State.standingBy_eyesIdle {s : State} (hs : s.LegLaw n) {k : Lane} (hk : s.owner k = some n) (y : Side) :
    ((s.standingBy n).rxAt k y).eye.phase = .idle := by
  have hidle := hs.legLeavesService_idle k y ((State.owner_congr (s.serviceMoves_legLeavesService n).lanes.slices k).trans hk)
  unfold State.standingBy
  rw [State.rxAt_congr (State.deriveOrders_rx _ n)]
  refine State.startLeg_eyeIdle ?_
  have ht := State.take_takeMoves (s.stoodDown n) n
  unfold State.TakeMoves at ht
  rw [State.rxAt_congr (by rw [ht])]
  exact hidle

/-- A boundary keeps the law of its leg and of its sets (R101). -/
theorem State.boundary_legKeeps {s : State} (cause : LegCause)
    (h : (s.leg n).state = .down ∨ s.resetHeld = false ∧ s.legExists n = true) : s.LegKeeps n (s.boundary n cause) := by
  intro hs
  have hlanes (j : Lane) (hj : s.owner j = some n) (y : Side) := s.boundary_lane cause (hs.plan.groupHolds n) hj y
  have hturns : State.Turns False True (some n) s (s.boundary n cause) :=
    s.boundary_turns cause (covers_self n) fun _ _ _ => hs.plan.groupClosed n
  have hbeside := (hturns.beside (hs.plan.pairsWithin n)).1
  have hl := s.boundary_leg n cause
  have hkeeps := s.boundary_keeps n cause
  have hw : ((s.boundary n cause).leg n).width = (s.leg n).width := by rw [hkeeps]; rfl
  have hf : ((s.boundary n cause).leg n).first = (s.leg n).first := by rw [hkeeps]; rfl
  have hplan : (s.boundary n cause).PlanOk := by
    refine hs.plan.remapped (n := n) (by rw [hbeside.frame]) (fun m => ?_) (fun m => ?_) hbeside.owners hbeside.slices
      fun j hj => (hlanes j hj .s).2.1
    · by_cases hm : m = n
      · rw [hm, hw]
      · rw [hbeside.legs m hm]
    · by_cases hm : m = n
      · rw [hm, hf]
      · rw [hbeside.legs m hm]
  have hexists : s.legExists n = true := by
    rcases h with h | ⟨-, h⟩
    · cases he : s.legExists n
      · have hp := hs.absent he
        rw [h] at hp
        cases hp
      · rfl
    · exact h
  have howned {j : Lane} (hj : (s.boundary n cause).owner j = some n) : s.owner j = some n := (hbeside.owners j).symm.trans hj
  have hprof (hp : (s.leg n).profile.Ok) : ((s.boundary n cause).leg n).profile.Ok := by
    rw [hl]
    exact Leg.waitingUnder_profile hp s.pendingLegs[n]
  refine ⟨.listening hplan ?_ (by rw [hkeeps]) ((hbeside.legExists hw).trans hexists) (fun j y hj => (hlanes j (howned hj) y).1) ?_,
    fun hset => .listening hplan (hprof hset.profile) (State.boundary_banksIn cause hs hset hplan hbeside.owners)
      fun j y hj => (hlanes j (howned hj) y).2.2.1⟩
  · rw [hl]
    exact (Leg.waitingUnder_ok hs.leg s.pendingLegs[n]).withConds _
  · intro k y hk
    obtain ⟨-, -, hrx, -⟩ := (s.boundary_condsMove n cause).fabric
    rw [State.rxAt_congr hrx]
    exact State.standingBy_eyesIdle hs (howned hk) y

end

end Sys2Proof.Machine
end

section
/-! PROOF. A command that concerns one leg keeps the supervision law and the coefficient law of the whole part: it keeps its leg's,
and the rest stands beside it (R4, R38, R83, R96, R133). -/

namespace Sys2Proof.Machine

section
variable {n : LegId}

theorem State.LegTurn.legKeeps {s t : State} (h : s.LegTurn n t) : s.LegKeeps n t := by
  cases h with
  | time now => exact fun h => ⟨⟨h.plan, h.leg, h.absent, h.lanes⟩, fun k => ⟨k.profile, k.banks⟩⟩
  | lane i x t hi h => exact h.legKeeps hi
  | queues kind => exact s.queueEvent_legKeeps n _ kind
  | reports => exact s.laneReport_legKeeps n
  | margin => exact s.marginCheck_legKeeps n
  | orders => exact s.deriveOrders_legKeeps n
  | ends code hc => exact (s.endCondition_condsMove (some n) code).legKeeps (State.Turn.ends _ _ hc (covers_self n).owner).run
  | fails cause code failure hc hs => exact State.failAttempt_legKeeps cause failure hc hs
  | reverts i x hi h => exact State.partnerRevert_legKeeps hi h
  | holds h => exact State.enterHeld_legKeeps h
  | restores h => exact State.endGlitch_legKeeps h
  | starts x h => exact (State.startSide_legKeeps x h).1
  | loses h => exact State.enterLost_legKeeps h
  | boundary cause h => exact State.boundary_legKeeps cause h
  | parks cause => exact s.parkLeg_legKeeps n cause
  | clears => exact s.clearLeg_legKeeps n
  | retries => exact s.retries_legKeeps n

theorem State.LegTurns.legKeeps {s t : State} (h : s.LegTurns n t) : s.LegKeeps n t :=
  h.keeps (P := fun u => s.LegKeeps n u) (fun _ _ hu hv => hu.trans hv.legKeeps) (.refl s)

end

/-! ### The laws of the whole part -/

/-- Leg records, plan and lanes are in order. -/
structure State.InOrder (s : State) : Prop where
  legs : s.LegsOk
  plan : s.PlanOk
  lanes : s.LanesOk

/-- Profiles and coefficient sets are in order. -/
structure State.Fits (s : State) : Prop where
  profiles : s.ProfilesOk
  sets : s.SetsOk

/-- The supervision law is kept, and under it the coefficient law. -/
def State.LawKeeps (s t : State) : Prop := s.InOrder → t.InOrder ∧ (s.Fits → t.Fits)

theorem State.LawKeeps.refl (s : State) : s.LawKeeps s := fun h => ⟨h, id⟩

theorem State.LawKeeps.trans {s t u : State} (h : s.LawKeeps t) (k : t.LawKeeps u) : s.LawKeeps u := fun hs => by
  obtain ⟨ht, hst⟩ := h hs
  obtain ⟨hu, htu⟩ := k ht
  exact ⟨hu, fun e => htu (hst e)⟩

section
variable {n : LegId}

theorem State.InOrder.legLaw {s : State} (h : s.InOrder) (n : LegId) : s.LegLaw n := by
  obtain ⟨⟨hok, habsent, -⟩, hplan, ⟨hadmits, -, heye⟩⟩ := h
  exact ⟨hplan, hok n, habsent n, fun i hi x => ⟨hadmits i n hi x, heye i x⟩⟩

theorem State.Fits.setLaw {s : State} (h : s.Fits) (hp : s.PlanOk) (n : LegId) : s.SetLaw n := by
  obtain ⟨hprof, hbanks, hused⟩ := h
  refine ⟨hprof n, fun i hi x => ⟨fun r => ?_, hused i x n hi⟩⟩
  exact hbanks n (s.phys i x) x r ((hp.2.1 _ n).1 ((hp.pairsWithin n).phys hi x)).2

/-- What keeps one leg's law and stands beside it keeps the whole law, where the leg rests while the head does not run. -/
theorem State.LegKeeps.lawKeeps {s t : State} (h : s.LegKeeps n t) (hb : s.InOrder → s.StandsBeside n t)
    (hrest : s.InOrder → s.head ≠ .running → s.Rests n t) : s.LawKeeps t := by
  intro hs
  obtain ⟨ht, hset⟩ := h (hs.legLaw n)
  have hbeside := hb hs
  have hhead : t.head = s.head := by rw [hbeside.frame]
  have hheld : t.resetHeld = s.resetHeld := by rw [hbeside.frame]
  have hload : t.agent.load = s.agent.load := by rw [hbeside.frame]
  obtain ⟨⟨hok, habsent, hloading, hfree⟩, hplan, ⟨hadmits, hspare, heye⟩⟩ := id hs
  have hother {j : Lane} (hj : s.owner j ≠ some n) (y : Side) : s.owner (s.phys j y) ≠ some n := by
    cases y with
    | s => exact hj
    | c =>
      rw [show s.owner (s.phys j .c) = s.owner j from hplan.2.2.1 j]
      exact hj
  have hstate {j : Lane} (hj : s.owner j ≠ some n) (y : Side) : t.laneState j y = s.laneState j y :=
    congrArg Exchange.lane (hbeside.exchs j y hj)
  refine ⟨⟨⟨fun m => ?_, fun m he => ?_, ?_, ?_⟩, ht.plan, ⟨fun i m hi x => ?_, fun i hi x => ?_, fun i x hd => ?_⟩⟩,
    fun hf => ⟨fun m => ?_, fun m j x r hj => ?_, fun i x m hi hq => ?_⟩⟩
  · by_cases hm : m = n
    · exact hm ▸ ht.leg
    · rw [hbeside.legs m hm]
      exact hok m
  · by_cases hm : m = n
    · subst hm
      exact ht.absent he
    · rw [hbeside.legs m hm]
      refine habsent m ?_
      unfold State.legExists at he ⊢
      rwa [hhead, hbeside.legs m hm] at he
  · rw [hload, hheld, hhead]
    exact hloading
  · rw [hload, hheld]
    exact hfree
  · by_cases hm : m = n
    · subst hm
      exact (ht.lanes i hi x).1
    · rw [hbeside.owners] at hi
      rw [hbeside.legs m hm, hstate (by simp [hi, hm])]
      exact hadmits i m hi x
  · rw [hbeside.owners] at hi
    rw [hstate (by simp [hi])]
    exact hspare i hi x
  · by_cases hi : s.owner i = some n
    · exact (ht.lanes i ((hbeside.owners i).trans hi) x).2 hd
    · rw [hstate hi] at hd
      have hrx := hbeside.rxs (s.phys i x) x (hother hi x)
      show (t.rxAt (t.phys i x) x).eye.phase = .idle
      rw [hbeside.phys hi, hrx]
      exact heye i x hd
  · by_cases hm : m = n
    · subst hm
      exact (hset (hf.setLaw hplan m)).profile
    · rw [hbeside.legs m hm]
      exact hf.profiles m
  · by_cases hm : m = n
    · subst hm
      by_cases hrun : s.head = .running
      · exact (hset (hf.setLaw hplan m)).banksIn ht.plan j x ((ht.plan.2.1 j m).2 ⟨hhead.trans hrun, hj⟩) r
      · have hr := hrest hs hrun
        have hnone : s.owner j ≠ some m := fun k => hrun ((hplan.2.1 j m).1 k).1
        rw [State.inGroup_congr hr.width hr.first] at hj
        have hfit : (t.txAt j x).BanksFit (t.leg m).profile.ceiling (t.leg m).profile.floor := by
          rw [hr.profile, hbeside.txs j x hnone]
          exact fun q => hf.sets.1 m j x q hj
        exact hfit r
    · have hl := hbeside.legs m hm
      have hin : s.inGroup m j := (State.inGroup_congr (by rw [hl]) (by rw [hl]) j).1 hj
      have hnone : s.owner j ≠ some n := fun k => hm (hplan.2.2.2.2.2 j m n hin ((hplan.2.1 j n).1 k).2)
      have hfit : (t.txAt j x).BanksFit (t.leg m).profile.ceiling (t.leg m).profile.floor := by
        rw [hl, hbeside.txs j x hnone]
        exact fun q => hf.sets.1 m j x q hin
      exact hfit r
  · by_cases hm : m = n
    · subst hm
      exact ((hset (hf.setLaw hplan m)).banks i hi x).2 hq
    · rw [hbeside.owners] at hi
      have hne : s.owner i ≠ some n := by simp [hi, hm]
      rw [hstate hne] at hq
      have htx := hbeside.txs (s.phys i x) x (hother hne x)
      show (t.txAt (t.phys i x) x).inUse.feasible _ _ = true
      rw [hbeside.legs m hm, hbeside.phys hne, htx]
      exact hf.sets.2 i x m hi hq

/-- A command that concerns one leg keeps the laws. -/
theorem exec_leg_lawKeeps {cmd : Instr} {s t : State} (h : exec cmd s = .next t) (hc : s.concerned cmd = some n) : s.LawKeeps t := by
  have hturns := exec_legTurns h hc
  refine hturns.legKeeps.lawKeeps (fun hs => ?_) fun hs hrun => hturns.rests ⟨hs.legs.2.1 n ?_, .inr ?_⟩
  · have hrun : State.Turns False True (some n) s t :=
      exec_turns cmd h (.inl hc.symm) (fun hf => hf.elim) fun m hm _ => hs.plan.groupClosed m
    exact (hrun.beside (hs.plan.pairsWithin n)).1
  all_goals simp [State.legExists, hrun]

end

end Sys2Proof.Machine
end

section
/-! SUPPORT. What leaves leg states, profiles, lane states, eye phases and coefficient sets as they are keeps the supervision law and
the coefficient law: the bridge, the chunks of a load, the failure records, and the commands on the report unit (R98, R111, R133, R138,
R144, R156, R162, R167). -/

namespace Sys2Proof.Machine

/-! ### What leaves the laws' matter as it is -/

/-- A load or the reset input holds the head in LOADING, and no load runs under reset (R146, R160). -/
def State.HeldOk (s : State) : Prop :=
  (s.agent.load.isSome = true ∨ s.resetHeld = true → s.head = .loading) ∧ (s.resetHeld = true → s.agent.load = none)

/-- The laws' matter: leg states, groups, profiles and timers, the plan, lane states, eye phases and coefficient sets, all as they
were. -/
structure State.Undisturbed (s t : State) : Prop where
  slices : t.slices = s.slices
  head : t.head = s.head
  held : s.HeldOk → t.HeldOk
  legs : ∀ n : LegId, t.leg n = { s.leg n with
    differs := (t.leg n).differs, lastFailure := (t.leg n).lastFailure, glitch := (t.leg n).glitch, lost := (t.leg n).lost
    retrain := (t.leg n).retrain, rollGlitch := (t.leg n).rollGlitch, rollLost := (t.leg n).rollLost
    rollRetrain := (t.leg n).rollRetrain, gap := (t.leg n).gap, conds := (t.leg n).conds }
  lanes : ∀ (i : Lane) (x : Side), t.laneState i x = s.laneState i x
  eyes : ∀ (i : Lane) (x : Side), (t.rxPath i x).eye.phase = (s.rxPath i x).eye.phase
  paths : ∀ (k : Lane) (y : Side),
    t.txAt k y = { s.txAt k y with line := (t.txAt k y).line, lineSet := (t.txAt k y).lineSet }

theorem State.HeldOk.congr {s t : State} (h : s.HeldOk) (hl : t.agent.load.isSome = true → s.agent.load.isSome = true)
    (hh : t.head = s.head) (hr : t.resetHeld = s.resetHeld) : t.HeldOk := by
  obtain ⟨h1, h2⟩ := h
  unfold State.HeldOk
  rw [hh, hr]
  refine ⟨fun k => h1 (k.imp_left hl), fun k => ?_⟩
  cases ht : t.agent.load with
  | none => rfl
  | some l =>
    have hs := hl (by simp [ht])
    simp [h2 k] at hs

theorem State.Undisturbed.refl (s : State) : s.Undisturbed s :=
  ⟨rfl, rfl, id, fun _ => rfl, fun _ _ => rfl, fun _ _ => rfl, fun _ _ => rfl⟩

theorem State.Undisturbed.trans {s t u : State} (h : s.Undisturbed t) (k : t.Undisturbed u) : s.Undisturbed u :=
  ⟨k.slices.trans h.slices, k.head.trans h.head, fun e => k.held (h.held e), fun n => by rw [k.legs n, h.legs n],
    fun i x => (k.lanes i x).trans (h.lanes i x), fun i x => (k.eyes i x).trans (h.eyes i x),
    fun j y => by rw [k.paths j y, h.paths j y]⟩

/-- What leaves the fabric and the legs apart. -/
theorem State.Undisturbed.of_fabric {s t : State} (hs : t.slices = s.slices) (hx : t.tx = s.tx) (hy : t.rx = s.rx) (he : t.ex = s.ex)
    (hl : t.legs = s.legs) (hh : t.head = s.head) (hk : s.HeldOk → t.HeldOk) : s.Undisturbed t :=
  ⟨hs, hh, hk, fun n => by rw [State.leg_congr hl], fun i x => congrArg Exchange.lane (State.exch_congr he i x),
    fun i x => by rw [State.rxPath_congr hy hs], fun k y => by rw [State.txAt_congr hx]⟩

/-- What leaves the fabric, the legs, the head, the reset input and the load. -/
theorem State.Undisturbed.beside {s t : State} (hs : t.slices = s.slices) (hx : t.tx = s.tx) (hy : t.rx = s.rx) (he : t.ex = s.ex)
    (hl : t.legs = s.legs) (hh : t.head = s.head) (hr : t.resetHeld = s.resetHeld)
    (ha : t.agent.load.isSome = true → s.agent.load.isSome = true) : s.Undisturbed t :=
  .of_fabric hs hx hy he hl hh fun k => k.congr ha hh hr

theorem State.BridgeMoves.undisturbed {s t : State} (h : s.BridgeMoves t) : s.Undisturbed t := by
  unfold State.BridgeMoves at h
  rw [h]
  exact .beside rfl rfl rfl rfl rfl rfl rfl id

theorem State.ReportsOnly.undisturbed {s t : State} (h : s.ReportsOnly t) : s.Undisturbed t := by
  have hm := h.alone
  unfold State.ReportsAlone at hm
  have hs : t.slices = s.slices := by rw [hm]
  have hx : t.tx = s.tx := by rw [hm]
  have hy : t.rx = s.rx := by rw [hm]
  have he : t.ex = s.ex := by rw [hm]
  have hh : t.head = s.head := by rw [hm]
  have ha : t.agent = s.agent := by rw [hm]
  refine ⟨hs, hh, fun k => k.congr (by rw [ha]; exact id) hh (by rw [hm]), fun n => by rw [h.legs n],
    fun i x => congrArg Exchange.lane (State.exch_congr he i x), fun i x => by rw [State.rxPath_congr hy hs],
    fun k y => by rw [State.txAt_congr hx]⟩

theorem State.CondsMove.undisturbed {s t : State} (h : s.CondsMove t) : s.Undisturbed t := h.only.undisturbed

theorem State.refreshDiffers_undisturbed (s : State) (n : LegId) : s.Undisturbed (s.refreshDiffers n) := by
  refine ⟨rfl, rfl, id, fun m => ?_, fun _ _ => rfl, fun _ _ => rfl, fun _ _ => rfl⟩
  unfold State.refreshDiffers
  by_cases hm : m = n
  · rw [hm, State.leg_modLeg_same]
  · rw [State.leg_modLeg_ne _ _ hm]

section
variable {s t : State}

theorem State.Undisturbed.owner (h : s.Undisturbed t) (j : Lane) : t.owner j = s.owner j := State.owner_congr h.slices j

theorem State.Undisturbed.lawKeeps (h : s.Undisturbed t) : s.LawKeeps t := by
  intro ⟨⟨hok, habsent, hheld⟩, hplan, ⟨hadmits, hspare, heye⟩⟩
  have hstate (m : LegId) : (t.leg m).state = (s.leg m).state := by rw [h.legs m]
  have hwidth (m : LegId) : (t.leg m).width = (s.leg m).width := by rw [h.legs m]
  have hfirst (m : LegId) : (t.leg m).first = (s.leg m).first := by rw [h.legs m]
  have hprofile (m : LegId) : (t.leg m).profile = (s.leg m).profile := by rw [h.legs m]
  refine ⟨⟨⟨fun m => ?_, fun m he => ?_, h.held hheld⟩, hplan.congr h.slices h.head hwidth hfirst,
    ⟨fun i m hi x => ?_, fun i hi x => ?_, fun i x hd => ?_⟩⟩, fun hf => ⟨fun m => ?_, fun m j x r hj => ?_, fun i x m hi hq => ?_⟩⟩
  · have hl := h.legs m
    generalize t.leg m = l at hl ⊢
    rw [hl]
    exact hok m
  · rw [hstate]
    refine habsent m ?_
    unfold State.legExists at he ⊢
    rwa [h.head, hwidth] at he
  · rw [h.owner] at hi
    rw [hstate, h.lanes]
    exact hadmits i m hi x
  · rw [h.owner] at hi
    rw [h.lanes]
    exact hspare i hi x
  · rw [h.lanes] at hd
    rw [h.eyes]
    exact heye i x hd
  · rw [hprofile]
    exact hf.profiles m
  · rw [State.inGroup_congr (hwidth m) (hfirst m)] at hj
    have hfit : (t.txAt j x).BanksFit (t.leg m).profile.ceiling (t.leg m).profile.floor := by
      rw [hprofile, h.paths]
      exact fun q => hf.sets.1 m j x q hj
    exact hfit r
  · rw [h.owner] at hi
    rw [h.lanes] at hq
    rw [hprofile, State.txPath_eq_txAt h.slices, h.paths]
    exact hf.sets.2 i x m hi hq

/-! ### The bridge (R138 to R146) -/

theorem State.snoop_undisturbed (s : State) (a : BusAddr) (v : Byte) : s.Undisturbed (s.snoop a v) := by
  unfold State.snoop
  split
  · exact .beside rfl rfl rfl rfl rfl rfl rfl id
  · next m k _ =>
    have hp (pages : Vector Page 8) : s.Undisturbed { s with pendingLegs := pages } := .beside rfl rfl rfl rfl rfl rfl rfl id
    exact (hp _).trans (State.refreshDiffers_undisturbed _ _)
  · exact .refl s

theorem State.takeMemoryByte_undisturbed (s : State) (v : Byte) (memAck : Bool) : s.Undisturbed (s.takeMemoryByte v memAck) := by
  have hforward : s.Undisturbed (s.forwardByte v) :=
    (s.snoop_undisturbed s.bridge.combined v).trans (State.BridgeMoves.undisturbed rfl)
  unfold State.takeMemoryByte
  split
  · split
    · exact hforward
    · exact (s.endAbnormally_moves _).undisturbed
  · exact State.BridgeMoves.undisturbed rfl

theorem State.memoryByte_undisturbed (s : State) (v : Byte) (memAck : Bool) : s.Undisturbed (s.memoryByte v memAck) := by
  unfold State.memoryByte State.writtenByte
  split
  · exact State.BridgeMoves.undisturbed rfl
  · split
    · exact s.takeMemoryByte_undisturbed v memAck
    · exact State.BridgeMoves.undisturbed rfl

theorem State.chunkRefused_undisturbed (s : State) (job : AgentJob) (at_ : NackAt) : s.Undisturbed (s.chunkRefused job at_) := by
  unfold State.chunkRefused
  cases job with
  | recovery => exact .refl s
  | loadChunk =>
    dsimp only
    split <;> exact .beside rfl rfl rfl rfl rfl rfl rfl (by simp [State.releasePort])
  | record =>
    dsimp only
    split <;> exact .beside rfl rfl rfl rfl rfl rfl rfl id

theorem State.abnormal_undisturbed (s : State) : s.Undisturbed s.abnormal := by
  unfold State.abnormal
  split
  · exact s.chunkRefused_undisturbed _ _
  · exact (s.endAbnormally_moves _).undisturbed
  · exact .refl s

/-! ### The load and the failure records (R162 to R167) -/

theorem State.reach_undisturbed (s : State) (a : Nat) : s.Undisturbed (s.reach a) := .beside rfl rfl rfl rfl rfl rfl rfl id

theorem State.chunkRead_undisturbed (s : State) (a : BusAddr) : s.Undisturbed (s.chunkRead a) := by
  have hbridge : s.Undisturbed ((s.releasePort (readActs a ++ [.stop])).moveMirror (memoryPointer (a + 64))) :=
    State.BridgeMoves.undisturbed rfl
  exact hbridge.trans (State.endCondition_condsMove _ none .memoryFault).undisturbed

/-- The load goes on while a load runs. -/
theorem State.loadStep_undisturbed {s : State} (l : Load) (stage : LoadStage) (h : s.agent.load.isSome = true) :
    s.Undisturbed (s.loadStep l stage) := .beside rfl rfl rfl rfl rfl rfl rfl fun _ => h

theorem State.loadPending_undisturbed (s : State) (n : LegId) (bytes : Page) : s.Undisturbed (s.loadPending n bytes) := by
  have hp (pages : Vector Page 8) : s.Undisturbed { s with pendingLegs := pages } := .beside rfl rfl rfl rfl rfl rfl rfl id
  exact (hp _).trans (State.refreshDiffers_undisturbed _ _)

theorem State.chunkRead_load (s : State) (a : BusAddr) : (s.chunkRead a).agent = s.agent := by
  have hm := ((s.releasePort (readActs a ++ [.stop])).moveMirror (memoryPointer (a + 64))).endCondition_moves none .memoryFault
  unfold State.chunkRead
  unfold State.ReportMoves at hm
  rw [hm]
  rfl

theorem State.headerRead_undisturbed {s : State} (l : Load) (bytes : Page) (h : s.agent.load.isSome = true) :
    s.Undisturbed (s.headerRead l bytes) := by
  have hp (t : State) : t.Undisturbed { t with pendingHeader := bytes } := .beside rfl rfl rfl rfl rfl rfl rfl id
  refine ((s.chunkRead_undisturbed 0x0000).trans (hp _)).trans (State.loadStep_undisturbed l _ ?_)
  show (s.chunkRead 0x0000).agent.load.isSome = true
  rw [State.chunkRead_load]
  exact h

theorem State.legRead_undisturbed {s : State} (l : Load) (n : LegId) (bytes : Page) (h : s.agent.load.isSome = true) :
    s.Undisturbed (s.legRead l n bytes) := by
  refine ((s.chunkRead_undisturbed _).trans (State.loadPending_undisturbed _ n bytes)).trans (State.loadStep_undisturbed l _ ?_)
  show (s.chunkRead (BitVec.ofNat 16 (0x0040 + 64 * n.val))).agent.load.isSome = true
  rw [State.chunkRead_load]
  exact h

theorem State.recordDone_undisturbed (s : State) (r : FailureRecord) (rest : List FailureRecord) : s.Undisturbed (s.recordDone r rest) := by
  have hsent : s.Undisturbed (s.recordSent r rest) := .beside rfl rfl rfl rfl rfl rfl rfl id
  refine hsent.trans ?_
  rw [State.recordDone_eq]
  split
  · exact (State.inEitherOrder_only _ (fun t => t.queueEvent_condsMove _ _) fun t => t.endCondition_condsMove _ _).undisturbed
  · exact (State.queueEvent_condsMove _ _ _).undisturbed

theorem State.dropRecord_undisturbed (s : State) (rest : List FailureRecord) : s.Undisturbed (s.dropRecord rest) := by
  have hd := (s.dropJob_moves .record).undisturbed
  have hr (t : State) : t.Undisturbed { t with agent := { t.agent with records := rest } } := .beside rfl rfl rfl rfl rfl rfl rfl id
  exact (hd.trans (hr _)).trans (State.raiseFault_condsMove _ none .memoryFault 0).undisturbed

theorem State.agentTakes_undisturbed (s : State) : s.Undisturbed s.agentTakes := by
  unfold State.agentTakes
  split
  · split
    · next job hj =>
      unfold State.startJob
      cases job
      · exact .beside rfl rfl rfl rfl rfl rfl rfl id
      · exact .beside rfl rfl rfl rfl rfl rfl rfl (by simp)
      · exact .beside rfl rfl rfl rfl rfl rfl rfl id
    · exact .refl s
  · exact .refl s

end

end Sys2Proof.Machine
end

section
/-! PROOF. The commands of the live window keep the supervision law and the coefficient law, the reload among them, and so do the
buffered bytes of a transaction (R111, R114, R143, R148 to R151, R164). -/

namespace Sys2Proof.Machine

/-! ### A turn of a leg, in the laws of the whole part -/

/-- A run of the turns of one leg keeps the laws, where it stands beside the leg. -/
theorem State.LegTurns.lawKeeps {n : LegId} {s t : State} (h : s.LegTurns n t)
    (hb : s.InOrder → State.Turns False True (some n) s t) : s.LawKeeps t := by
  refine h.legKeeps.lawKeeps (fun hs => ((hb hs).beside (hs.plan.pairsWithin n)).1) fun hs hrun =>
    h.rests ⟨hs.legs.2.1 n ?_, .inr ?_⟩
  all_goals simp [State.legExists, hrun]

theorem State.whenOpen_lawKeeps (s : State) (f : State → State) (h : s.LawKeeps (f s)) : s.LawKeeps (s.whenOpen f) := by
  unfold State.whenOpen
  split
  · exact h
  · exact .refl s

/-! ### Clear of everything (R111, R151) -/

theorem State.clearAll_lawKeeps (s : State) : s.LawKeeps s.clearAll := fun hs => by
  obtain ⟨⟨hframe, -⟩, hleg, hfabric⟩ := s.clearAll_spec hs.plan.pairsApart
  have hslices : s.clearAll.slices = s.slices := by rw [hframe]
  have htx : s.clearAll.tx = s.tx := by rw [hframe]
  have hhead : s.clearAll.head = s.head := by rw [hframe]
  refine State.Undisturbed.lawKeeps ⟨hslices, hhead, fun k => k.congr ?_ hhead (by rw [hframe]), fun n => ?_, fun i x => ?_,
    fun i x => ?_, fun k y => by rw [State.txAt_congr htx]⟩ hs
  · rw [hframe]
    exact id
  · rw [hleg]
    rfl
  · exact (congrArg Exchange.lane (hfabric i x).1).trans rfl
  · exact (congrArg (fun r : RxPath => r.eye.phase) (hfabric i x).2).trans rfl

/-! ### The reload (R114, R164) -/

theorem State.parkLeg_lawKeeps (s : State) (n : LegId) (cause : LegCause) : s.LawKeeps (s.parkLeg n cause) :=
  (State.LegTurn.parks cause).run.lawKeeps fun _ => s.parkLeg_turns cause (covers_self n)

theorem State.parkLeg_state (s : State) (n : LegId) (cause : LegCause) : ((s.parkLeg n cause).leg n).state = .parked := by
  by_cases h : (s.leg n).state = .parked
  · rw [show s.parkLeg n cause = s from if_pos h]
    exact h
  · rw [s.parkLeg_leg cause h]

/-- Some legs are parked where they exist. -/
def State.parkLegs (s : State) (legs : List LegId) : State :=
  legs.foldl (fun t n => if t.legExists n then t.parkLeg n .reload else t) s

theorem State.parkLegs_laws (legs : List LegId) (s : State) (hs : s.InOrder) :
    (s.parkLegs legs).InOrder ∧ (s.Fits → (s.parkLegs legs).Fits)
      ∧ ∀ m : LegId, (s.leg m).state = .parked ∨ m ∈ legs → ((s.parkLegs legs).leg m).state = .parked := by
  induction legs generalizing s with
  | nil => exact ⟨hs, id, fun m h => h.elim id nofun⟩
  | cons n rest ih =>
    show (State.parkLegs (if s.legExists n then s.parkLeg n .reload else s) rest).InOrder
      ∧ (s.Fits → (State.parkLegs (if s.legExists n then s.parkLeg n .reload else s) rest).Fits) ∧ _
    have hstep : ∃ u, (if s.legExists n then s.parkLeg n .reload else s) = u ∧ u.InOrder ∧ (s.Fits → u.Fits)
        ∧ ∀ m : LegId, (s.leg m).state = .parked ∨ m = n → (u.leg m).state = .parked := by
      refine ⟨_, rfl, ?_⟩
      split
      · obtain ⟨ht, hf⟩ := s.parkLeg_lawKeeps n .reload hs
        refine ⟨ht, hf, fun m hm => ?_⟩
        by_cases hmn : m = n
        · rw [hmn]
          exact s.parkLeg_state n .reload
        · have hturns : State.Turns False True (some n) s (s.parkLeg n .reload) := s.parkLeg_turns .reload (covers_self n)
          rw [(hturns.beside (hs.plan.pairsWithin n)).1.legs m hmn]
          exact hm.resolve_right hmn
      · next he =>
        refine ⟨hs, id, fun m hm => hm.elim id fun e => ?_⟩
        rw [e]
        exact hs.legs.2.1 n (by simpa using he)
    obtain ⟨u, hu, ht, hf, hp⟩ := hstep
    obtain ⟨h1, h2, h3⟩ := ih u ht
    have hall : s.parkLegs (n :: rest) = u.parkLegs rest := by
      rw [← hu]
      rfl
    rw [hu]
    refine ⟨h1, fun k => h2 (hf k), fun m hm => ?_⟩
    rw [hall]
    rcases hm with hm | hm
    · exact h3 m (.inl (hp m (.inl hm)))
    · rcases List.mem_cons.1 hm with hm | hm
      · exact h3 m (.inl (hp m (.inr hm)))
      · exact h3 m (.inr hm)

/-- What the lapse of the plan and the idling of every lane leave of a part whose legs are parked. -/
theorem State.idleAll_legs {u : State} (hu : u.InOrder) (hp : ∀ m : LegId, (u.leg m).state = .parked) (m : LegId) :
    u.idleAll.leg m = u.leg m := by
  obtain ⟨-, -, -, -, -, hkept, hreleased, -⟩ := hu.legs.1 m
  have hservice := u.idleAll_service
  have hr := hreleased (.inl (hp m))
  have hk := hkept (by simp [hp m])
  rw [hservice.legs m, hservice.released m hr, hservice.kept m hk]
  generalize u.leg m = l at hr hk
  cases l
  cases hr
  cases hk
  rfl

theorem State.idleAll_lapse_inOrder {u : State} (hu : u.InOrder) (hp : ∀ m : LegId, (u.leg m).state = .parked)
    (hr : u.resetHeld = false) : u.idleAll.lapsePlan.awaitLoad.InOrder ∧ (u.Fits → u.idleAll.lapsePlan.awaitLoad.Fits) := by
  have hlegs (m : LegId) : u.idleAll.lapsePlan.leg m = u.leg m :=
    (State.leg_congr (by rw [State.lapsePlan_only_slices]) m).trans (State.idleAll_legs hu hp m)
  have hslice := u.idleAll.lapsePlan_slice
  have hexch (j : Lane) (y : Side) : u.idleAll.lapsePlan.exch j y = (u.exch j y).idled :=
    (State.exch_congr (by rw [State.lapsePlan_only_slices]) j y).trans (u.idleAll_exch j y)
  have htx (k : Lane) (y : Side) : u.idleAll.lapsePlan.txAt k y = { u.txAt k y with line := .quiet } :=
    (State.txAt_congr (by rw [State.lapsePlan_only_slices]) k y).trans (State.idleAll_tx hu.plan.pairsApart k y)
  have hrx (k : Lane) (y : Side) : u.idleAll.lapsePlan.rxAt k y = { u.rxAt k y with eye := .initial } :=
    (State.rxAt_congr (by rw [State.lapsePlan_only_slices]) k y).trans (State.idleAll_rx hu.plan.pairsApart k y)
  have hheld : u.idleAll.lapsePlan.resetHeld = false := by
    have hm := u.idleAll_service.lanes
    unfold State.LanesMove at hm
    rw [State.lapsePlan_only_slices, hm]
    exact hr
  generalize u.idleAll.lapsePlan = w at hlegs hslice hexch htx hrx hheld
  have howner (j : Lane) : w.awaitLoad.owner j = none := by
    show (w.slice j).owner = none
    rw [hslice]
    rfl
  have hpair (j : Lane) : (w.awaitLoad.slice j).pair = j := by
    show (w.slice j).pair = j
    rw [hslice]
    rfl
  have hleg (m : LegId) : w.awaitLoad.leg m = u.leg m := hlegs m
  have hstate (j : Lane) (y : Side) : w.awaitLoad.laneState j y = .quiet := congrArg Exchange.lane (hexch j y)
  obtain ⟨⟨hok, -, -⟩, ⟨h1, -, -, -, -, h6⟩, -⟩ := hu
  refine ⟨⟨⟨fun m => hleg m ▸ hok m, fun m _ => ?_, fun _ => rfl, fun k => ?_⟩,
    ⟨fun m => ?_, fun j m => ?_, fun j => by rw [howner, howner], fun j _ => hpair j, fun j k e => ?_, fun j m m' hm hm' => ?_⟩,
    ⟨fun i m hi _ => ?_, fun i _ x => hstate i x, fun i x _ => ?_⟩⟩, fun hf => ⟨fun m => ?_, fun m j x r hj => ?_, fun i x m hi _ => ?_⟩⟩
  · rw [hleg]
    exact hp m
  · have hk : w.resetHeld = true := k
    simp [hheld] at hk
  · unfold Leg.groupOk
    rw [hleg]
    exact h1 m
  · rw [howner]
    exact ⟨nofun, fun k => nomatch k.1⟩
  · rwa [hpair, hpair] at e
  · exact h6 j m m' ((State.inGroup_congr (by rw [hleg]) (by rw [hleg]) j).1 hm)
      ((State.inGroup_congr (by rw [hleg]) (by rw [hleg]) j).1 hm')
  · rw [howner] at hi
    cases hi
  · exact congrArg (fun p : RxPath => p.eye.phase) (hrx (w.awaitLoad.phys i x) x)
  · rw [hleg]
    exact hf.profiles m
  · have hin : u.inGroup m j := (State.inGroup_congr (by rw [hleg]) (by rw [hleg]) j).1 hj
    have hfit : (w.txAt j x).BanksFit (w.awaitLoad.leg m).profile.ceiling (w.awaitLoad.leg m).profile.floor := by
      rw [hleg, htx]
      exact fun q => hf.sets.1 m j x q hin
    exact hfit r
  · rw [howner] at hi
    cases hi

theorem State.reloadHead_lawKeeps (s : State) : s.LawKeeps s.reloadHead := by
  by_cases hw : s.windowOpen = true
  · intro hs
    have hclosed : s.head ≠ .loading ∧ s.resetHeld = false := by simpa [State.windowOpen] using hw
    obtain ⟨hu, hf, hp⟩ := State.parkLegs_laws allLegs s hs
    have hheld : (s.parkLegs allLegs).resetHeld = false := by
      have hm : s.FabricMoves (s.parkLegs allLegs) := State.onLegs_fabricMoves _ (fun t n => by
        split
        · exact (t.parkLeg_turns (R := False) (G := False) _ (covers_self n)).fabricMoves
        · exact .refl t) allLegs s
      exact hm.keeps.2.2.trans hclosed.2
    obtain ⟨h1, h2⟩ := State.idleAll_lapse_inOrder hu (fun m => hp m (.inr (mem_allLegs m))) hheld
    rw [State.reloadHead_eq hw]
    exact ⟨h1, fun k => h2 (hf k)⟩
  · unfold State.reloadHead
    rw [if_neg hw]
    exact .refl s

/-! ### The bytes of the window (R143, R148 to R151) -/

theorem State.report_lawKeeps {s t : State} (h : s.ReportMoves t) (hl : t.legs = s.legs) : s.LawKeeps t :=
  State.Undisturbed.lawKeeps (State.ReportsOnly.undisturbed ⟨h.alone, fun m => by rw [State.leg_congr hl]⟩)

theorem State.acknowledgeShown_lawKeeps (s : State) : s.LawKeeps s.acknowledgeShown := by
  refine State.report_lawKeeps s.acknowledgeShown_moves ?_
  unfold State.acknowledgeShown
  split
  · rfl
  · dsimp only
    split <;> rfl

theorem State.storeViewMode_lawKeeps (s : State) (v : Byte) : s.LawKeeps (s.storeViewMode v) := by
  refine State.report_lawKeeps (s.storeViewMode_moves v) ?_
  unfold State.storeViewMode
  split
  · rfl
  · split <;> rfl

theorem State.storeEventMode_lawKeeps (s : State) (v : Byte) : s.LawKeeps (s.storeEventMode v) := by
  refine State.report_lawKeeps (s.storeEventMode_moves v) ?_
  unfold State.storeEventMode
  repeat' split
  all_goals rfl

theorem State.storeRollover_lawKeeps (s : State) (v : Byte) : s.LawKeeps (s.storeRollover v) := by
  refine State.report_lawKeeps (s.storeRollover_moves v) ?_
  unfold State.storeRollover
  repeat' split
  all_goals rfl

theorem State.legCommandByte_lawKeeps (s : State) (n : LegId) (v : Byte) : s.LawKeeps (s.legCommandByte n v) := by
  unfold State.legCommandByte
  split
  · exact exec_leg_lawKeeps (cmd := .retrain n) rfl rfl
  · split
    · exact exec_leg_lawKeeps (cmd := .park n) rfl rfl
    · split
      · exact exec_leg_lawKeeps (cmd := .unpark n) rfl rfl
      · split
        · exact exec_leg_lawKeeps (cmd := .clear n) rfl rfl
        · exact .refl s

theorem State.headCommandByte_lawKeeps (s : State) (v : Byte) : s.LawKeeps (s.headCommandByte v) := by
  unfold State.headCommandByte
  split
  · exact s.reloadHead_lawKeeps
  · split
    · exact s.whenOpen_lawKeeps _ (State.report_lawKeeps rfl rfl)
    · split
      · exact s.whenOpen_lawKeeps _ (State.report_lawKeeps rfl rfl)
      · split
        · exact s.whenOpen_lawKeeps _ s.clearAll_lawKeeps
        · exact .refl s

theorem State.applyByte_lawKeeps (s : State) (a : BusAddr) (v : Byte) : s.LawKeeps (s.applyByte a v) := by
  unfold State.applyByte
  split
  · exact s.headCommandByte_lawKeeps v
  · exact s.whenOpen_lawKeeps _ (s.storeViewMode_lawKeeps v)
  · exact s.whenOpen_lawKeeps _ (State.report_lawKeeps rfl rfl)
  · exact s.whenOpen_lawKeeps _ (State.report_lawKeeps rfl rfl)
  · exact s.whenOpen_lawKeeps _ (s.storeEventMode_lawKeeps v)
  · exact s.whenOpen_lawKeeps _ (s.storeRollover_lawKeeps v)
  · exact s.legCommandByte_lawKeeps _ v
  · exact s.whenOpen_lawKeeps _ (State.report_lawKeeps rfl rfl)
  · exact s.whenOpen_lawKeeps _ (State.report_lawKeeps rfl rfl)
  · exact s.whenOpen_lawKeeps _ s.acknowledgeShown_lawKeeps
  · exact .refl s

theorem State.applyBytes_lawKeeps (s : State) (bytes : List (BusAddr × Byte)) : s.LawKeeps (s.applyBytes bytes) := by
  unfold State.applyBytes
  induction bytes generalizing s with
  | nil => exact .refl s
  | cons b rest ih => exact (s.applyByte_lawKeeps b.1 b.2).trans (ih _)

theorem State.BridgeMoves.lawKeeps {s t : State} (h : s.BridgeMoves t) : s.LawKeeps t := h.undisturbed.lawKeeps

theorem State.repeatStart_lawKeeps (s : State) (target : RestartTarget) (answer : MemAnswer) :
    s.LawKeeps (s.repeatStart target answer) := by
  have happly (t : State) : t.LawKeeps t.applyBuffer :=
    (State.BridgeMoves.lawKeeps (t := { t with bridge := { t.bridge with txn := { t.bridge.txn with buffer := [] } } }) rfl).trans
      (State.applyBytes_lawKeeps _ _)
  have happlied : s.LawKeeps (s.leaveWordAddress.applyBuffer.dropSnapshot target) :=
    (s.leaveWordAddress_moves.lawKeeps.trans (happly _)).trans (State.dropSnapshot_moves _ target).lawKeeps
  unfold State.repeatStart
  dsimp only
  generalize s.leaveWordAddress.applyBuffer.dropSnapshot target = t at happlied
  split
  · split
    · exact happlied.trans (t.restartRunOn_moves target).lawKeeps
    · exact happlied.trans (t.restartTo_moves target answer).lawKeeps
  · exact State.BridgeMoves.lawKeeps rfl

theorem State.stopTxn_lawKeeps (s : State) : s.LawKeeps s.stopTxn := by
  unfold State.stopTxn
  dsimp only
  split
  · exact .refl s
  · exact .refl s
  · have hend : s.leaveWordAddress.LawKeeps (s.leaveWordAddress.endTxn s.closing .nothing) := State.BridgeMoves.lawKeeps rfl
    exact (s.leaveWordAddress_moves.lawKeeps.trans hend).trans (State.applyBytes_lawKeeps _ _)

end Sys2Proof.Machine
end

section
/-! SUPPORT. The plan of a header put in force: group of each leg, owner of each lane, and the learned sets that lapse (R4, R43, R163). -/

namespace Sys2Proof.Machine

/-! ### The groups of a header (R4) -/

theorem dealtFirst_add (p : Page) (n : LegId) :
    dealtFirst p n + headerWidth p n = ((allLegs.take (n.val + 1)).map (headerWidth p)).sum := by
  have hlen : allLegs.length = 8 := rfl
  rw [List.take_add_one, List.map_append, List.sum_append, List.getElem?_eq_getElem (by omega), allLegs_getElem]
  simp [dealtFirst]

/-- The lanes dealt to one leg end before those of the next begin. -/
theorem dealtFirst_add_le (p : Page) {n m : LegId} (h : n.val < m.val) : dealtFirst p n + headerWidth p n ≤ dealtFirst p m := by
  have hsplit : allLegs.take m.val = allLegs.take (n.val + 1) ++ (allLegs.take m.val).drop (n.val + 1) := by
    have ht := (List.take_append_drop (n.val + 1) (allLegs.take m.val)).symm
    rwa [List.take_take, Nat.min_eq_left (by omega)] at ht
  rw [dealtFirst_add]
  unfold dealtFirst
  rw [hsplit, List.map_append, List.sum_append]
  exact Nat.le_add_right _ _

theorem dealtFirst_le_sum (p : Page) (n : LegId) : dealtFirst p n + headerWidth p n ≤ (allLegs.map (headerWidth p)).sum := by
  rw [dealtFirst_add]
  conv_rhs => rw [← List.take_append_drop (n.val + 1) allLegs, List.map_append, List.sum_append]
  exact Nat.le_add_right _ _

/-- Lane `j` lies in the lanes dealt to leg `n` by header `p` (R4). -/
def DealtTo (p : Page) (n : LegId) (j : Lane) : Prop := dealtFirst p n ≤ j.val ∧ j.val < dealtFirst p n + headerWidth p n

theorem DealtTo.unique {p : Page} {n m : LegId} {j : Lane} (h : DealtTo p n j) (k : DealtTo p m j) : n = m := by
  unfold DealtTo at h k
  rcases lt_trichotomy n.val m.val with hlt | he | hlt
  · have := dealtFirst_add_le p hlt
    omega
  · exact Fin.ext he
  · have := dealtFirst_add_le p hlt
    omega

/-! ### The legs' records and the slices under the plan (R4) -/

/-- A leg's record at the end of a load, before it is settled (R4, R163). -/
def Leg.plannedBy (p : Page) (n : LegId) (l : Leg) : Leg :=
  { l.standDown with state := .parked, width := headerWidth p n, first := if headerWidth p n = 0 then 0 else dealtFirst p n }

theorem Leg.plannedBy_groupOk {p : Page} (h : planValid p = true) (n : LegId) (l : Leg) : (l.plannedBy p n).groupOk := by
  obtain ⟨hwidth, htwo, hfour, hsum⟩ := (planValid_iff p).1 h
  have hfit := dealtFirst_le_sum p n
  have hw := hwidth n
  have h2 := htwo n
  have h4 := hfour n
  unfold Leg.groupOk Leg.plannedBy
  dsimp only
  generalize headerWidth p n = w at *
  generalize dealtFirst p n = d at *
  by_cases hz : w = 0
  · exact .inl hz
  · rw [if_neg hz]
    refine .inr ⟨by omega, ?_, by omega⟩
    rcases hw with rfl | rfl | rfl | rfl <;> omega

theorem State.onLegs_by {f : LegId → Leg → Leg} {legs : List LegId} (hn : legs.Nodup) (s : State) (m : LegId) :
    (legs.foldl (fun u n => u.modLeg n (f n)) s).leg m = if m ∈ legs then f m (s.leg m) else s.leg m := by
  induction legs generalizing s with
  | nil => simp
  | cons n rest ih =>
    obtain ⟨hfirst, hrest⟩ := List.nodup_cons.1 hn
    rw [List.foldl_cons, ih hrest]
    by_cases hm : m = n
    · subst hm
      rw [if_neg hfirst, if_pos List.mem_cons_self, State.leg_modLeg_same]
    · rw [State.leg_modLeg_ne _ _ hm]
      simp [hm]

theorem State.onLegs_frame (f : LegId → Leg → Leg) (legs : List LegId) (s : State) :
    legs.foldl (fun u n => u.modLeg n (f n)) s = { s with legs := (legs.foldl (fun u n => u.modLeg n (f n)) s).legs } := by
  induction legs generalizing s with
  | nil => rfl
  | cons n rest ih =>
    rw [List.foldl_cons, ih]
    rfl

theorem State.onLanes_slice {f : Lane → Slice → Slice} {lanes : List Lane} (hn : lanes.Nodup) (s : State) (j : Lane) :
    (s.onLanes lanes fun i u => u.setSlice i (f i (u.slice i))).slice j = if j ∈ lanes then f j (s.slice j) else s.slice j := by
  unfold State.onLanes
  induction lanes generalizing s with
  | nil => simp
  | cons i rest ih =>
    obtain ⟨hfirst, hrest⟩ := List.nodup_cons.1 hn
    rw [List.foldl_cons, ih hrest]
    by_cases hj : j = i
    · subst hj
      rw [if_neg hfirst, if_pos List.mem_cons_self, State.slice_setSlice_same]
    · rw [State.slice_setSlice_ne _ _ hj]
      simp [hj]

theorem State.onLanes_slices_frame (f : Lane → Slice → Slice) (lanes : List Lane) (s : State) :
    (s.onLanes lanes fun i u => u.setSlice i (f i (u.slice i))) =
      { s with slices := (s.onLanes lanes fun i u => u.setSlice i (f i (u.slice i))).slices } :=
  State.onLanes_induct (P := fun t => t = { s with slices := t.slices }) _ (fun i t h => by rw [h]; rfl) _ rfl

/-- The part with the plan's records and no owners yet. -/
def State.plannedLegs (s : State) : State :=
  allLegs.foldl (fun u n => u.modLeg n (Leg.plannedBy s.pendingHeader n)) s.lapsePlan

/-- The owner that the plan gives lane `j`. -/
def State.plannedOwner (s : State) (j : Lane) : Option LegId := (s.plannedLegs.holder j).map fun o => o.1

theorem State.installPlan_eq (s : State) : s.installPlan =
    s.plannedLegs.onLanes allLanes fun j u => u.setSlice j { u.slice j with owner := s.plannedOwner j } := rfl

theorem State.plannedLegs_leg (s : State) (m : LegId) : s.plannedLegs.leg m = (s.leg m).plannedBy s.pendingHeader m := by
  have h := State.onLegs_by (f := Leg.plannedBy s.pendingHeader) allLegs_nodup s.lapsePlan m
  rw [if_pos (mem_allLegs m)] at h
  refine h.trans (congrArg _ (State.leg_congr ?_ m))
  rw [s.lapsePlan_only_slices]

theorem State.plannedLegs_frame (s : State) :
    s.plannedLegs = { s with slices := s.lapsePlan.slices, legs := s.plannedLegs.legs } := by
  have h := State.onLegs_frame (Leg.plannedBy s.pendingHeader) allLegs s.lapsePlan
  have hl := s.lapsePlan_only_slices
  unfold State.plannedLegs
  rw [h, hl]

theorem State.installPlan_frame (s : State) : s.installPlan = { s with slices := s.installPlan.slices, legs := s.installPlan.legs } := by
  have h := State.onLanes_slices_frame (fun j d => { d with owner := s.plannedOwner j }) allLanes s.plannedLegs
  have hp := s.plannedLegs_frame
  rw [← State.installPlan_eq] at h
  generalize s.installPlan = t at h ⊢
  generalize s.plannedLegs = u at h hp
  rw [h, hp]

theorem State.installPlan_leg (s : State) (m : LegId) : s.installPlan.leg m = (s.leg m).plannedBy s.pendingHeader m := by
  have h := State.onLanes_slices_frame (fun j d => { d with owner := s.plannedOwner j }) allLanes s.plannedLegs
  rw [← State.installPlan_eq] at h
  rw [← s.plannedLegs_leg m]
  exact State.leg_congr (by rw [h]) m

theorem State.installPlan_slice (s : State) (j : Lane) :
    s.installPlan.slice j = { (s.slice j).lapse j with owner := s.plannedOwner j } := by
  have h := State.onLanes_slice (f := fun j d => { d with owner := s.plannedOwner j }) allLanes_nodup s.plannedLegs j
  rw [if_pos (mem_allLanes j)] at h
  rw [State.installPlan_eq, h, State.slice_congr (t := s.plannedLegs) (s := s.lapsePlan) (by rw [s.plannedLegs_frame]),
    s.lapsePlan_slice]

/-- Lane `j` lies in the group of leg `n` by the planned record exactly where it is dealt to it. -/
theorem State.plannedLegs_inGroup (s : State) (n : LegId) (j : Lane) :
    ((s.leg n).plannedBy s.pendingHeader n).first ≤ j.val
        ∧ j.val < ((s.leg n).plannedBy s.pendingHeader n).first + ((s.leg n).plannedBy s.pendingHeader n).width
      ↔ DealtTo s.pendingHeader n j := by
  unfold Leg.plannedBy DealtTo
  dsimp only
  split <;> omega

/-- The record of a leg that holds lane `j`. -/
theorem State.holder_of_inGroup {s : State} (hu : ∀ n m : LegId, ∀ j : Lane, s.inGroup n j → s.inGroup m j → n = m) {n : LegId} {j : Lane}
    (h : s.inGroup n j) : s.holder j = some (n, (s.leg n).first, (s.leg n).width) := by
  unfold State.holder
  cases hf : allLegs.find? fun n => decide ((s.leg n).first ≤ j.val ∧ j.val < (s.leg n).first + (s.leg n).width) with
  | none =>
    have hnone := List.find?_eq_none.1 hf n (mem_allLegs n)
    exact absurd h (by simpa [State.inGroup] using hnone)
  | some m =>
    have hm := List.find?_some hf
    have hmn := hu n m j h (by simpa [State.inGroup] using hm)
    rw [← hmn]
    rfl

theorem State.inGroup_of_holder {s : State} {j : Lane} {o : LegId × Nat × Nat} (h : s.holder j = some o) :
    s.inGroup o.1 j ∧ o = (o.1, (s.leg o.1).first, (s.leg o.1).width) := by
  unfold State.holder at h
  rw [Option.map_eq_some_iff] at h
  obtain ⟨m, hm, rfl⟩ := h
  exact ⟨by simpa [State.inGroup] using List.find?_some hm, rfl⟩

theorem State.plannedOwner_iff (s : State) (j : Lane) (n : LegId) : s.plannedOwner j = some n ↔ DealtTo s.pendingHeader n j := by
  have hg (m : LegId) (k : Lane) : s.plannedLegs.inGroup m k ↔ DealtTo s.pendingHeader m k := by
    unfold State.inGroup
    rw [s.plannedLegs_leg m]
    exact s.plannedLegs_inGroup m k
  unfold State.plannedOwner
  constructor
  · intro h
    rw [Option.map_eq_some_iff] at h
    obtain ⟨o, ho, rfl⟩ := h
    exact (hg _ _).1 (State.inGroup_of_holder ho).1
  · intro h
    rw [State.holder_of_inGroup (fun a b k ha hb => ((hg a k).1 ha).unique ((hg b k).1 hb)) ((hg n j).2 h)]
    rfl

end Sys2Proof.Machine
end

section
/-! SUPPORT. The take of a leg at the end of a load: its record, its lane map and its banks, by the case of its pending record (R8 to
R10, R43, R54, R99, R163). -/

namespace Sys2Proof.Machine

section
variable {n : LegId} {changed : List Lane}

/-- The leg record after the take at the end of a load (R99, R163). -/
def Leg.loaded (l : Leg) (page : Page) : Leg :=
  if l.source = some page ∨ checkByteHolds page = true then l.taken page
  else { l with profile := .initial, source := none, clamped := false, differs := pendingDiffers page none }

/-- The record of leg `n` is refused at the end of a load: it fails its check and is not the active one (R163). -/
def State.Refuses (s : State) (n : LegId) : Prop :=
  (s.leg n).source ≠ some s.pendingLegs[n] ∧ ¬checkByteHolds s.pendingLegs[n] = true

/-- The take that leg `n` has at the end of a load. -/
def State.settledTake (s : State) (n : LegId) (changed : List Lane) : State := s.loadTake n (s.takeCase n) changed

/-- The start sets of the active profile given to the leg's lanes in the list. -/
def State.startsGiven (s : State) (n : LegId) (changed : List Lane) : State :=
  s.onExchanges ((s.legLanes n).filter fun i => changed.contains i) fun i x u => u.giveStarts n i x

theorem State.settledTake_taken {s : State} (h : s.Takes n) : s.settledTake n changed = s.take n := by
  unfold State.settledTake State.take
  rw [s.takeCase_taken h.1 h.2]
  rfl

theorem State.settledTake_skipped {s : State} (h : (s.leg n).source = some s.pendingLegs[n]) :
    s.settledTake n changed = ((s.startsGiven n changed).applyMap n).refreshDiffers n := by
  unfold State.settledTake
  rw [s.takeCase_skipped h]
  rfl

theorem State.settledTake_refused {s : State} (h : s.Refuses n) : s.settledTake n changed = s.giveDefaults n := by
  unfold State.settledTake
  rw [s.takeCase_refused h.1 h.2]
  rfl

/-- The three cases of a take. -/
theorem State.take_cases (s : State) (n : LegId) : s.Takes n ∨ (s.leg n).source = some s.pendingLegs[n] ∨ s.Refuses n := by
  by_cases hs : (s.leg n).source = some s.pendingLegs[n]
  · exact .inr (.inl hs)
  · by_cases hc : checkByteHolds s.pendingLegs[n] = true
    · exact .inl ⟨hs, hc⟩
    · exact .inr (.inr ⟨hs, hc⟩)

theorem State.startsGiven_only (s : State) (n : LegId) (changed : List Lane) :
    s.startsGiven n changed = { s with tx := (s.startsGiven n changed).tx } :=
  State.onExchanges_induct (P := fun t => t = { s with tx := t.tx }) _ (fun i x t h => by rw [h]; rfl) _ rfl

/-- The part that gives a leg the default profile, before its lane map and banks. -/
def State.defaulted (s : State) (n : LegId) : State :=
  s.modLeg n fun l => { l with profile := .initial, source := none, clamped := false }

theorem State.giveDefaults_eq (s : State) (n : LegId) : s.giveDefaults n = ((s.defaulted n).installProfile n).refreshDiffers n := rfl

/-- The lane map of the take is applied to the leg's record with its new profile; nothing else but banks and pending-differs moves. -/
theorem State.settledTake_eq (s : State) (n : LegId) (changed : List Lane) :
    ∃ r u : State, s.settledTake n changed = u.refreshDiffers n ∧ u = { r with slices := (r.applyMap n).slices, tx := u.tx }
      ∧ r = { s with legs := r.legs, tx := r.tx } ∧ (∀ m : LegId, m ≠ n → r.leg m = s.leg m)
      ∧ { r.leg n with differs := pendingDiffers s.pendingLegs[n] (r.leg n).source } = (s.leg n).loaded s.pendingLegs[n] := by
  rcases s.take_cases n with ht | hs | hr
  · refine ⟨s.recordTaken n, (s.recordTaken n).installProfile n, ?_, ?_, rfl, fun m hm => s.leg_setLeg_ne _ hm, ?_⟩
    · rw [State.settledTake_taken ht, s.take_of_takes ht]
    · have hb := (s.recordTaken n).installProfile_only_banks n
      have hmap := (s.recordTaken n).applyMap_only_slices n
      rw [hmap] at hb
      exact hb
    · rw [State.recordTaken, State.leg_setLeg_same, Leg.loaded, if_pos (.inr ht.2)]
      rfl
  · have ho := s.startsGiven_only n changed
    refine ⟨s.startsGiven n changed, (s.startsGiven n changed).applyMap n, State.settledTake_skipped hs, ?_, ?_, fun m _ => ?_, ?_⟩
    · conv_lhs => rw [(s.startsGiven n changed).applyMap_only_slices n]
      rw [(s.startsGiven n changed).applyMap_only_slices n]
    · conv_lhs => rw [ho]
      rw [ho]
    · exact State.leg_congr (by rw [ho]) m
    · rw [State.leg_congr (s := s) (by rw [ho]), Leg.loaded, if_pos (.inl hs), Leg.taken, Leg.taking_of_not_taken fun k => k.1 hs]
  · refine ⟨s.defaulted n, (s.defaulted n).installProfile n, ?_, ?_, rfl, fun m hm => State.leg_modLeg_ne _ _ hm, ?_⟩
    · rw [State.settledTake_refused hr, s.giveDefaults_eq]
    · have hb := (s.defaulted n).installProfile_only_banks n
      have hmap := (s.defaulted n).applyMap_only_slices n
      rw [hmap] at hb
      exact hb
    · have hl : (s.defaulted n).leg n = { s.leg n with profile := .initial, source := none, clamped := false } :=
        State.leg_modLeg_same _ _ _
      rw [hl, Leg.loaded, if_neg fun k => k.elim hr.1 hr.2]

theorem State.settledTake_takeMoves (s : State) (n : LegId) (changed : List Lane) : s.TakeMoves (s.settledTake n changed) := by
  obtain ⟨r, u, ht, hu, hr, -⟩ := s.settledTake_eq n changed
  rw [ht, hu, hr]
  rfl

theorem State.settledTake_leg (s : State) (n : LegId) (changed : List Lane) :
    (s.settledTake n changed).leg n = (s.leg n).loaded s.pendingLegs[n] := by
  obtain ⟨r, u, ht, hu, hr, -, hleg⟩ := s.settledTake_eq n changed
  have hl : u.leg n = r.leg n := by rw [hu]; rfl
  have hp : u.pendingLegs = s.pendingLegs := by rw [hu, hr]
  rw [ht, State.refreshDiffers, State.leg_modLeg_same, hl, hp]
  exact hleg

theorem State.settledTake_leg_ne (s : State) {m : LegId} (h : m ≠ n) : (s.settledTake n changed).leg m = s.leg m := by
  obtain ⟨r, u, ht, hu, -, hother, -⟩ := s.settledTake_eq n changed
  have hl : u.leg m = r.leg m := by rw [hu]; rfl
  rw [ht, State.refreshDiffers, State.leg_modLeg_ne _ _ h, hl, hother m h]

theorem State.settledTake_owner (s : State) (n : LegId) (changed : List Lane) (j : Lane) :
    (s.settledTake n changed).owner j = s.owner j := by
  obtain ⟨r, u, ht, hu, hr, -⟩ := s.settledTake_eq n changed
  have h1 : (u.refreshDiffers n).owner j = (r.applyMap n).owner j := State.owner_congr (by rw [hu]; rfl) j
  have h2 : r.owner j = s.owner j := State.owner_congr (by rw [hr]) j
  rw [ht, h1, r.applyMap_owner, h2]

theorem State.settledTake_slice (s : State) {j : Lane} (h : s.owner j = some n) :
    ∃ d, (s.settledTake n changed).slice j = ((s.leg n).loaded s.pendingLegs[n]).mapSlice j d := by
  obtain ⟨r, u, ht, hu, hr, -, hleg⟩ := s.settledTake_eq n changed
  obtain ⟨d, hd⟩ := State.applyMap_slice r (n := n) (j := j) ((State.owner_congr (by rw [hr]) j).trans h)
  refine ⟨d, ?_⟩
  have h1 : (u.refreshDiffers n).slice j = (r.applyMap n).slice j := State.slice_congr (by rw [hu]; rfl) j
  rw [ht, h1, hd, ← hleg]
  rfl

/-! ### The banks (R43, R54, R163) -/

theorem State.settledTake_given {s : State} (h : ¬(s.leg n).source = some s.pendingLegs[n]) {j : Lane} (hj : s.owner j = some n) (y : Side) :
    ((s.settledTake n changed).txPath j y).Given ((s.leg n).loaded s.pendingLegs[n]).profile y := by
  rcases s.take_cases n with ht | hs | hr
  · have hg := s.take_given ht hj y
    rw [s.take_leg] at hg
    rw [State.settledTake_taken ht, Leg.loaded, if_pos (.inr ht.2)]
    exact hg
  · exact absurd hs h
  · have hg := State.installProfile_given (s.defaulted n) (n := n) (i := j) hj y
    have hl : (s.defaulted n).leg n = { s.leg n with profile := .initial, source := none, clamped := false } :=
      State.leg_modLeg_same _ _ _
    rw [State.settledTake_refused hr, s.giveDefaults_eq, Leg.loaded, if_neg fun k => k.elim hr.1 hr.2]
    rw [hl] at hg
    exact hg

theorem State.giveStarts_at (s : State) (i : Lane) (x : Side) :
    (s.giveStarts n i x).txAt (s.phys i x) x = { s.txAt (s.phys i x) x with
      start := ⟨(s.leg n).profile.start.one.get x, (s.leg n).profile.start.two.get x⟩ } :=
  s.txAt_modTx_same i x _

/-- A skipped take gives start sets to the changed lanes alone, where every lane still pairs with itself. -/
theorem State.startsGiven_path {s : State} (hs : ∀ i : Lane, s.owner i = some n → (s.slice i).pair = i) {j : Lane}
    (hj : s.owner j = some n) (y : Side) : (s.startsGiven n changed).txAt j y =
      if j ∈ changed then { s.txAt j y with start := ⟨(s.leg n).profile.start.one.get y, (s.leg n).profile.start.two.get y⟩ }
      else s.txAt j y := by
  have hphys {t : State} (ht : t.slices = s.slices) {i : Lane} (hi : s.owner i = some n) (x : Side) : t.phys i x = i := by
    rw [State.phys_congr ht]
    cases x with
    | s => rfl
    | c => exact hs i hi
  have hmem {i : Lane} (hi : i ∈ (s.legLanes n).filter fun i => changed.contains i) : s.owner i = some n :=
    (s.mem_legLanes n i).1 (List.mem_of_mem_filter hi)
  have hloop := State.onExchanges_each (P := fun t => t.slices = s.slices ∧ t.legs = s.legs) (f := fun i x u => u.giveStarts n i x)
    (lanes := (s.legLanes n).filter fun i => changed.contains i) (i := j) (x := y) (fun t => t.txAt j y)
    (fun p => { p with start := ⟨(s.leg n).profile.start.one.get y, (s.leg n).profile.start.two.get y⟩ })
    ((s.legLanes_nodup n).filter _) (fun _ _ _ _ ht => ht) (fun t ⟨ht, hl⟩ => ?_) (fun i hi x t hne ⟨ht, _⟩ => ?_) (s := s) ⟨rfl, rfl⟩
  · unfold State.startsGiven
    rw [hloop]
    simp only [List.mem_filter, List.contains_iff_mem, s.mem_legLanes, hj, true_and]
  · have hp := t.giveStarts_at (n := n) j y
    rw [hphys ht hj y, State.leg_congr hl] at hp
    exact hp
  · refine t.txAt_modTx_ne _ ?_
    rw [hphys ht (hmem hi) x]
    exact hne.symm

theorem State.settledTake_tx_skipped {s : State} (h : (s.leg n).source = some s.pendingLegs[n]) :
    (s.settledTake n changed).tx = (s.startsGiven n changed).tx := by
  rw [State.settledTake_skipped h, State.applyMap_only_slices]
  rfl

end

end Sys2Proof.Machine
end

section
/-! SUPPORT. One leg settled at the end of a load: its record and lanes, its banks and its reports (R12, R16, R36, R40, R99 to R101, R113,
R163). -/

namespace Sys2Proof.Machine

section
variable {n : LegId} {changed : List Lane}

/-! ### The record (R98, R99, R163) -/

/-- The take at the end of a load keeps every other field of the record. -/
theorem Leg.loaded_keeps (l : Leg) (page : Page) :
    l.loaded page = { l with source := (l.loaded page).source, profile := (l.loaded page).profile, clamped := (l.loaded page).clamped
                             retry := (l.loaded page).retry, differs := (l.loaded page).differs } := by
  unfold Leg.loaded
  split
  · exact l.taken_keeps page
  · rfl

theorem Leg.loaded_differs (l : Leg) (page : Page) : (l.loaded page).differs = pendingDiffers page (l.loaded page).source := by
  unfold Leg.loaded
  split <;> rfl

/-- Leg `n` enters WAITING at the end of a load: its record is taken or skipped, and its profile's enable is 1 (R163). -/
def State.Wakes (s : State) (n : LegId) : Prop := ¬s.Refuses n ∧ ((s.leg n).loaded s.pendingLegs[n]).profile.enable = true

theorem State.takeCase_ne_refused (s : State) (n : LegId) : s.takeCase n ≠ .refused ↔ ¬s.Refuses n := by
  rcases s.take_cases n with ht | hs | hr
  · rw [s.takeCase_taken ht.1 ht.2]
    exact ⟨fun _ hr => hr.2 ht.2, fun _ => by simp⟩
  · rw [s.takeCase_skipped hs]
    exact ⟨fun _ hr => hr.1 hs, fun _ => by simp⟩
  · rw [s.takeCase_refused hr.1 hr.2]
    exact ⟨fun h => absurd rfl h, fun h => absurd hr h⟩

/-! ### The leg before its reports -/

/-- The part in which a leg has been woken at the end of a load, but not reported. -/
def State.wakened (s : State) (n : LegId) (changed : List Lane) : State :=
  (((s.settledTake n changed).modLeg n fun l => { l with state := .waiting }).startLeg n).deriveOrders n

/-- The part in which a leg stays PARKED at the end of a load, and is not reported. -/
def State.silenced (s : State) (n : LegId) (changed : List Lane) : State := ((s.settledTake n changed).quietLeg n).deriveOrders n

theorem State.settleLeg_wakes {s : State} (hw : (s.leg n).width ≠ 0) (h : s.Wakes n) : s.settleLeg changed n =
    ((s.wakened n changed).queueLegState n .parked .waiting .load).reportTake n (s.takeCase n) := by
  obtain ⟨hr, he⟩ := h
  have hcase := (s.takeCase_ne_refused n).2 hr
  have hif : s.takeCase n ≠ .refused ∧ ((s.loadTake n (s.takeCase n) changed).leg n).profile.enable = true := by
    refine ⟨hcase, ?_⟩
    have hl := s.settledTake_leg n changed
    unfold State.settledTake at hl
    rw [hl]
    exact he
  unfold State.settleLeg State.loadBoundary State.wakened State.settledTake
  rw [if_neg hw]
  dsimp only
  rw [if_pos hif]
  generalize s.takeCase n = r at hcase
  cases r with
  | skipped => rfl
  | refused => exact absurd rfl hcase
  | taken => rfl

theorem State.settleLeg_stays {s : State} (hw : (s.leg n).width ≠ 0) (h : ¬s.Wakes n) : s.settleLeg changed n =
    (s.silenced n changed).reportLoadTake n (s.takeCase n) := by
  have hif : ¬(s.takeCase n ≠ .refused ∧ ((s.loadTake n (s.takeCase n) changed).leg n).profile.enable = true) := fun ⟨hc, he⟩ => by
    refine h ⟨(s.takeCase_ne_refused n).1 hc, ?_⟩
    have hl := s.settledTake_leg n changed
    unfold State.settledTake at hl
    rwa [hl] at he
  unfold State.settleLeg State.loadBoundary State.silenced State.settledTake
  rw [if_neg hw]
  dsimp only
  rw [if_neg hif]

section
variable {s : State}

theorem State.settledTake_stood (h : (s.leg n).released = ⟨false, false⟩ ∧ (s.leg n).kept = ⟨false, false⟩) :
    ((s.settledTake n changed).leg n).released = ⟨false, false⟩ ∧ ((s.settledTake n changed).leg n).kept = ⟨false, false⟩ := by
  rw [State.settledTake_leg, Leg.loaded_keeps]
  exact h

theorem State.wakened_service (s : State) (n : LegId) (changed : List Lane) :
    ((s.settledTake n changed).modLeg n fun l => { l with state := .waiting }).ServiceMoves (s.wakened n changed) :=
  (State.serviceMoves_startLeg _ n).trans (State.serviceMoves_deriveOrders _ n)

theorem State.silenced_service (s : State) (n : LegId) (changed : List Lane) :
    (s.settledTake n changed).ServiceMoves (s.silenced n changed) :=
  (State.serviceMoves_quietLeg _ n).trans (State.serviceMoves_deriveOrders _ n)

theorem State.wakened_leg (h : (s.leg n).released = ⟨false, false⟩ ∧ (s.leg n).kept = ⟨false, false⟩) :
    (s.wakened n changed).leg n = { (s.leg n).loaded s.pendingLegs[n] with state := .waiting } := by
  obtain ⟨hr, hk⟩ := State.settledTake_stood (changed := changed) h
  have hl := State.leg_modLeg_same (s.settledTake n changed) n fun l => { l with state := .waiting }
  rw [(s.wakened_service n changed).leg_eq n (by rw [hl]; exact hr) (by rw [hl]; exact hk), hl, State.settledTake_leg]

theorem State.silenced_leg (h : (s.leg n).released = ⟨false, false⟩ ∧ (s.leg n).kept = ⟨false, false⟩) :
    (s.silenced n changed).leg n = (s.leg n).loaded s.pendingLegs[n] := by
  obtain ⟨hr, hk⟩ := State.settledTake_stood (changed := changed) h
  rw [(s.silenced_service n changed).leg_eq n hr hk, State.settledTake_leg]

theorem State.settledTake_unreported (s : State) (n : LegId) (changed : List Lane) : s.Unreported (s.settledTake n changed) := by
  refine ⟨by rw [(s.settledTake_takeMoves n changed).report], fun m => ?_⟩
  by_cases hm : m = n
  · rw [hm, s.settledTake_leg, Leg.loaded_keeps]
  · rw [s.settledTake_leg_ne hm]

theorem State.wakened_unreported (s : State) (n : LegId) (changed : List Lane) : s.Unreported (s.wakened n changed) :=
  ((s.settledTake_unreported n changed).trans
    (State.modLeg_unreported _ n (fun l => { l with state := .waiting }) fun _ => rfl)).trans (s.wakened_service n changed).unreported

theorem State.silenced_unreported (s : State) (n : LegId) (changed : List Lane) : s.Unreported (s.silenced n changed) :=
  (s.settledTake_unreported n changed).trans (s.silenced_service n changed).unreported

/-! ### The lanes (R12, R16, R36, R40) -/

theorem State.settledTake_owned {j : Lane} (h : s.owner j = some n) : (s.settledTake n changed).owner j = some n :=
  (s.settledTake_owner n changed j).trans h

/-- A woken leg's lanes are in LISTEN, loaded and standing by. -/
theorem State.wakened_lane {j : Lane} (h : s.owner j = some n) (y : Side) :
    ((s.wakened n changed).exch j y).Fresh ∧ ((s.wakened n changed).exch j y).order = .standby
      ∧ ((s.wakened n changed).txPath j y).Loaded ((s.leg n).loaded s.pendingLegs[n]).profile.rate
      ∧ ((s.wakened n changed).rxPath j y).eqCode = (((s.leg n).loaded s.pendingLegs[n]).profile.equalizer.get
          ((s.leg n).loaded s.pendingLegs[n]).profile.rate).get y := by
  have hl := State.leg_modLeg_same (s.settledTake n changed) n fun l => { l with state := .waiting }
  rw [s.settledTake_leg] at hl
  have ho : ((s.settledTake n changed).modLeg n fun l => { l with state := .waiting }).owner j = some n := State.settledTake_owned h
  have hservice := s.wakened_service n changed
  unfold State.wakened at hservice ⊢
  generalize (s.settledTake n changed).modLeg n (fun l => { l with state := .waiting }) = t at hl ho hservice ⊢
  have hstart := State.serviceMoves_startLeg t n
  have hload := State.deriveOrders_loaded _ n (State.startLeg_loaded t ho y)
  have hp : (t.leg n).profile = ((s.leg n).loaded s.pendingLegs[n]).profile := by rw [hl]
  rw [State.txPath_eq_txAt hservice.lanes.slices, State.rxPath_eq_rxAt hservice.lanes.slices, ← hp]
  refine ⟨State.deriveOrders_fresh _ n (State.startLeg_fresh _ ho y), ?_, hload.1, hload.2⟩
  refine State.deriveOrders_order _ ((hstart.owner j).trans ho) ?_ y
  rw [hstart.legs n, hl]
  rfl

/-- A leg that stays PARKED has its lanes QUIET and silent. -/
theorem State.silenced_lane (hp : (s.leg n).state = .parked) {j : Lane} (h : s.owner j = some n) (y : Side) :
    (s.silenced n changed).laneState j y = .quiet ∧ ((s.silenced n changed).exch j y).order = .quiet
      ∧ ((s.silenced n changed).txPath j y).line = .quiet := by
  have ho := State.settledTake_owned (changed := changed) h
  have hquiet := State.serviceMoves_quietLeg (s.settledTake n changed) n
  have hstate : (((s.settledTake n changed).quietLeg n).leg n).state = .parked := by
    rw [hquiet.legs n, s.settledTake_leg, Leg.loaded_keeps]
    exact hp
  rw [State.txPath_eq_txAt (s.silenced_service n changed).lanes.slices]
  unfold State.silenced
  refine ⟨(State.deriveOrders_laneState _ n j y).trans (State.quietLeg_laneState _ ho y), ?_, ?_⟩
  · refine State.deriveOrders_order _ ((hquiet.owner j).trans ho) ?_ y
    rw [hstate]
    rfl
  · exact State.deriveOrders_line _ hstate (State.quietLeg_line _ ho y)

end

end

end Sys2Proof.Machine
end

section
/-! SUPPORT. What settling one leg at the end of a load reports, and what it leaves of the leg's record, banks and lanes (R43, R54, R99,
R100, R112, R163). -/

namespace Sys2Proof.Machine

section
variable {n : LegId} {changed : List Lane} {s : State}

/-! ### The reports (R100, R112, R113, R163) -/

/-- A PARKED leg that is stood down. -/
def Leg.Stood (l : Leg) : Prop := l.state = .parked ∧ l.released = ⟨false, false⟩ ∧ l.kept = ⟨false, false⟩

/-- Reports of a settled leg follow its base by conditions alone. -/
theorem State.reportLoadTake_condsMove (s : State) (n : LegId) (r : TakeResult) : s.CondsMove (s.reportLoadTake n r) := by
  cases r with
  | skipped => exact s.reportTake_condsMove n .skipped
  | refused => exact s.raiseFault_condsMove _ _ _
  | taken => exact s.reportTake_condsMove n .taken

theorem State.settleLeg_wakened_condsMove (hw : (s.leg n).width ≠ 0) (h : s.Wakes n) :
    (s.wakened n changed).CondsMove (s.settleLeg changed n) := by
  rw [State.settleLeg_wakes hw h]
  exact (State.queueEvent_condsMove _ _ _).trans (State.reportTake_condsMove _ n _)

theorem State.settleLeg_silenced_condsMove (hw : (s.leg n).width ≠ 0) (h : ¬s.Wakes n) :
    (s.silenced n changed).CondsMove (s.settleLeg changed n) := by
  rw [State.settleLeg_stays hw h]
  exact State.reportLoadTake_condsMove _ n _

theorem State.settleLeg_waking_leg (hs : (s.leg n).Stood) (hw : (s.leg n).width ≠ 0) (h : s.Wakes n) :
    (s.settleLeg changed n).leg n = { (s.leg n).loaded s.pendingLegs[n] with
      state := .waiting, conds := ((s.settleLeg changed n).leg n).conds } := by
  rw [(State.settleLeg_wakened_condsMove hw h).legs n, State.wakened_leg hs.2]

theorem State.settleLeg_staying_leg (hs : (s.leg n).Stood) (hw : (s.leg n).width ≠ 0) (h : ¬s.Wakes n) :
    (s.settleLeg changed n).leg n = { (s.leg n).loaded s.pendingLegs[n] with
      state := .parked, conds := ((s.settleLeg changed n).leg n).conds } := by
  rw [(State.settleLeg_silenced_condsMove hw h).legs n, State.silenced_leg hs.2]
  have hp : ((s.leg n).loaded s.pendingLegs[n]).state = .parked := by
    rw [Leg.loaded_keeps]
    exact hs.1
  generalize ((s.settleLeg changed n).leg n).conds = c
  generalize (s.leg n).loaded s.pendingLegs[n] = l at hp
  cases l
  cases hp
  rfl

/-- Whatever becomes of the leg, it has the record its take leaves. -/
theorem State.settleLeg_leg (hs : (s.leg n).Stood) (hw : (s.leg n).width ≠ 0) :
    (s.settleLeg changed n).leg n = { (s.leg n).loaded s.pendingLegs[n] with
        state := ((s.settleLeg changed n).leg n).state, conds := ((s.settleLeg changed n).leg n).conds }
      ∧ (s.Wakes n → ((s.settleLeg changed n).leg n).state = .waiting)
      ∧ (¬s.Wakes n → ((s.settleLeg changed n).leg n).state = .parked) := by
  by_cases h : s.Wakes n
  · have hl := State.settleLeg_waking_leg (changed := changed) hs hw h
    have hst : ((s.settleLeg changed n).leg n).state = .waiting := by rw [hl]
    rw [hst]
    exact ⟨hl, fun _ => rfl, fun k => absurd h k⟩
  · have hl := State.settleLeg_staying_leg (changed := changed) hs hw h
    have hst : ((s.settleLeg changed n).leg n).state = .parked := by rw [hl]
    rw [hst]
    exact ⟨hl, fun k => absurd k h, fun _ => rfl⟩

theorem State.notRefused_iff (s : State) (n : LegId) :
    ¬s.Refuses n ↔ (s.leg n).source = some s.pendingLegs[n] ∨ checkByteHolds s.pendingLegs[n] = true := by
  unfold State.Refuses
  rw [not_and_or, not_not, not_not]

theorem Leg.loaded_clamped {l : Leg} {page : Page} (h : l.source ≠ some page ∧ checkByteHolds page = true) :
    (l.loaded page).clamped = recordClamped page := by
  rw [Leg.loaded, if_pos (.inr h.2), Leg.taken, Leg.taking_of_taken h.1 h.2]

/-- What the settling of an existing leg reports, by what it has become. -/
theorem State.settleActs_of_width {t : State} (hw : (t.leg n).width ≠ 0) : s.settleActs t n =
    (if (t.leg n).state = .waiting then [.queues (some n) (.legState .parked .waiting .load)] else [])
      ++ if (s.leg n).source = some s.pendingLegs[n] ∨ checkByteHolds s.pendingLegs[n] = true then s.takeActs n
        else [.raises (some n) .profileBad 0] := if_neg hw

theorem State.Reports.settleLeg {s₀ : State} {acts : List ReportAct} (h : s₀.Reports s acts) (hs : (s.leg n).Stood)
    (hw : (s.leg n).width ≠ 0) :
    s₀.Reports (s.settleLeg changed n) (acts ++ s.settleActs (s.settleLeg changed n) n) := by
  obtain ⟨hl, hwakes, hstays⟩ := State.settleLeg_leg (changed := changed) hs hw
  have hwidth : ((s.settleLeg changed n).leg n).width ≠ 0 := by
    rw [hl, Leg.loaded_keeps]
    exact hw
  rw [State.settleActs_of_width hwidth]
  by_cases hk : s.Wakes n
  · rw [if_pos (hwakes hk), if_pos ((s.notRefused_iff n).1 hk.1), State.settleLeg_wakes hw hk, ← List.append_assoc]
    refine State.ReportsBeside.reportTake (State.ReportsBeside.queueLegState
      (State.ReportsBeside.unreported h (s.wakened_unreported n changed)) n .parked .waiting .load) s n fun ht => ?_
    rw [State.queueLegState, State.leg_of_queueEvent, State.wakened_leg hs.2]
    exact Leg.loaded_clamped ht
  · have hne : ((s.settleLeg changed n).leg n).state ≠ .waiting := by
      rw [hstays hk]
      simp
    have hbase := State.ReportsBeside.unreported h (s.silenced_unreported n changed)
    rw [if_neg hne, List.nil_append, State.settleLeg_stays hw hk]
    by_cases hr : s.Refuses n
    · rw [if_neg fun k => (s.notRefused_iff n).2 k hr, s.takeCase_refused hr.1 hr.2]
      exact State.ReportsBeside.raiseFault hbase 0 (ownsCode_profileBad n)
    · rw [if_pos ((s.notRefused_iff n).1 hr)]
      have ht := State.ReportsBeside.reportTake hbase s n fun ht => by
        rw [State.silenced_leg hs.2]
        exact Leg.loaded_clamped ht
      have hcase := (s.takeCase_ne_refused n).2 hr
      generalize s.takeCase n = r at ht hcase
      cases r with
      | skipped => exact ht
      | refused => exact absurd rfl hcase
      | taken => exact ht

/-- What the settling of a leg leaves of its conditions (R100, R112, R163). -/
theorem State.settleActs_condition (t : State) (hw : (t.leg n).width ≠ 0) (code : FaultCode) (b : Bool) :
    (s.settleActs t n).foldl (conditionAfter (some n) code) b =
      if code = .profileBad then
        if (s.leg n).source = some s.pendingLegs[n] ∨ checkByteHolds s.pendingLegs[n] = true then false else true
      else b := by
  have hqueue : ((if (t.leg n).state = .waiting then [ReportAct.queues (some n) (.legState .parked .waiting .load)] else []).foldl
      (conditionAfter (some n) code) b) = b := by
    split <;> rfl
  rw [State.settleActs_of_width hw, List.foldl_append, hqueue]
  by_cases hc : code = .profileBad
  · rw [if_pos hc, hc]
    split
    · next hk =>
      rw [s.takeActs_profileBad]
      by_cases hsrc : (s.leg n).source = some s.pendingLegs[n]
      · rw [if_pos hsrc]
      · rw [if_neg hsrc, if_pos (hk.resolve_left hsrc)]
    · simp [conditionAfter]
  · rw [if_neg hc]
    split
    · exact s.takeActs_conditionAfter n hc b
    · simp [conditionAfter, hc]

theorem LegConds.eq_but_profileBad {a b : LegConds} (h : ∀ c : FaultCode, c ≠ .profileBad → a.get c = b.get c) :
    a = { b with profileBad := a.profileBad } := by
  have h1 : a.retryOut = b.retryOut := h .retryOut (by simp)
  have h2 : a.legCut = b.legCut := h .legCut (by simp)
  have h3 : a.sideFail = b.sideFail := h .sideFail (by simp)
  have h4 : a.trainTimeout = b.trainTimeout := h .trainTimeout (by simp)
  have h5 : a.marginLow = b.marginLow := h .marginLow (by simp)
  cases a
  cases b
  simp_all

/-- Settling a leg changes PROFILE_BAD's condition alone. -/
theorem State.settleLeg_conds (hs : (s.leg n).Stood) (hw : (s.leg n).width ≠ 0) :
    ((s.settleLeg changed n).leg n).conds =
        { (s.leg n).conds with profileBad := ((s.settleLeg changed n).leg n).conds.profileBad }
      ∧ (s.settleLeg changed n).condition (some n) .profileBad =
        (if (s.leg n).source = some s.pendingLegs[n] ∨ checkByteHolds s.pendingLegs[n] = true then false else true) := by
  have hreports := State.Reports.settleLeg (changed := changed) (State.Reports.refl s) hs hw
  rw [List.nil_append] at hreports
  have hwidth : ((s.settleLeg changed n).leg n).width ≠ 0 := by
    rw [(State.settleLeg_leg (changed := changed) hs hw).1, Leg.loaded_keeps]
    exact hw
  have hcond (code : FaultCode) := (State.ReportsBeside.condition hreports (some n) code).trans
    (State.settleActs_condition (s := s) (s.settleLeg changed n) hwidth code (s.condition (some n) code))
  exact ⟨LegConds.eq_but_profileBad fun c hc => (hcond c).trans (if_neg hc), (hcond .profileBad).trans (if_pos rfl)⟩

end

end Sys2Proof.Machine
end

section
/-! SUPPORT. A leg settled at the end of a load, in the words of the load's end (R43, R54, R99, R163). -/

namespace Sys2Proof.Machine

section
variable {n : LegId} {changed : List Lane}

/-! ### Slices, banks and lanes of a settled leg -/

section
variable {s : State}

theorem State.settleLeg_slices (hw : (s.leg n).width ≠ 0) : (s.settleLeg changed n).slices = (s.settledTake n changed).slices := by
  by_cases h : s.Wakes n
  · obtain ⟨hs, -⟩ := (State.settleLeg_wakened_condsMove (changed := changed) hw h).fabric
    exact hs.trans (s.wakened_service n changed).lanes.slices
  · obtain ⟨hs, -⟩ := (State.settleLeg_silenced_condsMove (changed := changed) hw h).fabric
    exact hs.trans (s.silenced_service n changed).lanes.slices

theorem State.settleLeg_owner (hw : (s.leg n).width ≠ 0) (j : Lane) : (s.settleLeg changed n).owner j = s.owner j :=
  (State.owner_congr (State.settleLeg_slices hw) j).trans (s.settledTake_owner n changed j)

/-- After its take a settled leg's banks stand. -/
theorem State.settleLeg_banks (hw : (s.leg n).width ≠ 0) (k : Lane) (y : Side) :
    (s.settleLeg changed n).txAt k y = { (s.settledTake n changed).txAt k y with
      inUse := ((s.settleLeg changed n).txAt k y).inUse, line := ((s.settleLeg changed n).txAt k y).line } := by
  by_cases h : s.Wakes n
  · obtain ⟨-, htx, -⟩ := (State.settleLeg_wakened_condsMove (changed := changed) hw h).fabric
    rw [State.txAt_congr htx]
    exact (s.wakened_service n changed).banks k y
  · obtain ⟨-, htx, -⟩ := (State.settleLeg_silenced_condsMove (changed := changed) hw h).fabric
    rw [State.txAt_congr htx]
    exact (s.silenced_service n changed).banks k y

theorem State.settleLeg_mapped (hs : (s.leg n).Stood) (hw : (s.leg n).width ≠ 0) (hg : s.GroupHolds n) {j : Lane} (hj : s.owner j = some n) :
    (s.settleLeg changed n).Mapped n j := by
  obtain ⟨hl, -⟩ := State.settleLeg_leg (changed := changed) hs hw
  obtain ⟨d, hd⟩ := s.settledTake_slice (changed := changed) hj
  obtain ⟨hok, hin⟩ := hg
  refine State.mapped_of_mapSlice (d := d) ?_ ?_ ?_
  · rw [hl, Leg.loaded_keeps]
    exact hok
  · unfold State.inGroup
    rw [hl, Leg.loaded_keeps]
    exact hin j hj
  · rw [State.slice_congr (State.settleLeg_slices hw), hd, hl]
    rfl

theorem State.settleLeg_listening (hs : (s.leg n).Stood) (hw : (s.leg n).width ≠ 0) (h : s.Wakes n) : (s.settleLeg changed n).Listening n := by
  intro j y hj
  rw [State.settleLeg_owner hw] at hj
  obtain ⟨hl, -⟩ := State.settleLeg_leg (changed := changed) hs hw
  obtain ⟨hsl, htx, hrx, hex, -⟩ := (State.settleLeg_wakened_condsMove (changed := changed) hw h).fabric
  obtain ⟨h1, h2, h3, h4⟩ := State.wakened_lane (changed := changed) hj y
  have hp : ((s.settleLeg changed n).leg n).profile = ((s.leg n).loaded s.pendingLegs[n]).profile := by rw [hl]
  rw [State.exch_congr hex, State.txPath_congr htx hsl, State.rxPath_congr hrx hsl, hp]
  exact ⟨h1, h3, h4, h2⟩

theorem State.settleLeg_silent (hs : (s.leg n).Stood) (hw : (s.leg n).width ≠ 0) (h : ¬s.Wakes n) : (s.settleLeg changed n).Silent n := by
  intro j y hj
  rw [State.settleLeg_owner hw] at hj
  obtain ⟨hsl, htx, hrx, hex, -⟩ := (State.settleLeg_silenced_condsMove (changed := changed) hw h).fabric
  rw [State.laneState, State.exch_congr hex, State.txPath_congr htx hsl]
  exact State.silenced_lane hs.1 hj y

/-- What is not the settled leg's stands beside it. -/
theorem State.settleLeg_beside (hp : s.PlanOk) (changed : List Lane) : s.StandsBeside n (s.settleLeg changed n) := by
  have hturns : State.Turns False True (some n) s (s.settleLeg changed n) :=
    s.settleLeg_turns changed (covers_self n) fun _ _ _ => hp.groupClosed n
  exact (hturns.beside (hp.pairsWithin n)).1

/-- The plan stays in order, each settled leg's lanes mapped by its record. -/
theorem State.settleLeg_planOk (hp : s.PlanOk) (hs : (s.leg n).Stood) (hw : (s.leg n).width ≠ 0) : (s.settleLeg changed n).PlanOk := by
  have hb := State.settleLeg_beside (n := n) hp changed
  obtain ⟨hl, -⟩ := State.settleLeg_leg (changed := changed) hs hw
  have hgroup : ((s.settleLeg changed n).leg n).width = (s.leg n).width ∧ ((s.settleLeg changed n).leg n).first = (s.leg n).first := by
    rw [hl, Leg.loaded_keeps]
    exact ⟨rfl, rfl⟩
  refine hp.remapped (n := n) (by rw [hb.frame]) (fun m => ?_) (fun m => ?_) hb.owners hb.slices
    fun j hj => State.settleLeg_mapped hs hw (hp.groupHolds n) hj
  · by_cases hm : m = n
    · rw [hm, hgroup.1]
    · rw [hb.legs m hm]
  · by_cases hm : m = n
    · rw [hm, hgroup.2]
    · rw [hb.legs m hm]

/-! ### The banks by the case of the take (R43, R54) -/

/-- A take that is not skipped gives the leg's slices the banks of its profile. -/
theorem State.settleLeg_given (hp : s.PlanOk) (hs : (s.leg n).Stood) (hw : (s.leg n).width ≠ 0)
    (h : (s.leg n).source ≠ some s.pendingLegs[n]) : (s.settleLeg changed n).BanksGiven n := by
  intro k y hk
  obtain ⟨j, hj, rfl⟩ := (State.settleLeg_planOk (changed := changed) hp hs hw).carries hk y
  rw [State.settleLeg_owner hw] at hj
  obtain ⟨hl, -⟩ := State.settleLeg_leg (changed := changed) hs hw
  have hg := State.settledTake_given (changed := changed) h hj y
  have hb := State.settleLeg_banks (changed := changed) hw ((s.settleLeg changed n).phys j y) y
  have hphys : (s.settleLeg changed n).phys j y = (s.settledTake n changed).phys j y := State.phys_congr (State.settleLeg_slices hw) j y
  have hgiven : ((s.settleLeg changed n).txAt ((s.settleLeg changed n).phys j y) y).Given
      ((s.settleLeg changed n).leg n).profile y := by
    rw [hphys] at hb ⊢
    rw [hl]
    exact hg.withOutput hb
  exact hgiven

/-- A skipped take gives start sets to the changed lanes alone. -/
theorem State.settleLeg_skipped (hw : (s.leg n).width ≠ 0) (h : (s.leg n).source = some s.pendingLegs[n])
    (hpair : ∀ i : Lane, s.owner i = some n → (s.slice i).pair = i) {k : Lane} (hk : s.owner k = some n) (y : Side) :
    (s.settleLeg changed n).txAt k y = { s.txAt k y with
      start := if k ∈ changed then ⟨(s.leg n).profile.start.one.get y, (s.leg n).profile.start.two.get y⟩ else (s.txAt k y).start
      inUse := ((s.settleLeg changed n).txAt k y).inUse, line := ((s.settleLeg changed n).txAt k y).line } := by
  have hb := State.settleLeg_banks (changed := changed) hw k y
  have ht : (s.settledTake n changed).txAt k y = (s.startsGiven n changed).txAt k y :=
    State.txAt_congr (State.settledTake_tx_skipped h) k y
  rw [ht, State.startsGiven_path hpair hk y] at hb
  rw [hb]
  split <;> rfl

end

/-! ### A leg that waits to be settled -/

/-- What leg `n` is like in `u` before it is settled, at the end of a load from `s`. -/
structure State.ReadyFor (s : State) (changed : List Lane) (n : LegId) (u : State) : Prop where
  leg : u.leg n = (s.leg n).plannedBy s.pendingHeader n
  pages : u.pendingLegs = s.pendingLegs
  plan : u.PlanOk
  pairs : ∀ i : Lane, u.owner i = some n → (u.slice i).pair = i
  paths : ∀ (k : Lane) (y : Side), u.owner k = some n →
    u.txAt k y = if k ∈ changed then (s.txAt k y).forget else s.txAt k y
  stays : s.PlanOk → ∀ k : Lane, u.owner k = some n →
    (k ∈ changed ↔ ¬((u.leg n).width = (s.leg n).width ∧ (u.leg n).first = (s.leg n).first))

section
variable {s u : State}

theorem State.ReadyFor.stood (h : s.ReadyFor changed n u) : (u.leg n).Stood := by
  rw [h.leg]
  exact ⟨rfl, rfl, rfl⟩

theorem State.ReadyFor.source (h : s.ReadyFor changed n u) : (u.leg n).source = (s.leg n).source := by rw [h.leg]; rfl

/-- The banks of a leg whose take is skipped (R43, R54). -/
theorem State.ReadyFor.skippedBanks (h : s.ReadyFor changed n u) (hs : s.PlanOk) (hw : (u.leg n).width ≠ 0)
    (hsrc : (s.leg n).source = some s.pendingLegs[n]) :
    if ((u.settleLeg changed n).leg n).width = (s.leg n).width ∧ ((u.settleLeg changed n).leg n).first = (s.leg n).first then
      (u.settleLeg changed n).BanksKept s n
    else (u.settleLeg changed n).BanksGiven n := by
  obtain ⟨hl, -⟩ := State.settleLeg_leg (changed := changed) h.stood hw
  have hskip : (u.leg n).source = some u.pendingLegs[n] := by
    rw [h.source, hsrc]
    simp only [h.pages]
  have hgroup : ((u.settleLeg changed n).leg n).width = (u.leg n).width ∧ ((u.settleLeg changed n).leg n).first = (u.leg n).first
      ∧ ((u.settleLeg changed n).leg n).profile = (u.leg n).profile := by
    rw [hl, Leg.loaded, if_pos (.inl hskip), Leg.taken, Leg.taking_of_not_taken fun k => k.1 hskip]
    exact ⟨rfl, rfl, rfl⟩
  obtain ⟨hwidth, hfirst, hprofile⟩ := hgroup
  have hpath {k : Lane} (hk : u.owner k = some n) (y : Side) := State.settleLeg_skipped (changed := changed) hw hskip h.pairs hk y
  have hstays {k : Lane} (hk : u.owner k = some n) := h.stays hs k hk
  rw [hwidth, hfirst]
  split
  · next hsame =>
    intro k y hk
    rw [State.settleLeg_owner hw] at hk
    have hnot : k ∉ changed := fun hmem => (hstays hk).1 hmem hsame
    have hp := hpath hk y
    rw [h.paths k y hk, if_neg hnot, if_neg hnot] at hp
    have hbanks : (s.txAt k y).start = ((u.settleLeg changed n).txAt k y).start
        ∧ (s.txAt k y).learned = ((u.settleLeg changed n).txAt k y).learned
        ∧ (s.txAt k y).learnedValid = ((u.settleLeg changed n).txAt k y).learnedValid := by
      rw [hp]
      exact ⟨rfl, rfl, rfl⟩
    exact hbanks
  · next hother =>
    intro k y hk
    rw [State.settleLeg_owner hw] at hk
    have hmem : k ∈ changed := (hstays hk).2 hother
    have hp := hpath hk y
    rw [h.paths k y hk, if_pos hmem, if_pos hmem] at hp
    have hbanks : ((u.settleLeg changed n).txAt k y).Given ((u.settleLeg changed n).leg n).profile y := by
      rw [hp, hprofile]
      exact ⟨rfl, fun r => by cases r <;> rfl⟩
    exact hbanks

theorem Leg.loaded_skipped {l : Leg} {page : Page} (h : l.source = some page) :
    l.loaded page = { l with differs := pendingDiffers page l.source } := by
  rw [Leg.loaded, if_pos (.inl h), Leg.taken, Leg.taking_of_not_taken fun k => k.1 h]

theorem Leg.loaded_taken {l : Leg} {page : Page} (h : l.source ≠ some page) (hc : checkByteHolds page = true) :
    l.loaded page = { l with
      source := some page, profile := profileOf page, clamped := recordClamped page
      retry := if (profileOf page).retryLimit < 15 then min l.retry (profileOf page).retryLimit else l.retry
      differs := pendingDiffers page (some page) } := by
  rw [Leg.loaded, if_pos (.inr hc), Leg.taken, Leg.taking_of_taken h hc]

theorem Leg.loaded_refused {l : Leg} {page : Page} (h : l.source ≠ some page) (hc : ¬checkByteHolds page = true) :
    l.loaded page = { l with profile := .initial, source := none, clamped := false, differs := pendingDiffers page none } := by
  rw [Leg.loaded, if_neg fun k => k.elim h hc]

/-- A leg ready for it is settled by its record (R43, R54, R99, R163). -/
theorem State.ReadyFor.settled (h : s.ReadyFor changed n u) (hs : s.PlanOk) (hw : (u.leg n).width ≠ 0) :
    s.SettledByLoad (u.settleLeg changed n) n := by
  obtain ⟨hl, hwakes, hstays⟩ := State.settleLeg_leg (changed := changed) h.stood hw
  obtain ⟨hconds, hbad⟩ := State.settleLeg_conds (changed := changed) h.stood hw
  have hpage : u.pendingLegs[n] = s.pendingLegs[n] := by simp only [h.pages]
  have hgiven := State.settleLeg_given (changed := changed) h.plan h.stood hw
  have hskipped := h.skippedBanks hs hw
  have hmapped {j : Lane} (hj : u.owner j = some n) := State.settleLeg_mapped (changed := changed) h.stood hw (h.plan.groupHolds n) hj
  have hlistening := State.settleLeg_listening (changed := changed) h.stood hw
  have hsilent := State.settleLeg_silent (changed := changed) h.stood hw
  have howner := State.settleLeg_owner (s := u) (changed := changed) hw
  have hwake : u.Wakes n ↔ ((s.leg n).source = some s.pendingLegs[n] ∨ checkByteHolds s.pendingLegs[n] = true)
      ∧ ((u.settleLeg changed n).leg n).profile.enable = true := by
    unfold State.Wakes
    rw [u.notRefused_iff, h.source, hpage, hl, hpage]
  have hstate (hk : (s.leg n).source = some s.pendingLegs[n] ∨ checkByteHolds s.pendingLegs[n] = true) :
      ((u.settleLeg changed n).leg n).state =
        (if ((u.settleLeg changed n).leg n).profile.enable then .waiting else .parked) := by
    split
    · next he => exact hwakes (hwake.2 ⟨hk, he⟩)
    · next he => exact hstays fun k => he (hwake.1 k).2
  rw [h.source, hpage] at hbad hgiven
  rw [hpage, h.leg] at hl
  rw [h.leg] at hconds
  generalize u.settleLeg changed n = v at *
  refine ⟨?_, ?_, ?_, ?_, fun j hj => hmapped ((howner j).symm.trans hj), ?_⟩
  · by_cases hsrc : (s.leg n).source = some s.pendingLegs[n]
    · rw [if_pos hsrc]
      rw [if_pos (.inl hsrc)] at hbad
      rw [Leg.loaded_skipped (l := Leg.plannedBy s.pendingHeader n (s.leg n)) hsrc] at hl
      exact ⟨by rw [hl]; rfl, by rw [hl]; rfl, by rw [hl]; rfl, hstate (.inl hsrc), hbad, hskipped hsrc⟩
    · rw [if_neg hsrc]
      by_cases hck : checkByteHolds s.pendingLegs[n] = true
      · rw [if_pos hck]
        rw [if_pos (.inr hck)] at hbad
        rw [Leg.loaded_taken (l := Leg.plannedBy s.pendingHeader n (s.leg n)) hsrc hck] at hl
        exact ⟨by rw [hl], by rw [hl], by rw [hl], hstate (.inr hck), hbad, hgiven hsrc⟩
      · rw [if_neg hck]
        rw [if_neg fun k => k.elim hsrc hck] at hbad
        rw [Leg.loaded_refused (l := Leg.plannedBy s.pendingHeader n (s.leg n)) hsrc hck] at hl
        refine ⟨by rw [hl]; rfl, by rw [hl], by rw [hl], hstays fun k => ?_, hbad, hgiven hsrc⟩
        exact (hwake.1 k).1.elim hsrc hck
  · unfold State.RetryTaken
    by_cases hsrc : (s.leg n).source = some s.pendingLegs[n]
    · rw [if_neg fun k => k.1 hsrc, hl, Leg.loaded_skipped (l := Leg.plannedBy s.pendingHeader n (s.leg n)) hsrc]
      rfl
    · by_cases hck : checkByteHolds s.pendingLegs[n] = true
      · rw [Leg.loaded_taken (l := Leg.plannedBy s.pendingHeader n (s.leg n)) hsrc hck] at hl
        have hprofile : (v.leg n).profile = profileOf s.pendingLegs[n] := by rw [hl]
        have hretry : (v.leg n).retry = if (profileOf s.pendingLegs[n]).retryLimit < 15 then
            min (s.leg n).retry (profileOf s.pendingLegs[n]).retryLimit else (s.leg n).retry := by
          rw [hl]
          rfl
        rw [hretry, hprofile]
        exact if_congr ⟨fun k => ⟨hsrc, hck, k⟩, fun k => k.2.2⟩ rfl rfl
      · rw [if_neg fun k => hck k.2.1, hl, Leg.loaded_refused (l := Leg.plannedBy s.pendingHeader n (s.leg n)) hsrc hck]
        rfl
  · rw [hl]
    simp [Leg.loaded_differs, pendingDiffers]
  · rw [hconds, Leg.loaded_keeps] at hl
    rw [hl]
    rfl
  · by_cases hk : u.Wakes n
    · rw [if_pos (hwakes hk)]
      exact hlistening hk
    · rw [if_neg (by rw [hstays hk]; simp)]
      exact hsilent hk

end

end

end Sys2Proof.Machine
end

section
/-! SUPPORT. The end of a load with a valid plan: the plan in force, and the legs settled one after the other (R4, R43, R163). -/

namespace Sys2Proof.Machine

/-! ### The plan in force, before the legs are settled -/

/-- The lanes whose learned sets lapse: those that no leg owns, or that another group holds than before (R43). -/
def State.changedLanes (s : State) : List Lane :=
  allLanes.filter fun j => (s.closeLoad .running).installPlan.owner j == none
    || s.holder j != (s.closeLoad .running).installPlan.holder j

/-- The part with its plan in force and the learned sets lapsed. -/
def State.replanned (s : State) : State :=
  (s.closeLoad .running).installPlan.onExchanges s.changedLanes fun i x v => v.forgetLearned i x

/-- The part before its legs are settled (R163). -/
def State.planned (s : State) : State := s.replanned.endCondition none .planBad

theorem State.endRunning_eq (s : State) : s.endRunning = (allLegs.foldl (State.settleLeg s.changedLanes) s.planned).countLoad := rfl

/-- What the part is like before its legs are settled. -/
structure State.Planned (s t : State) : Prop where
  frame : t = { s with
    head := .running, slices := t.slices, tx := t.tx, legs := t.legs, report := t.report
    agent := { s.agent with load := none, records := s.agent.records.map FailureRecord.hold } }
  legs : ∀ m : LegId, t.leg m = (s.leg m).plannedBy s.pendingHeader m
  pairs : t.PairsSelf
  owners : ∀ (j : Lane) (n : LegId), t.owner j = some n ↔ DealtTo s.pendingHeader n j
  paths : ∀ (k : Lane) (y : Side), t.txAt k y = if k ∈ s.changedLanes then (s.txAt k y).forget else s.txAt k y

theorem State.installPlan_pairsSelf (s : State) : s.installPlan.PairsSelf := fun j => by
  rw [s.installPlan_slice]
  rfl

theorem State.installPlan_owner_iff (s : State) (j : Lane) (n : LegId) :
    s.installPlan.owner j = some n ↔ DealtTo s.pendingHeader n j := by
  rw [State.owner, s.installPlan_slice]
  exact s.plannedOwner_iff j n

theorem State.replanned_frame (s : State) : s.replanned = { s with
    head := .running, slices := s.replanned.slices, tx := s.replanned.tx, legs := s.replanned.legs
    agent := { s.agent with load := none, records := s.agent.records.map FailureRecord.hold } }
      ∧ s.replanned.slices = (s.closeLoad .running).installPlan.slices
      ∧ s.replanned.legs = (s.closeLoad .running).installPlan.legs := by
  have hf := (s.closeLoad .running).installPlan.forgetAll_only s.changedLanes
  have hi := (s.closeLoad .running).installPlan_frame
  unfold State.replanned
  generalize (s.closeLoad .running).installPlan.onExchanges s.changedLanes (fun i x v => v.forgetLearned i x) = t at hf
  generalize (s.closeLoad .running).installPlan = u at hf hi ⊢
  refine ⟨?_, by rw [hf], by rw [hf]⟩
  rw [hf, hi]
  rfl

theorem State.planned_frame (s : State) : s.planned = { s with
    head := .running, slices := s.planned.slices, tx := s.planned.tx, legs := s.planned.legs, report := s.planned.report
    agent := { s.agent with load := none, records := s.agent.records.map FailureRecord.hold } } := by
  obtain ⟨hframe, -, -⟩ := s.replanned_frame
  have hends := s.replanned.endCondition_moves none .planBad
  unfold State.ReportMoves at hends
  unfold State.planned
  generalize s.replanned.endCondition none .planBad = t at hends ⊢
  generalize s.replanned = r at hframe hends
  have hslices : t.slices = r.slices := by rw [hends]
  have htx : t.tx = r.tx := by rw [hends]
  rw [hslices, htx]
  refine hends.trans ?_
  rw [hframe]

theorem State.planned_spec (s : State) : s.Planned s.planned := by
  obtain ⟨hframe, hslices, hlegs⟩ := s.replanned_frame
  have hends := s.replanned.endCondition_moves none .planBad
  unfold State.ReportMoves at hends
  have hl : s.planned.legs = s.replanned.legs := s.replanned.endCondition_head_legs .planBad
  have hs : s.planned.slices = (s.closeLoad .running).installPlan.slices := by
    rw [← hslices]
    unfold State.planned
    rw [hends]
  have htx : s.planned.tx = s.replanned.tx := by
    unfold State.planned
    rw [hends]
  refine ⟨State.planned_frame s, fun m => ?_, fun j => ?_, fun j n => ?_, fun k y => ?_⟩
  · rw [State.leg_congr (hl.trans hlegs)]
    exact (s.closeLoad .running).installPlan_leg m
  · rw [State.slice_congr hs]
    exact State.installPlan_pairsSelf _ j
  · rw [State.owner_congr hs]
    exact (s.closeLoad .running).installPlan_owner_iff j n
  · have hpath := State.forgetAll_path (State.installPlan_pairsSelf (s.closeLoad .running)) (lanes := s.changedLanes)
      (allLanes_nodup.filter _) k y
    have hsame : (s.closeLoad .running).installPlan.txAt k y = s.txAt k y := by
      rw [State.installPlan_frame]
      rfl
    rw [State.txAt_congr htx]
    unfold State.replanned
    rw [hpath, hsame]

/-- The plan taken into force reports the end of PLAN_BAD. -/
theorem State.Reports.planned {s₀ s : State} {acts : List ReportAct} (h : s₀.Reports s acts) :
    s₀.Reports s.planned (acts ++ [.ends none .planBad]) := by
  obtain ⟨hframe, -, hlegs⟩ := s.replanned_frame
  refine State.ReportsBeside.endCondition (State.ReportsBeside.unreported h ⟨by rw [hframe], fun m => ?_⟩) ownsCode_planBad
  rw [State.leg_congr hlegs, (s.closeLoad .running).installPlan_leg m]
  rfl

section
variable {s t : State}

theorem State.Planned.head (h : s.Planned t) : t.head = .running := by rw [h.frame]

theorem State.Planned.inGroup_iff (h : s.Planned t) (n : LegId) (j : Lane) : t.inGroup n j ↔ DealtTo s.pendingHeader n j := by
  unfold State.inGroup
  rw [h.legs]
  exact s.plannedLegs_inGroup n j

/-- The plan in force is in order (R4). -/
theorem State.Planned.planOk (h : s.Planned t) (hv : planValid s.pendingHeader = true) : t.PlanOk := by
  refine ⟨fun m => ?_, fun j n => ?_, fun j => by rw [h.pairs j], fun j _ => h.pairs j, fun j k e => ?_, fun j n m hn hm => ?_⟩
  · rw [h.legs]
    exact Leg.plannedBy_groupOk hv m _
  · rw [h.owners, h.inGroup_iff]
    exact ⟨fun k => ⟨h.head, k⟩, fun k => k.2⟩
  · rwa [h.pairs, h.pairs] at e
  · exact ((h.inGroup_iff n j).1 hn).unique ((h.inGroup_iff m j).1 hm)

theorem State.mem_changedLanes (h : s.Planned t) (j : Lane) : j ∈ s.changedLanes ↔ t.owner j = none ∨ s.holder j ≠ t.holder j := by
  have howner : (s.closeLoad .running).installPlan.owner j = t.owner j := by
    refine Option.ext fun n => ?_
    rw [State.installPlan_owner_iff, h.owners]
    rfl
  have hholder : (s.closeLoad .running).installPlan.holder j = t.holder j := by
    have hl (m : LegId) : (s.closeLoad .running).installPlan.leg m = t.leg m :=
      ((s.closeLoad .running).installPlan_leg m).trans (h.legs m).symm
    unfold State.holder
    simp only [hl]
  unfold State.changedLanes
  rw [List.mem_filter, howner, hholder]
  simp [mem_allLanes]

/-- Every leg is ready to be settled. -/
theorem State.Planned.ready (h : s.Planned t) (hv : planValid s.pendingHeader = true) (n : LegId) : s.ReadyFor s.changedLanes n t := by
  refine ⟨h.legs n, by rw [h.frame], h.planOk hv, fun i _ => h.pairs i, fun k y _ => h.paths k y, fun hs k hk => ?_⟩
  have hg : t.inGroup n k := (h.inGroup_iff n k).2 ((h.owners k n).1 hk)
  have ht : t.holder k = some (n, (t.leg n).first, (t.leg n).width) :=
    State.holder_of_inGroup (fun a b j => (h.planOk hv).2.2.2.2.2 j a b) hg
  rw [State.mem_changedLanes h, ht]
  simp only [hk, reduceCtorEq, false_or]
  rw [not_iff_not]
  constructor
  · intro he
    obtain ⟨-, ho⟩ := State.inGroup_of_holder he
    simp only [Prod.mk.injEq, true_and] at ho
    exact ⟨ho.2, ho.1⟩
  · intro ⟨hwidth, hfirst⟩
    rw [hwidth, hfirst]
    refine State.holder_of_inGroup (fun a b j => hs.2.2.2.2.2 j a b) ?_
    exact (State.inGroup_congr hwidth hfirst k).1 hg

end

end Sys2Proof.Machine
end

section
/-! SUPPORT. The legs settled one after the other at the end of a load: each is settled beside the others (R43, R54, R99, R163). -/

namespace Sys2Proof.Machine

/-! ### What stands beside a series of legs -/

/-- Whatever is none of the legs `ms`' stands in `t` as in `s`. -/
structure State.StandsOff (ms : List LegId) (s t : State) : Prop where
  legs : ∀ m : LegId, m ∉ ms → t.leg m = s.leg m
  owners : ∀ j : Lane, t.owner j = s.owner j
  slices : ∀ j : Lane, (∀ n ∈ ms, s.owner j ≠ some n) → t.slice j = s.slice j
  exchs : ∀ (j : Lane) (y : Side), (∀ n ∈ ms, s.owner j ≠ some n) → t.exch j y = s.exch j y
  txs : ∀ (j : Lane) (y : Side), (∀ n ∈ ms, s.owner j ≠ some n) → t.txAt j y = s.txAt j y
  rxs : ∀ (j : Lane) (y : Side), (∀ n ∈ ms, s.owner j ≠ some n) → t.rxAt j y = s.rxAt j y
  frame : t = { s with
    now := t.now, freeCount := t.freeCount, slices := t.slices, tx := t.tx, rx := t.rx, ex := t.ex, legs := t.legs
    report := t.report
    agent := { s.agent with records := t.agent.records, spacing := t.agent.spacing, skipped := t.agent.skipped } }
  report : t.report = { s.report with
    faults := t.report.faults, listFull := t.report.listFull, events := t.report.events, overrun := t.report.overrun
    nextSeq := t.report.nextSeq, attention := t.report.attention }

theorem State.StandsOff.refl (ms : List LegId) (s : State) : s.StandsOff ms s :=
  ⟨fun _ _ => rfl, fun _ => rfl, fun _ _ => rfl, fun _ _ _ => rfl, fun _ _ _ => rfl, fun _ _ _ => rfl, rfl, rfl⟩

section
variable {s t u : State} {n : LegId} {ms : List LegId}

theorem State.StandsBeside.off (h : s.StandsBeside n t) (k : t.StandsOff ms u) : s.StandsOff (n :: ms) u := by
  have split {j : Lane} (hj : ∀ m ∈ n :: ms, s.owner j ≠ some m) : s.owner j ≠ some n ∧ ∀ m ∈ ms, t.owner j ≠ some m :=
    ⟨hj n List.mem_cons_self, fun m hm => by
      rw [h.owners]
      exact hj m (List.mem_cons_of_mem n hm)⟩
  refine ⟨fun m hm => ?_, fun j => (k.owners j).trans (h.owners j),
    fun j hj => (k.slices j (split hj).2).trans (h.slices j (split hj).1),
    fun j y hj => (k.exchs j y (split hj).2).trans (h.exchs j y (split hj).1),
    fun j y hj => (k.txs j y (split hj).2).trans (h.txs j y (split hj).1),
    fun j y hj => (k.rxs j y (split hj).2).trans (h.rxs j y (split hj).1), ?_, ?_⟩
  · rw [List.mem_cons, not_or] at hm
    exact (k.legs m hm.2).trans (h.legs m hm.1)
  · rw [k.frame, h.frame]
  · rw [k.report, h.report]

theorem State.StandsOff.pages (h : s.StandsOff ms t) : t.pendingLegs = s.pendingLegs := by rw [h.frame]

/-- What another leg owns is none of the legs `ms`'. -/
theorem State.owned_off {j : Lane} (hj : s.owner j = some n) (hn : n ∉ ms) : ∀ m ∈ ms, s.owner j ≠ some m := fun m hm k => by
  rw [hj] at k
  exact hn (Option.some.inj k ▸ hm)

theorem State.StandsOff.phys (h : s.StandsOff ms t) {j : Lane} (hj : s.owner j = some n) (hn : n ∉ ms) (y : Side) :
    t.phys j y = s.phys j y := by
  cases y with
  | s => rfl
  | c => exact congrArg Slice.pair (h.slices j (State.owned_off hj hn))

/-- A leg that has been settled stays so while others are. -/
theorem State.SettledByLoad.off {p : State} (h : p.SettledByLoad s n) (k : s.StandsOff ms t) (hn : n ∉ ms) (hp : s.PlanOk) :
    p.SettledByLoad t n := by
  have hleg := k.legs n hn
  have htx (j : Lane) (y : Side) (hj : s.owner j = some n) : t.txAt j y = s.txAt j y := k.txs j y (State.owned_off hj hn)
  have hex (j : Lane) (y : Side) (hj : s.owner j = some n) : t.exch j y = s.exch j y := k.exchs j y (State.owned_off hj hn)
  have hphys (j : Lane) (y : Side) (hj : s.owner j = some n) := k.phys hj hn y
  have hin (j : Lane) (y : Side) (hj : s.owner j = some n) : s.owner (s.phys j y) = some n := (hp.pairsWithin n).phys hj y
  have htp (j : Lane) (y : Side) (hj : s.owner j = some n) : t.txPath j y = s.txPath j y := by
    show t.txAt (t.phys j y) y = s.txAt (s.phys j y) y
    rw [hphys j y hj, htx _ y (hin j y hj)]
  have hrp (j : Lane) (y : Side) (hj : s.owner j = some n) : t.rxPath j y = s.rxPath j y := by
    show t.rxAt (t.phys j y) y = s.rxAt (s.phys j y) y
    rw [hphys j y hj, k.rxs _ y (State.owned_off (hin j y hj) hn)]
  have hcond : t.condition (some n) .profileBad = s.condition (some n) .profileBad := congrArg (fun l : Leg => l.conds.get .profileBad) hleg
  have hkept : t.BanksKept p n ↔ s.BanksKept p n := forall₂_congr fun j y => by
    rw [k.owners]
    refine imp_congr_right fun hj => ?_
    have := htx j y hj
    change t.tx[j].get y = s.tx[j].get y at this
    rw [this]
  have hgiven : t.BanksGiven n ↔ s.BanksGiven n := forall₂_congr fun j y => by
    rw [k.owners, hleg]
    refine imp_congr_right fun hj => ?_
    have := htx j y hj
    change t.tx[j].get y = s.tx[j].get y at this
    rw [this]
  have hmapped : (∀ j : Lane, t.owner j = some n → t.Mapped n j) ↔ ∀ j : Lane, s.owner j = some n → s.Mapped n j :=
    forall_congr' fun j => by
      rw [k.owners]
      refine imp_congr_right fun hj => ?_
      unfold State.Mapped
      rw [hleg, k.slices j (State.owned_off hj hn)]
  have hlistening : t.Listening n ↔ s.Listening n := forall₂_congr fun j y => by
    rw [k.owners, hleg]
    refine imp_congr_right fun hj => ?_
    rw [hex j y hj, htp j y hj, hrp j y hj]
  have hsilent : t.Silent n ↔ s.Silent n := forall₂_congr fun j y => by
    rw [k.owners, State.laneState, State.laneState]
    refine imp_congr_right fun hj => ?_
    rw [hex j y hj, htp j y hj]
  unfold State.SettledByLoad State.RetryTaken at h ⊢
  simpa only [hleg, hcond, hkept, hgiven, hmapped, hlistening, hsilent] using h

end

/-! ### The series -/

section
variable {s t : State} {n : LegId} {changed : List Lane}

/-- The legs of `ms` settled in their order. -/
def State.settled (s : State) (changed : List Lane) (ms : List LegId) : State := ms.foldl (State.settleLeg changed) s

theorem State.settleLeg_absent (hw : (s.leg n).width = 0) : s.settleLeg changed n = s.endCondition (some n) .profileBad := if_pos hw

/-- The plan stays in order over the settling of any leg. -/
theorem State.settleLeg_planKept (hp : s.PlanOk) (hs : (s.leg n).Stood) : (s.settleLeg changed n).PlanOk := by
  by_cases hw : (s.leg n).width = 0
  · have hc := s.endCondition_condsMove (some n) .profileBad
    rw [State.settleLeg_absent hw]
    exact hp.congr hc.fabric.1 (by rw [hc.moves]) (fun m => by rw [hc.legs m]) fun m => by rw [hc.legs m]
  · exact State.settleLeg_planOk hp hs hw

/-- What the settling of any leg reports. -/
theorem State.Reports.settleAny {s₀ : State} {acts : List ReportAct} (h : s₀.Reports s acts) (hs : (s.leg n).Stood) :
    s₀.Reports (s.settleLeg changed n) (acts ++ s.settleActs (s.settleLeg changed n) n) := by
  by_cases hw : (s.leg n).width = 0
  · have hc := s.endCondition_condsMove (some n) .profileBad
    have hwidth : ((s.settleLeg changed n).leg n).width = 0 := by
      rw [State.settleLeg_absent hw, hc.legs n]
      exact hw
    rw [State.settleActs, if_pos hwidth, State.settleLeg_absent hw]
    exact State.ReportsBeside.endCondition h (ownsCode_profileBad n)
  · exact State.Reports.settleLeg h hs hw

/-- An eye path that is IDLE stays so. -/
theorem State.settleLeg_eyeIdle {k : Lane} {y : Side} (h : (s.rxAt k y).eye.phase = .idle) :
    ((s.settleLeg changed n).rxAt k y).eye.phase = .idle := by
  have ht : (s.settledTake n changed).rxAt k y = s.rxAt k y := by
    have hm := s.settledTake_takeMoves n changed
    unfold State.TakeMoves at hm
    exact State.rxAt_congr (by rw [hm]) k y
  by_cases hw : (s.leg n).width = 0
  · rw [State.settleLeg_absent hw]
    obtain ⟨-, -, hrx, -⟩ := (s.endCondition_condsMove (some n) .profileBad).fabric
    rwa [State.rxAt_congr hrx]
  · by_cases hk : s.Wakes n
    · obtain ⟨-, -, hrx, -⟩ := (State.settleLeg_wakened_condsMove (changed := changed) hw hk).fabric
      rw [State.rxAt_congr hrx]
      unfold State.wakened
      rw [State.rxAt_congr (State.deriveOrders_rx _ n)]
      refine State.startLeg_eyeIdle ?_
      rw [State.rxAt_congr (State.rx_modLeg _ n _), ht]
      exact h
    · obtain ⟨-, -, hrx, -⟩ := (State.settleLeg_silenced_condsMove (changed := changed) hw hk).fabric
      rw [State.rxAt_congr hrx]
      unfold State.silenced
      rw [State.rxAt_congr (State.deriveOrders_rx _ n)]
      rcases (s.settledTake n changed).quietLeg_rx n k y with e | e
      · rw [e, ht]
        exact h
      · rw [e]
        rfl

theorem State.settled_eyeIdle {k : Lane} {y : Side} (ms : List LegId) (h : (s.rxAt k y).eye.phase = .idle) :
    ((s.settled changed ms).rxAt k y).eye.phase = .idle := by
  induction ms generalizing s with
  | nil => exact h
  | cons n rest ih => exact ih (State.settleLeg_eyeIdle h)

/-- What is reported depends on the record, its pending one and what the leg has become. -/
theorem State.settleActs_congr {p q u v : State} {m : LegId} (hl : (p.leg m).source = (q.leg m).source) (hp : p.pendingLegs = q.pendingLegs)
    (hu : u.leg m = v.leg m) : p.settleActs u m = q.settleActs v m := by
  unfold State.settleActs State.takeActs
  simp only [hl, hp, hu]

/-- A series of legs settled: the plan stays in order, what is none of theirs stands, and each has been reported. -/
theorem State.settled_spec {ms : List LegId} (hn : ms.Nodup) {s₀ t : State} {acts : List ReportAct} (hr : s₀.Reports t acts) (hp : t.PlanOk)
    (hs : ∀ m ∈ ms, (t.leg m).Stood) :
    (t.settled changed ms).PlanOk ∧ t.StandsOff ms (t.settled changed ms)
      ∧ s₀.Reports (t.settled changed ms) (acts ++ ms.flatMap (t.settleActs (t.settled changed ms))) := by
  induction ms generalizing t acts with
  | nil =>
    refine ⟨hp, .refl [] t, ?_⟩
    rw [List.flatMap_nil, List.append_nil]
    exact hr
  | cons n rest ih =>
    obtain ⟨hnot, hrest⟩ := List.nodup_cons.1 hn
    have hstood := hs n List.mem_cons_self
    have hbeside := State.settleLeg_beside (n := n) hp changed
    obtain ⟨hplan, hoff, hreports⟩ := ih hrest (State.Reports.settleAny (changed := changed) hr hstood)
      (State.settleLeg_planKept hp hstood) fun m hm => by
        rw [hbeside.legs m fun k => hnot (k ▸ hm)]
        exact hs m (List.mem_cons_of_mem n hm)
    have hset : (t.settleLeg changed n).settled changed rest = t.settled changed (n :: rest) := rfl
    rw [hset] at hplan hoff hreports
    refine ⟨hplan, hbeside.off hoff, ?_⟩
    have hfirst : t.settleActs (t.settleLeg changed n) n = t.settleActs (t.settled changed (n :: rest)) n :=
      State.settleActs_congr rfl rfl (hoff.legs n hnot).symm
    have hothers : rest.flatMap ((t.settleLeg changed n).settleActs (t.settled changed (n :: rest)))
        = rest.flatMap (t.settleActs (t.settled changed (n :: rest))) :=
      List.flatMap_congr fun m hm => State.settleActs_congr (by rw [hbeside.legs m fun k => hnot (k ▸ hm)]) (by rw [hbeside.frame]) rfl
    rwa [hfirst, hothers, List.append_assoc, ← List.flatMap_cons] at hreports

/-- A leg ready for it is ready still when others have been settled. -/
theorem State.ReadyFor.off {ms : List LegId} {p : State} (h : p.ReadyFor changed n s) (k : s.StandsOff ms t) (hn : n ∉ ms) (hp : t.PlanOk) :
    p.ReadyFor changed n t := by
  have hleg := k.legs n hn
  refine ⟨hleg.trans h.leg, k.pages.trans h.pages, hp, fun i hi => ?_, fun j y hj => ?_, fun hs j hj => ?_⟩
  · rw [k.owners] at hi
    rw [k.slices i (State.owned_off hi hn)]
    exact h.pairs i hi
  · rw [k.owners] at hj
    rw [k.txs j y (State.owned_off hj hn)]
    exact h.paths j y hj
  · rw [k.owners] at hj
    rw [hleg]
    exact h.stays hs j hj

end

end Sys2Proof.Machine
end

section
/-! SUPPORT. The end of a load in RUNNING: the plan in force, each existing leg settled by its record, and no other leg, lane or path
touched (R4, R5, R43, R112, R163). -/

namespace Sys2Proof.Machine

/-- The part `v` after a load from `s` has ended in RUNNING, but for the count of loads. -/
structure State.EndsRunning (s v : State) : Prop where
  frame : v = { s with
    now := v.now, freeCount := v.freeCount, head := .running, slices := v.slices, tx := v.tx, rx := v.rx, ex := v.ex, legs := v.legs
    report := v.report
    agent := { s.agent with load := none, records := v.agent.records, spacing := v.agent.spacing, skipped := v.agent.skipped } }
  planBad : v.report.planBad = false
  plan : v.PlanOk
  groups : ∀ m : LegId, (v.leg m).width = headerWidth s.pendingHeader m
    ∧ (v.leg m).first = if headerWidth s.pendingHeader m = 0 then 0 else dealtFirst s.pendingHeader m
  states : ∀ m : LegId, (v.leg m).state = .parked ∨ (v.leg m).state = .waiting
  settled : s.PlanOk → ∀ m : LegId, headerWidth s.pendingHeader m ≠ 0 → s.SettledByLoad v m
  absent : ∀ m : LegId, headerWidth s.pendingHeader m = 0 →
    v.leg m = { (s.leg m).plannedBy s.pendingHeader m with conds := (v.leg m).conds } ∧ v.condition (some m) .profileBad = false
  owners : ∀ (j : Lane) (n : LegId), v.owner j = some n ↔ DealtTo s.pendingHeader n j
  spare : ∀ (j : Lane) (y : Side), v.owner j = none →
    (v.slice j).pair = j ∧ v.txAt j y = (s.txAt j y).forget ∧ v.exch j y = s.exch j y
  eyes : ∀ (k : Lane) (y : Side), (s.rxAt k y).eye.phase = .idle → (v.rxAt k y).eye.phase = .idle

section
variable {s t v : State}

theorem State.Planned.stood (h : s.Planned t) (m : LegId) : (t.leg m).Stood := by
  rw [h.legs]
  exact ⟨rfl, rfl, rfl⟩

/-- Each leg has been settled on its turn, and stands while the legs after it are settled. -/
theorem State.Planned.turn (h : s.Planned t) (hv : planValid s.pendingHeader = true) (m : LegId) :
    ∃ (u : State) (post : List LegId), s.ReadyFor s.changedLanes m u ∧ m ∉ post
      ∧ (u.settleLeg s.changedLanes m).PlanOk
      ∧ (u.settleLeg s.changedLanes m).StandsOff post (t.settled s.changedLanes allLegs) := by
  obtain ⟨pre, post, hsplit⟩ := List.append_of_mem (mem_allLegs m)
  have hn : (pre ++ m :: post).Nodup := hsplit ▸ allLegs_nodup
  obtain ⟨hpre, hrest, hapart⟩ := List.nodup_append.1 hn
  obtain ⟨hpost, hnpost⟩ := List.nodup_cons.1 hrest
  have hnpre : m ∉ pre := fun k => hapart m k m List.mem_cons_self rfl
  obtain ⟨hplan, hoff, -⟩ := State.settled_spec (changed := s.changedLanes) hpre (State.Reports.refl t) (h.planOk hv) fun k _ => h.stood k
  have hready := (h.ready hv m).off hoff hnpre hplan
  have hstood : ∀ k : LegId, k ∉ pre → ((t.settled s.changedLanes pre).leg k).Stood := fun k hk => by
    rw [hoff.legs k hk]
    exact h.stood k
  have hplan' := State.settleLeg_planKept (changed := s.changedLanes) hplan (hstood m hnpre)
  have hbeside := State.settleLeg_beside (n := m) hplan s.changedLanes
  obtain ⟨-, hoff', -⟩ := State.settled_spec (changed := s.changedLanes) hnpost
    (State.Reports.refl ((t.settled s.changedLanes pre).settleLeg s.changedLanes m)) hplan' fun k hk => by
      rw [hbeside.legs k fun e => hpost (e ▸ hk)]
      exact hstood k fun e => hapart k e k (List.mem_cons_of_mem m hk) rfl
  have hall : ((t.settled s.changedLanes pre).settleLeg s.changedLanes m).settled s.changedLanes post = t.settled s.changedLanes allLegs := by
    unfold State.settled
    rw [hsplit, List.foldl_append]
    rfl
  rw [hall] at hoff'
  exact ⟨_, post, hready, hpost, hplan', hoff'⟩

/-- What a leg's record is when the load has ended. -/
theorem State.Planned.turn_leg (h : s.Planned t) (hv : planValid s.pendingHeader = true) (m : LegId) :
    let l := (t.settled s.changedLanes allLegs).leg m
    (l.width = headerWidth s.pendingHeader m ∧ l.first = if headerWidth s.pendingHeader m = 0 then 0 else dealtFirst s.pendingHeader m)
      ∧ (l.state = .parked ∨ l.state = .waiting)
      ∧ (headerWidth s.pendingHeader m = 0 →
          l = { (s.leg m).plannedBy s.pendingHeader m with conds := l.conds } ∧ l.conds.get .profileBad = false) := by
  obtain ⟨u, post, hready, hpost, -, hoff⟩ := h.turn hv m
  dsimp only
  rw [hoff.legs m hpost]
  by_cases hw : (u.leg m).width = 0
  · have hc := u.endCondition_condsMove (some m) .profileBad
    have hl := (State.settleLeg_absent (changed := s.changedLanes) hw) ▸ hc.legs m
    have hcond : (u.settleLeg s.changedLanes m).condition (some m) .profileBad = false := by
      rw [State.settleLeg_absent hw]
      have hends := State.ReportsBeside.endCondition (State.Reports.refl u) (ownsCode_profileBad m)
      exact (State.ReportsBeside.condition hends (some m) .profileBad).trans (by simp [conditionAfter])
    rw [hready.leg] at hl
    generalize u.settleLeg s.changedLanes m = w at hl hcond
    refine ⟨?_, ?_, fun _ => ⟨hl, hcond⟩⟩
    · rw [hl]
      exact ⟨rfl, rfl⟩
    · rw [hl]
      exact .inl rfl
  · obtain ⟨hl, hwakes, hstays⟩ := State.settleLeg_leg (changed := s.changedLanes) hready.stood hw
    rw [hready.leg] at hl hw
    refine ⟨?_, ?_, fun k => absurd k hw⟩
    · rw [hl, Leg.loaded_keeps]
      exact ⟨rfl, rfl⟩
    · by_cases hk : u.Wakes m
      · exact .inr (hwakes hk)
      · exact .inl (hstays hk)

/-- The end of a load in RUNNING, but for the count of loads (R4, R43, R163). -/
theorem State.planned_endsRunning (s : State) (hv : planValid s.pendingHeader = true) :
    s.EndsRunning (s.planned.settled s.changedLanes allLegs) := by
  have h := s.planned_spec
  obtain ⟨hplan, hoff, -⟩ := State.settled_spec (changed := s.changedLanes) allLegs_nodup (State.Reports.refl s.planned) (h.planOk hv) fun k _ => h.stood k
  have heyes {k : Lane} {y : Side} (hk : (s.planned.rxAt k y).eye.phase = .idle) := State.settled_eyeIdle (changed := s.changedLanes) allLegs hk
  have hleg := h.turn_leg hv
  have hturn := h.turn hv
  have hbad : s.planned.report.planBad = false := State.ReportsBeside.condition (State.Reports.refl s).planned none .planBad
  have hrx (k : Lane) (y : Side) : s.planned.rxAt k y = s.rxAt k y := by rw [h.frame]; rfl
  have hex (j : Lane) (y : Side) : s.planned.exch j y = s.exch j y := by rw [h.frame]; rfl
  generalize s.planned.settled s.changedLanes allLegs = v at *
  generalize s.planned = t at *
  refine ⟨?_, (by rw [hoff.report]; exact hbad), hplan, fun m => (hleg m).1, fun m => (hleg m).2.1, fun hs m hw => ?_, fun m hw => (hleg m).2.2 hw,
    fun j n => ?_, fun j y hj => ?_, fun k y hk => heyes ((hrx k y).symm ▸ hk)⟩
  · rw [hoff.frame, h.frame]
  · obtain ⟨u, post, hready, hpost, hplan', hoff'⟩ := hturn m
    refine (hready.settled hs ?_).off hoff' hpost hplan'
    rw [hready.leg]
    exact hw
  · rw [hoff.owners]
    exact h.owners j n
  · have hj' : t.owner j = none := (hoff.owners j).symm.trans hj
    have hnone : ∀ n ∈ allLegs, t.owner j ≠ some n := fun n _ => by simp [hj']
    rw [hoff.slices j hnone, hoff.txs j y hnone, hoff.exchs j y hnone, h.paths, if_pos ((State.mem_changedLanes h j).2 (.inl hj'))]
    exact ⟨h.pairs j, rfl, hex j y⟩

/-- What the end of a load in RUNNING reports, in order (R100, R112, R113, R163). -/
theorem State.Reports.endsRunning {s₀ : State} {acts : List ReportAct} (hr : s₀.Reports s acts) (hv : planValid s.pendingHeader = true) :
    s₀.Reports (s.planned.settled s.changedLanes allLegs)
      (acts ++ [.ends none .planBad] ++ allLegs.flatMap (s.settleActs (s.planned.settled s.changedLanes allLegs))) := by
  have h := s.planned_spec
  obtain ⟨-, -, hreports⟩ := State.settled_spec (changed := s.changedLanes) allLegs_nodup hr.planned (h.planOk hv) fun k _ => h.stood k
  have hacts : allLegs.flatMap (s.planned.settleActs (s.planned.settled s.changedLanes allLegs))
      = allLegs.flatMap (s.settleActs (s.planned.settled s.changedLanes allLegs)) :=
    List.flatMap_congr fun m _ => State.settleActs_congr (by rw [h.legs]; rfl) (by rw [h.frame]) rfl
  rwa [hacts] at hreports

end

end Sys2Proof.Machine
end

section
/-! PROOF. The ring scan, and the end of a load whose chunks were all read (O57; R4, R5, R43, R54, R99, R112, R163, R165). -/

namespace Sys2Proof.Machine

/-! ### The scan (R165) -/

/-- A slot is weighed against the best so far (R165). -/
theorem weighSlot_eq (best : Option (Nat × Fin 8)) (k : Fin 8) (bytes : Page) : weighSlot best k bytes =
    if checkByteHolds bytes = true ∧ slotSerial bytes ≠ 0 ∧ (∀ b ∈ best.toList, b.1 < slotSerial bytes)
      then some (slotSerial bytes, k) else best := by
  have hvalid : slotValid bytes = true ↔ checkByteHolds bytes = true ∧ slotSerial bytes ≠ 0 := by simp [slotValid]
  by_cases h : slotValid bytes = true
  · obtain ⟨hc, hz⟩ := hvalid.1 h
    unfold weighSlot
    rw [if_pos h]
    cases best with
    | none => simp [hc, hz]
    | some b =>
      by_cases hb : b.1 < slotSerial bytes
      · simp [hc, hz, hb]
      · simp [hb]
  · unfold weighSlot
    rw [if_neg h, if_neg fun k => h (hvalid.2 ⟨k.1, k.2.1⟩)]

/-- What the scan gives (R165). -/
theorem scanResult_spec (best : Option (Nat × Fin 8)) :
    (best = none → (scanResult best).1 = 0 ∧ (scanResult best).2 = 1)
      ∧ ∀ c ∈ best.toList, (scanResult best).1.val = (c.2.val + 1) % 8 ∧ (scanResult best).2 = min 65535 (c.1 + 1) := by
  cases best with
  | none => simp [scanResult]
  | some b =>
    refine ⟨fun h => by simp at h, fun c hc => ?_⟩
    have hb : c = b := by simpa using hc
    rw [hb]
    exact ⟨by simp [scanResult, Fin.val_add], rfl⟩

/-- The part after the last slot has been read, before its load ends. -/
def State.scanned (s : State) (best : Option (Nat × Fin 8)) : State :=
  { s.chunkRead (slotAddress 7) with agent := { s.agent with nextSlot := (scanResult best).1, nextSerial := (scanResult best).2 } }

theorem State.slotRead_last (s : State) (l : Load) (bytes : Page) :
    s.slotRead l 7 bytes = (s.scanned (weighSlot l.best 7 bytes)).endLoad := by
  rw [State.slotRead, if_pos rfl, State.scanned, ← s.chunkRead_load (slotAddress 7)]

theorem State.slotRead_next (s : State) (l : Load) {k : Fin 8} (hk : k ≠ 7) (bytes : Page) :
    s.slotRead l k bytes = (s.chunkRead (slotAddress k)).loadStep { l with best := weighSlot l.best k bytes } (.slot (k + 1)) := by
  rw [State.slotRead, if_neg hk]

/-- The scanned part differs from the part before in bridge, report unit and agent alone. -/
theorem State.scanned_spec (s : State) (best : Option (Nat × Fin 8)) :
    s.scanned best = { s with bridge := (s.scanned best).bridge, report := (s.scanned best).report, agent := (s.scanned best).agent }
      ∧ s.Reports (s.scanned best) [.ends none .memoryFault] := by
  have hm := s.chunkRead_frame (slotAddress 7)
  have hl := s.chunkRead_legs (slotAddress 7)
  have hr := s.chunkRead_reports (slotAddress 7)
  unfold State.ReportMoves at hm
  unfold State.scanned
  generalize s.chunkRead (slotAddress 7) = t at hm hl hr ⊢
  refine ⟨?_, hr.apart rfl rfl⟩
  dsimp only
  rw [hl]
  rw [hm]
  rfl

theorem State.chunkRead_port (s : State) (a : BusAddr) : (s.chunkRead a).bridge.port = .free := by
  have hm := s.chunkRead_frame a
  unfold State.ReportMoves at hm
  rw [hm]
  rfl

/-! ### What every end of a load brings (R163) -/

/-- The load `s` was in is over in `t`: it has been counted, and HEAD_LOADED is the last record. -/
structure State.LoadOver (s t : State) : Prop where
  bridge : t.bridge = s.bridge
  load : t.agent.load = none
  slot : t.agent.nextSlot = s.agent.nextSlot ∧ t.agent.nextSerial = s.agent.nextSerial
  count : t.loadCount = s.loadCount + 1
  last : ∃ r, t.report.events.getLast? = some r ∧ r.leg = none ∧ r.kind = .headLoaded t.head t.loadCount

theorem State.LoadOver.counted {s v : State} (hb : v.bridge = s.bridge) (hl : v.agent.load = none)
    (hs : v.agent.nextSlot = s.agent.nextSlot ∧ v.agent.nextSerial = s.agent.nextSerial) (hc : v.loadCount = s.loadCount) :
    s.LoadOver v.countLoad :=
  ⟨hb, hl, hs, congrArg (· + 1) hc, _, State.queueEvent_getLast? _ _ _, rfl, rfl⟩

/-! ### The end of a load in PLAN_BAD (R5, R163) -/

/-- The part without a plan, before the count of loads rises. -/
def State.planless (s : State) : State := ((s.closeLoad .planBad).noPlan.raiseFault none .planBad 0).endProfileBads

theorem State.endPlanBad_eq (s : State) : s.endPlanBad = s.planless.countLoad := rfl

theorem State.planless_condsMove (s : State) : (s.closeLoad .planBad).noPlan.CondsMove s.planless :=
  (State.raiseFault_condsMove _ none .planBad 0).trans (State.endProfileBads_condsMove _)

theorem State.planless_frame (s : State) : s.planless = { s with
    head := .planBad, slices := s.planless.slices, legs := s.planless.legs, tx := s.planless.tx, report := s.planless.report
    agent := { s.agent with load := none, records := s.agent.records.map FailureRecord.hold } } := by
  have hm := s.planless_condsMove.moves
  have hf := (s.closeLoad .planBad).noPlan_frame
  unfold State.ReportMoves at hm
  generalize (s.closeLoad .planBad).noPlan = u at hm hf
  generalize s.planless = v at hm ⊢
  have hslices : v.slices = u.slices := by rw [hm]
  have htx : v.tx = u.tx := by rw [hm]
  rw [hslices, htx]
  refine hm.trans ?_
  rw [hf]
  rfl

theorem State.Reports.planless {s₀ s : State} {acts : List ReportAct} (h : s₀.Reports s acts) :
    s₀.Reports s.planless (acts ++ [.raises none .planBad 0] ++ profileBadEnds) := by
  have hclose : s₀.Reports (s.closeLoad .planBad) acts := State.ReportsBeside.apart h rfl rfl
  exact State.ReportsBeside.endProfileBads
    (State.ReportsBeside.raiseFault (hclose.unreported (s.closeLoad .planBad).noPlan_unreported) 0 ownsCode_planBad)

/-- The end of a load in PLAN_BAD. -/
theorem State.endPlanBad_spec {s₀ s : State} {acts : List ReportAct} (hr : s₀.Reports s acts) :
    s.LoadOver s.endPlanBad ∧ s.endPlanBad.head = .planBad ∧ s.endPlanBad.report.planBad = true
      ∧ s₀.Reports s.endPlanBad (acts ++ [.raises none .planBad 0] ++ profileBadEnds
          ++ [.queues none (.headLoaded s.endPlanBad.head s.endPlanBad.loadCount)])
      ∧ (∀ m : LegId, (s.endPlanBad.leg m).state = .parked ∧ (s.endPlanBad.leg m).width = 0 ∧ (s.endPlanBad.leg m).first = 0)
      ∧ ∀ j : Lane, s.endPlanBad.owner j = none ∧ ∀ y : Side, (s.endPlanBad.txAt j y).learnedValid = ⟨false, false⟩ := by
  have hcount := State.ReportsBeside.countLoad (State.Reports.planless hr)
  have hframe := s.planless_frame
  have hconds := s.planless_condsMove
  rw [State.endPlanBad_eq]
  generalize s.planless = v at hcount hframe hconds ⊢
  obtain ⟨hslices, htx, -⟩ := hconds.fabric
  obtain ⟨hlegs, hlanes⟩ := State.noPlan_stands (s := s.closeLoad .planBad) (t := v) hslices htx hconds.legs
  refine ⟨.counted (by rw [hframe]) (by rw [hframe]) (by rw [hframe]; exact ⟨rfl, rfl⟩) (by rw [hframe]),
    by show v.head = _; rw [hframe], ?_, hcount, hlegs, fun j => ⟨(hlanes j).1, fun y => ((hlanes j).2 y).1⟩⟩
  refine (State.ReportsBeside.condition hcount none .planBad).trans ?_
  rw [List.append_assoc, List.foldl_append, profileBadEnds_head, List.foldl_append]
  rfl

/-! ### The end of a load in RUNNING (R4, R43, R99, R163) -/

/-- How a leg has been settled depends on legs, pending records and paths of before alone. -/
theorem State.SettledByLoad.base {p s t : State} {n : LegId} (h : s.SettledByLoad t n) (hl : p.legs = s.legs)
    (hp : p.pendingLegs = s.pendingLegs) (hx : p.tx = s.tx) : p.SettledByLoad t n := by
  unfold State.SettledByLoad State.RetryTaken State.BanksKept at h ⊢
  simpa only [State.leg_congr hl, hp, hx] using h

theorem State.SettledByLoad.counted {s v : State} {n : LegId} (h : s.SettledByLoad v n) : s.SettledByLoad v.countLoad n := h

/-- What stands in RUNNING once the load has been counted. -/
theorem State.EndsRunning.counted {s v w : State} (h : s.EndsRunning v) (hl : w.legs = v.legs) (hs : w.slices = v.slices) (hx : w.tx = v.tx) :
    (∀ m : LegId, (w.leg m).width = headerWidth s.pendingHeader m ∧ ((w.leg m).state = .parked ∨ (w.leg m).state = .waiting))
      ∧ (∀ m : LegId, 0 < headerWidth s.pendingHeader m → (w.leg m).first = dealtFirst s.pendingHeader m)
      ∧ (∀ m : LegId, headerWidth s.pendingHeader m = 0 →
          (w.leg m).state = .parked ∧ (w.leg m).first = 0 ∧ w.condition (some m) .profileBad = false)
      ∧ (∀ (j : Lane) (y : Side), w.owner j = none → (w.txAt j y).learnedValid = ⟨false, false⟩)
      ∧ ∀ (j : Lane) (m : LegId), w.owner j = some m ↔ DealtTo s.pendingHeader m j := by
  have hleg := State.leg_congr hl
  have howner := State.owner_congr hs
  refine ⟨fun m => ?_, fun m hm => ?_, fun m hm => ?_, fun j y hj => ?_, fun j m => ?_⟩
  · rw [hleg]
    exact ⟨(h.groups m).1, h.states m⟩
  · rw [hleg]
    exact (h.groups m).2.trans (if_neg hm.ne')
  · obtain ⟨hstate, hcond⟩ := h.absent m hm
    have hc : w.condition (some m) .profileBad = v.condition (some m) .profileBad := congrArg (fun l : Leg => l.conds.get .profileBad) (hleg m)
    rw [hc, hleg]
    exact ⟨(congrArg Leg.state hstate).trans rfl, (h.groups m).2.trans (if_pos hm), hcond⟩
  · rw [howner] at hj
    rw [State.txAt_congr hx, (h.spare j y hj).2.1]
    rfl
  · rw [howner]
    exact h.owners j m

/-- The end of a load in RUNNING, from a part that differs in bridge, report unit and agent alone. -/
theorem State.endRunning_spec {s₀ s : State} {acts : List ReportAct} (hr : s₀.Reports s acts)
    (hs : s = { s₀ with bridge := s.bridge, report := s.report, agent := s.agent }) (hv : planValid s₀.pendingHeader = true) :
    s.LoadOver s.endRunning ∧ s.endRunning.head = .running ∧ s.endRunning.report.planBad = false
      ∧ s₀.Reports s.endRunning (acts ++ [.ends none .planBad] ++ allLegs.flatMap (s₀.settleActs s.endRunning)
          ++ [.queues none (.headLoaded s.endRunning.head s.endRunning.loadCount)])
      ∧ (∃ v : State, s.EndsRunning v ∧ s.endRunning.legs = v.legs ∧ s.endRunning.slices = v.slices ∧ s.endRunning.tx = v.tx)
      ∧ (s₀.PlanOk → ∀ m : LegId, headerWidth s₀.pendingHeader m ≠ 0 → s₀.SettledByLoad s.endRunning m) := by
  have hheader : s.pendingHeader = s₀.pendingHeader := by rw [hs]
  have hpages : s.pendingLegs = s₀.pendingLegs := by rw [hs]
  have hlegs : s.legs = s₀.legs := by rw [hs]
  have htx : s.tx = s₀.tx := by rw [hs]
  have hplan (h : s₀.PlanOk) : s.PlanOk := h.congr (by rw [hs]) (by rw [hs]) (fun m => by rw [State.leg_congr hlegs])
    fun m => by rw [State.leg_congr hlegs]
  have hends := s.planned_endsRunning (hheader ▸ hv)
  have hcount := State.ReportsBeside.countLoad (State.Reports.endsRunning hr (hheader ▸ hv))
  have heq : s.endRunning = (s.planned.settled s.changedLanes allLegs).countLoad := s.endRunning_eq
  rw [heq]
  generalize s.planned.settled s.changedLanes allLegs = v at hends hcount ⊢
  have hframe := hends.frame
  have hacts : allLegs.flatMap (s.settleActs v) = allLegs.flatMap (s₀.settleActs v.countLoad) :=
    List.flatMap_congr fun m _ => State.settleActs_congr (by rw [State.leg_congr hlegs]) hpages rfl
  rw [hacts] at hcount
  refine ⟨.counted (by rw [hframe]) (by rw [hframe]) (by rw [hframe]; exact ⟨rfl, rfl⟩) (by rw [hframe]),
    by show v.head = _; rw [hframe], hends.planBad, hcount, ⟨v, hends, rfl, rfl, rfl⟩, fun hp m hm => ?_⟩
  exact ((hends.settled (hplan hp) m (by rwa [hheader])).base hlegs.symm hpages.symm htx.symm).counted

/-- Settles O57: the scan weighs each slot; the last one ends the load, in PLAN_BAD with no leg or in RUNNING with each leg settled on
its turn. -/
theorem ringScanEndsLoad : Obligations.RingScanEndsLoad := by
  intro s l k bytes hl hp hst
  have hexec : exec (.ringSlotRead bytes) s = .next (s.slotRead l k bytes) := by
    show execRingSlotRead bytes s = _
    simp [execRingSlotRead, State.chunkRunning, hp, hl, hst]
  refine ⟨_, hexec, ?_⟩
  by_cases hk : k = 7
  · subst hk
    rw [State.slotRead_last, weighSlot_eq]
    generalize (if checkByteHolds bytes = true ∧ slotSerial bytes ≠ 0 ∧ (∀ b ∈ l.best.toList, b.1 < slotSerial bytes)
      then some (slotSerial bytes, (7 : Fin 8)) else l.best) = best
    obtain ⟨hframe, hreports⟩ := s.scanned_spec best
    have hport : (s.scanned best).bridge.port = .free := s.chunkRead_port _
    have hslot : (s.scanned best).agent.nextSlot = (scanResult best).1 ∧ (s.scanned best).agent.nextSerial = (scanResult best).2 := ⟨rfl, rfl⟩
    have hresult := scanResult_spec best
    generalize s.scanned best = u at hframe hreports hport hslot ⊢
    have hheader : u.pendingHeader = s.pendingHeader := by rw [hframe]
    have hcount : u.loadCount = s.loadCount := by rw [hframe]
    have hscan : ∀ b : Option (Nat × Fin 8), b = best →
        (b = none → u.agent.nextSlot = 0 ∧ u.agent.nextSerial = 1)
          ∧ ∀ c ∈ b.toList, u.agent.nextSlot.val = (c.2.val + 1) % 8 ∧ u.agent.nextSerial = min 65535 (c.1 + 1) := fun b hb => by
      rw [hb, hslot.1, hslot.2]
      exact hresult
    by_cases hv : headerAccepted s.pendingHeader = true ∧ planValid s.pendingHeader = true
    · have hend : u.endLoad = u.endRunning := by
        rw [State.endLoad, hheader, hv.1, hv.2]
        rfl
      obtain ⟨hover, hhead, hbad, hacts, ⟨v, hends, hl', hs', hx'⟩, hsettled⟩ := State.endRunning_spec hreports hframe hv.2
      obtain ⟨hstates, hfirsts, habsent, hspare, howners⟩ := hends.counted hl' hs' hx'
      rw [hend]
      generalize u.endRunning = w at hover hhead hbad hacts hsettled hstates hfirsts habsent hspare howners ⊢
      refine ⟨hover.bridge ▸ hport, fun h => absurd rfl h, fun _ => ⟨hover.load, ?_, hover.count.trans (by rw [hcount]), hover.last, ?_⟩⟩
      · rw [hover.slot.1, hover.slot.2]
        exact hscan
      · rw [if_pos hv]
        rw [hheader] at hstates hfirsts habsent howners
        exact ⟨hhead, hbad, hstates, fun m hm => ⟨hfirsts m hm, fun h => hsettled h m hm.ne'⟩, habsent, hspare, hacts, howners⟩
    · have hend : u.endLoad = u.endPlanBad := by
        rw [State.endLoad, hheader, if_neg]
        simpa using hv
      obtain ⟨hover, hhead, hbad, hacts, hlegs, hlanes⟩ := State.endPlanBad_spec hreports
      rw [hend]
      generalize u.endPlanBad = w at hover hhead hbad hacts hlegs hlanes ⊢
      refine ⟨hover.bridge ▸ hport, fun h => absurd rfl h, fun _ => ⟨hover.load, ?_, hover.count.trans (by rw [hcount]), hover.last, ?_⟩⟩
      · rw [hover.slot.1, hover.slot.2]
        exact hscan
      · rw [if_neg hv]
        exact ⟨hhead, hbad, hacts, hlegs, hlanes⟩
  · rw [State.slotRead_next s l hk]
    have hu := s.chunkRead_reports (slotAddress k)
    have hm := s.chunkRead_frame (slotAddress k)
    unfold State.ReportMoves at hm
    refine ⟨s.chunkRead_port _, fun _ => ⟨_, rfl, rfl, rfl, ?_, hu.apart rfl rfl, ?_⟩, fun h => absurd h hk⟩
    · show (s.chunkRead (slotAddress k)).head = s.head
      rw [hm]
      rfl
    · exact weighSlot_eq _ _ _

end Sys2Proof.Machine
end

section
/-! PROOF. The end of a load keeps the supervision law and the coefficient law: with a plan, because each leg has been settled by its
record; without one, because no leg exists (R4, R5, R43, R96, R99, R163). -/

namespace Sys2Proof.Machine

/-! ### A part whose head is LOADING -/

/-- While the head is LOADING every leg is PARKED, and no lane has a leg (R6, R146). -/
theorem State.InOrder.loading {s : State} (h : s.InOrder) (hl : s.head = .loading) :
    (∀ m : LegId, (s.leg m).state = .parked ∧ (s.leg m).retry = 0)
      ∧ (∀ j : Lane, s.owner j = none ∧ (s.slice j).pair = j)
      ∧ (∀ (j : Lane) (y : Side), s.laneState j y = .quiet ∧ (s.rxAt j y).eye.phase = .idle) := by
  obtain ⟨⟨hok, habsent, -⟩, ⟨-, howner, -, hself, -⟩, ⟨-, hspare, heye⟩⟩ := h
  have hnone (j : Lane) : s.owner j = none := by
    cases ho : s.owner j with
    | none => rfl
    | some n =>
      have hrun := ((howner j n).1 ho).1
      rw [hl] at hrun
      cases hrun
  have hparked (m : LegId) : (s.leg m).state = .parked := habsent m (by simp [State.legExists, hl])
  have hpair (j : Lane) : (s.slice j).pair = j := hself j (hnone j)
  have hquiet (j : Lane) (y : Side) : s.laneState j y = .quiet := hspare j (hnone j) y
  refine ⟨fun m => ⟨hparked m, ?_⟩, fun j => ⟨hnone j, hpair j⟩, fun j y => ⟨hquiet j y, ?_⟩⟩
  · obtain ⟨-, -, -, -, -, -, -, -, -, hretry⟩ := hok m
    exact hretry (.inl (hparked m))
  · have hidle := heye j y (by rw [hquiet]; simp)
    have hphys : s.phys j y = j := by
      cases y with
      | s => rfl
      | c => exact hpair j
    have hpath : s.rxPath j y = s.rxAt j y := congrArg (fun k => s.rxAt k y) hphys
    rwa [hpath] at hidle

/-- A leg record that is stood down, in PARKED or WAITING with no retry made, is in order (R106, R115). -/
theorem Leg.ok_of_stoodDown {l k : Leg} {c : LegConds}
    (h : l = { k.standDown with
      state := l.state, width := l.width, first := l.first, profile := l.profile, source := l.source, clamped := l.clamped
      differs := l.differs, retry := l.retry, conds := c })
    (hs : l.state = .parked ∨ l.state = .waiting) (hr : l.retry = 0) : l.Ok := by
  generalize l.width = width, l.first = first, l.profile = profile, l.source = source, l.clamped = clamped, l.differs = differs at h
  rw [hr] at h
  rcases hs with hs | hs <;>
  · rw [hs] at h
    rw [h]
    simp [Leg.Ok, Leg.standDown]

/-! ### With a plan (R4, R43, R54, R163) -/

section
variable {s v : State}

/-- What the record of a leg is in terms of the law, whether the leg exists or not. -/
theorem State.EndsRunning.legOk (h : s.EndsRunning v) (hs : s.InOrder) (hl : s.head = .loading) (m : LegId) : (v.leg m).Ok := by
  obtain ⟨hparked, -⟩ := hs.loading hl
  have hretry := (hparked m).2
  by_cases hw : headerWidth s.pendingHeader m = 0
  · obtain ⟨hleg, -⟩ := h.absent m hw
    refine Leg.ok_of_stoodDown (k := s.leg m) (c := (v.leg m).conds) ?_ (h.states m) ?_
    · rw [hleg]
      rfl
    · rw [hleg]
      exact hretry
  · obtain ⟨-, htaken, -, hleg, -⟩ := h.settled hs.plan m hw
    refine Leg.ok_of_stoodDown hleg (h.states m) ?_
    rw [htaken, hretry]
    split
    · exact Nat.zero_min _
    · rfl

theorem State.EndsRunning.exists (h : s.EndsRunning v) {j : Lane} {m : LegId} (hj : v.owner j = some m) :
    headerWidth s.pendingHeader m ≠ 0 := fun hw => by
  obtain ⟨h1, h2⟩ := (h.owners j m).1 hj
  omega

/-- The lanes of a leg that the load has settled (R36, R96). -/
theorem State.EndsRunning.owned (h : s.EndsRunning v) (hs : s.PlanOk) {j : Lane} {m : LegId} (hj : v.owner j = some m) (y : Side) :
    (v.leg m).state = .waiting ∧ v.laneState j y = .listen ∧ (v.txPath j y).Loaded (v.leg m).profile.rate
      ∨ (v.leg m).state = .parked ∧ v.laneState j y = .quiet := by
  obtain ⟨-, -, -, -, -, hlanes⟩ := h.settled hs m (h.exists hj)
  rcases h.states m with hst | hst
  · rw [if_neg (by rw [hst]; simp)] at hlanes
    exact .inr ⟨hst, (hlanes j y hj).1⟩
  · rw [if_pos hst] at hlanes
    obtain ⟨hfresh, hload, -⟩ := hlanes j y hj
    exact .inl ⟨hst, hfresh.1, hload⟩

theorem State.EndsRunning.inOrder (h : s.EndsRunning v) (hs : s.InOrder) (hl : s.head = .loading) (hr : s.resetHeld = false) : v.InOrder := by
  obtain ⟨-, -, hquiet⟩ := hs.loading hl
  have hhead : v.head = .running := by rw [h.frame]
  have hload : v.agent.load = none := by rw [h.frame]
  have hheld : v.resetHeld = false := by rw [h.frame]; exact hr
  refine ⟨⟨h.legOk hs hl, fun m he => ?_, fun k => ?_, fun _ => hload⟩, h.plan, ⟨fun i m hi x => ?_, fun i hi x => ?_, fun i x _ => ?_⟩⟩
  · have hw : (v.leg m).width = 0 := by simpa [State.legExists, hhead] using he
    rw [(h.groups m).1] at hw
    rw [(h.absent m hw).1]
    rfl
  · simp [hload, hheld] at k
  · rcases h.owned hs.plan hi x with ⟨hst, hlane, -⟩ | ⟨hst, hlane⟩ <;>
    · rw [hst, hlane]
      rfl
  · obtain ⟨-, -, hexch⟩ := h.spare i x hi
    exact (congrArg Exchange.lane hexch).trans (hquiet i x).1
  · exact h.eyes (v.phys i x) x (hquiet (v.phys i x) x).2

theorem State.EndsRunning.profileOk (h : s.EndsRunning v) (hs : s.PlanOk) (hf : s.ProfilesOk) (m : LegId) : (v.leg m).profile.Ok := by
  by_cases hw : headerWidth s.pendingHeader m = 0
  · rw [(h.absent m hw).1]
    exact hf m
  · obtain ⟨hcase, -⟩ := h.settled hs m hw
    split at hcase
    · rw [hcase.1]
      exact hf m
    · split at hcase
      · rw [hcase.1]
        exact profileOf_ok _
      · rw [hcase.1]
        exact initial_profile_ok

/-- The banks of a leg that the load has settled fit its profile (R38, R43, R54). -/
theorem State.EndsRunning.banksIn (h : s.EndsRunning v) (hs : s.PlanOk) (hf : s.Fits) {m : LegId} (hw : headerWidth s.pendingHeader m ≠ 0) :
    v.BanksIn m := by
  have hprofile := h.profileOk hs hf.profiles m
  have hgiven (hg : v.BanksGiven m) : v.BanksIn m := fun k y hk => TxPath.Given.fits (hg k y hk) hprofile
  obtain ⟨hcase, -⟩ := h.settled hs m hw
  split at hcase
  · obtain ⟨hsame, -, -, -, -, hbanks⟩ := hcase
    split at hbanks
    · next hgroup =>
      intro k y hk
      have hin : s.inGroup m k := (State.inGroup_congr hgroup.1 hgroup.2 k).1 ((h.plan.2.1 k m).1 hk).2
      have hfit : (s.txAt k y).BanksFit (v.leg m).profile.ceiling (v.leg m).profile.floor := by
        rw [hsame]
        exact fun r => hf.sets.1 m k y r hin
      obtain ⟨h1, h2, h3⟩ := hbanks k y hk
      exact hfit.congr ⟨h1.symm, h2.symm, h3.symm⟩
    · exact hgiven hbanks
  · split at hcase
    · exact hgiven hcase.2.2.2.2.2
    · exact hgiven hcase.2.2.2.2.2

theorem State.EndsRunning.fits (h : s.EndsRunning v) (hs : s.PlanOk) (hf : s.Fits) : v.Fits := by
  have hhead : v.head = .running := by rw [h.frame]
  refine ⟨h.profileOk hs hf.profiles, fun m j x r hj => ?_, fun i x m hi hq => ?_⟩
  · have ho : v.owner j = some m := (h.plan.2.1 j m).2 ⟨hhead, hj⟩
    exact h.banksIn hs hf (h.exists ho) j x ho r
  · rcases h.owned hs hi x with ⟨-, -, hload⟩ | ⟨-, hlane⟩
    · exact hload.fits (h.banksIn hs hf (h.exists hi) _ x ((h.plan.pairsWithin m).phys hi x))
    · exact absurd hlane hq

end

/-! ### Without a plan (R5, R43) -/

/-- `t` is `s` in all that the laws speak of but the coefficient sets. -/
structure State.AgreesOn (s t : State) : Prop where
  slices : t.slices = s.slices
  legs : t.legs = s.legs
  rx : t.rx = s.rx
  ex : t.ex = s.ex
  head : t.head = s.head
  agent : t.agent = s.agent
  held : t.resetHeld = s.resetHeld

/-- A part without a plan, whose load is over, is in order. -/
theorem State.noPlan_laws {s w : State} {head : HeadState} (hs : s.InOrder) (hl : s.head = .loading) (hr : s.resetHeld = false)
    (hne : head ≠ .running) (hw : (s.closeLoad head).noPlan.AgreesOn w) : w.InOrder ∧ (s.Fits → w.Fits) := by
  obtain ⟨hparked, -, hquiet⟩ := hs.loading hl
  obtain ⟨hframe, hlegs, howner, hpairs, -⟩ := (s.closeLoad head).noPlan_spec
  generalize (s.closeLoad head).noPlan = u at hframe hlegs howner hpairs hw
  have hleg (m : LegId) : w.leg m = (s.leg m).absent := (State.leg_congr hw.legs m).trans (hlegs m)
  have hnone (j : Lane) : w.owner j = none := (State.owner_congr hw.slices j).trans (howner j)
  have hpair (j : Lane) : (w.slice j).pair = j := (congrArg Slice.pair (State.slice_congr hw.slices j)).trans (hpairs j)
  have hrest : w.head = head ∧ w.agent.load = none ∧ w.resetHeld = s.resetHeld ∧ w.ex = s.ex ∧ w.rx = s.rx := by
    rw [hw.head, hw.agent, hw.held, hw.ex, hw.rx, hframe]
    exact ⟨rfl, rfl, rfl, rfl, rfl⟩
  obtain ⟨hhead, hload, hheld, hex, hrx⟩ := hrest
  have hwidth (m : LegId) : (w.leg m).width = 0 := by
    rw [hleg]
    rfl
  have houtside (m : LegId) (j : Lane) : ¬w.inGroup m j := fun ⟨h1, h2⟩ => by
    rw [hwidth m] at h2
    omega
  refine ⟨⟨⟨fun m => ?_, fun m _ => ?_, fun k => ?_, fun _ => hload⟩,
    ⟨fun m => .inl (hwidth m), fun j m => ?_, fun j => by rw [hnone, hnone], fun j _ => hpair j, fun j k e => ?_,
      fun j m m' hm _ => absurd hm (houtside m j)⟩,
    ⟨fun i m hi _ => ?_, fun i _ x => ?_, fun i x _ => ?_⟩⟩,
    fun hf => ⟨fun m => ?_, fun m j _ _ hj => absurd hj (houtside m j), fun i _ m hi _ => ?_⟩⟩
  · have hstate : (w.leg m).state = .parked := by
      rw [hleg]
      rfl
    have hretry : (w.leg m).retry = 0 := by
      rw [hleg]
      exact (hparked m).2
    refine Leg.ok_of_stoodDown (k := s.leg m) (c := (w.leg m).conds) ?_ (.inl hstate) hretry
    rw [hleg]
    rfl
  · rw [hleg]
    rfl
  · simp [hload, hheld, hr] at k
  · rw [hnone, hhead]
    exact ⟨nofun, fun k => absurd k.1 hne⟩
  · rwa [hpair, hpair] at e
  · rw [hnone] at hi
    cases hi
  · exact (congrArg Exchange.lane (State.exch_congr hex i x)).trans (hquiet i x).1
  · exact (congrArg (fun p : RxPath => p.eye.phase) (State.rxAt_congr hrx (w.phys i x) x)).trans (hquiet (w.phys i x) x).2
  · rw [hleg]
    exact hf.profiles m
  · rw [hnone] at hi
    cases hi

/-! ### Every end of a load -/

theorem State.countLoad_lawKeeps (s : State) : s.LawKeeps s.countLoad :=
  State.Undisturbed.lawKeeps (.beside rfl rfl rfl rfl rfl rfl rfl id)

/-- A load runs in LOADING, and not under reset. -/
theorem State.InOrder.underLoad {s : State} (hs : s.InOrder) (ha : s.agent.load.isSome = true) : s.head = .loading ∧ s.resetHeld = false := by
  obtain ⟨⟨-, -, hl, hr⟩, -⟩ := hs
  refine ⟨hl (.inl ha), ?_⟩
  cases hk : s.resetHeld with
  | false => rfl
  | true => simp [hr hk] at ha

theorem State.endPlanBad_lawKeeps {s : State} (ha : s.agent.load.isSome = true) : s.LawKeeps s.endPlanBad := fun hs => by
  obtain ⟨hl, hr⟩ := hs.underLoad ha
  obtain ⟨h1, h2⟩ := State.noPlan_laws (w := (s.closeLoad .planBad).noPlan) hs hl hr (by simp) ⟨rfl, rfl, rfl, rfl, rfl, rfl, rfl⟩
  obtain ⟨h3, h4⟩ := (s.planless_condsMove.undisturbed.lawKeeps.trans s.planless.countLoad_lawKeeps) h1
  exact ⟨h3, fun hf => h4 (h2 hf)⟩

theorem State.withoutMemory_agrees (s : State) : (s.closeLoad .noMemory).noPlan.AgreesOn s.withoutMemory := by
  unfold State.withoutMemory
  generalize (s.closeLoad .noMemory).noPlan = u
  exact ⟨rfl, rfl, rfl, rfl, rfl, rfl, rfl⟩

theorem State.endNoMemory_lawKeeps {s : State} (ha : s.agent.load.isSome = true) : s.LawKeeps s.endNoMemory := fun hs => by
  obtain ⟨hl, hr⟩ := hs.underLoad ha
  obtain ⟨h1, h2⟩ := State.noPlan_laws hs hl hr (by simp) s.withoutMemory_agrees
  have hends := s.endNoMemory_only.undisturbed.lawKeeps
  rw [State.endNoMemory_eq]
  generalize s.withoutMemory.memoryFaultRaised.endProfileBads = u at hends ⊢
  obtain ⟨h3, h4⟩ := (hends.trans u.countLoad_lawKeeps) h1
  exact ⟨h3, fun hf => h4 (h2 hf)⟩

theorem State.endRunning_lawKeeps {s : State} (ha : s.agent.load.isSome = true) (hv : planValid s.pendingHeader = true) :
    s.LawKeeps s.endRunning := fun hs => by
  obtain ⟨hl, hr⟩ := hs.underLoad ha
  have hends := s.planned_endsRunning hv
  rw [State.endRunning_eq]
  obtain ⟨h1, h2⟩ := (State.countLoad_lawKeeps (s.planned.settled s.changedLanes allLegs)) (hends.inOrder hs hl hr)
  exact ⟨h1, fun hf => h2 (hends.fits hs.plan hf)⟩

theorem State.endLoad_lawKeeps {s : State} (ha : s.agent.load.isSome = true) : s.LawKeeps s.endLoad := by
  unfold State.endLoad
  split
  · next hv => exact State.endRunning_lawKeeps ha (Bool.and_eq_true_iff.1 hv).2
  · exact State.endPlanBad_lawKeeps ha

/-- A ring slot read keeps the laws, the last one with the end of the load. -/
theorem State.slotRead_lawKeeps {s : State} (l : Load) (k : Fin 8) (bytes : Page) (ha : s.agent.load.isSome = true) :
    s.LawKeeps (s.slotRead l k bytes) := by
  by_cases hk : k = 7
  · subst hk
    rw [State.slotRead_last]
    have hscan : s.Undisturbed (s.scanned (weighSlot l.best 7 bytes)) := by
      have hr (u : State) (best : Option (Nat × Fin 8)) (h : u.agent = s.agent) : u.Undisturbed
          { u with agent := { s.agent with nextSlot := (scanResult best).1, nextSerial := (scanResult best).2 } } :=
        .beside rfl rfl rfl rfl rfl rfl rfl fun k => by rwa [h]
      exact (s.chunkRead_undisturbed _).trans (hr _ _ (s.chunkRead_load _))
    exact hscan.lawKeeps.trans (State.endLoad_lawKeeps ha)
  · rw [State.slotRead_next s l hk]
    refine ((s.chunkRead_undisturbed _).trans (State.loadStep_undisturbed _ _ ?_)).lawKeeps
    rw [State.chunkRead_load]
    exact ha

end Sys2Proof.Machine
end

section
/-! PROOF. Every step keeps the supervision law and the coefficient law (O11, O12; R4, R6, R8, R17, R38, R83, R96, R97, R104, R106, R115,
R133). -/

namespace Sys2Proof.Machine

/-! ### Power-on and the reset input (R19, R146, R160) -/

theorem reset_inOrder : State.reset.InOrder ∧ State.reset.Fits :=
  ⟨⟨reset_legsOk, reset_planOk, reset_lanesOk⟩, fun n => by rw [reset_leg]; exact initial_profile_ok, reset_setsOk⟩

/-- What reads as the reset state in the laws' matter is in order, whatever was before. -/
theorem State.Undisturbed.fromReset {s t : State} (h : State.reset.Undisturbed t) : s.LawKeeps t := fun _ => by
  obtain ⟨h1, h2⟩ := h.lawKeeps reset_inOrder.1
  exact ⟨h1, fun _ => h2 reset_inOrder.2⟩

theorem State.heldInReset_lawKeeps (s : State) : s.LawKeeps s.heldInReset :=
  State.Undisturbed.fromReset (.of_fabric rfl rfl rfl rfl rfl rfl fun _ => ⟨fun _ => rfl, fun _ => rfl⟩)

theorem State.releaseReset_lawKeeps (s : State) : s.LawKeeps s.releaseReset := by
  unfold State.releaseReset
  split
  · next hr =>
    intro hs
    obtain ⟨⟨-, -, hl, -⟩, -⟩ := id hs
    exact State.Undisturbed.lawKeeps (.of_fabric rfl rfl rfl rfl rfl (hl (.inr hr)).symm fun _ => ⟨fun _ => rfl, nofun⟩) hs
  · exact .refl s

/-! ### Events of a spare lane (R6) -/

theorem State.setSignal_undisturbed (s : State) (i : Lane) (x : Side) (b : Bool) : s.Undisturbed (s.setSignal i x b) := by
  refine ⟨rfl, rfl, id, fun _ => rfl, fun _ _ => rfl, fun j y => ?_, fun _ _ => rfl⟩
  show ((s.setSignal i x b).rxAt (s.phys j y) y).eye.phase = (s.rxAt (s.phys j y) y).eye.phase
  by_cases h : (s.phys j y, y) = (s.phys i x, x)
  · obtain ⟨hk, rfl⟩ := Prod.mk.inj h
    rw [hk]
    exact (congrArg (fun r : RxPath => r.eye.phase) (s.rxPath_setSignal i y b)).trans rfl
  · exact congrArg (fun r : RxPath => r.eye.phase) (s.rx_setRxAt_ne _ h)

theorem exec_spare_lawKeeps {cmd : Instr} {s t : State} (hf : isFabric cmd = true) (hc : s.concerned cmd = none)
    (h : exec cmd s = .next t) : s.LawKeeps t := by
  have hsame {u : State} (hu : u = s) : s.LawKeeps u := hu ▸ .refl s
  cases cmd
  case signalLost i x a =>
    cases h
    split
    · exact .refl s
    · unfold State.loseSignal
      rw [State.owner_of_reach, show s.owner i = none from hc]
      exact ((s.reach_undisturbed a).trans (State.setSignal_undisturbed _ i x false)).lawKeeps
  case signalRestored i x a =>
    cases h
    split
    · exact .refl s
    · unfold State.regainSignal
      rw [State.owner_of_reach, show s.owner i = none from hc]
      exact ((s.reach_undisturbed a).trans (State.setSignal_undisturbed _ i x true)).lawKeeps
  case measurementRecord i x eye rp rq => cases h; exact hsame (s.takeRecord_spare x eye rp rq hc)
  case tuneFrameArrives i x w => cases h; exact hsame (s.arrive_spare x w hc)
  case fillFrameArrives i x w => cases h; exact hsame (s.arrive_spare x w hc)
  case invalidFrame i x w => cases h; exact hsame (s.arrive_spare x w hc)
  case frameIntervalStart i x =>
    cases h
    intro hs
    have hquiet : s.laneState i x = .quiet := hs.lanes.2.1 i hc x
    have hstays : s.startInterval i x = s := by
      unfold State.startInterval
      simp only [s.endCountZero_spare x hc, hquiet]
    exact hsame hstays hs
  case countZeroFrameEnd i x => cases h; exact hsame (s.endCountZero_spare x hc)
  case frameSilenceExpiry i x =>
    have hw : s.watchRunning i x = none := by simp [State.watchRunning, show s.owner i = none from hc]
    have he : execFrameSilenceExpiry i x s = .next t := h
    rw [execFrameSilenceExpiry, hw] at he
    cases he
    exact .refl s
  case answerTimerExpiry i x =>
    have hw : s.answerRunning i x = none := by simp [State.answerRunning, show s.owner i = none from hc]
    have he : execAnswerTimerExpiry i x s = .next t := h
    rw [execAnswerTimerExpiry, hw] at he
    cases he
    exact .refl s
  all_goals simp [isFabric, State.concerned] at hf hc

theorem exec_fabric_lawKeeps {cmd : Instr} {s t : State} (hf : isFabric cmd = true) (h : exec cmd s = .next t) : s.LawKeeps t := by
  cases hc : s.concerned cmd with
  | some n => exact exec_leg_lawKeeps h hc
  | none => exact exec_spare_lawKeeps hf hc h

/-! ### The commands of the window (R149, R151, R155, R157) -/

theorem exec_window_lawKeeps {cmd : Instr} {s t : State} (hw : isWindowCommand cmd = true) (h : exec cmd s = .next t) : s.LawKeeps t := by
  cases cmd
  case retrain n => exact exec_fabric_lawKeeps rfl h
  case park n => exact exec_fabric_lawKeeps rfl h
  case unpark n => exact exec_fabric_lawKeeps rfl h
  case clear n => exact exec_fabric_lawKeeps rfl h
  case reload => cases h; exact s.reloadHead_lawKeeps
  case clearEventQueue => cases h; exact s.whenOpen_lawKeeps _ (State.report_lawKeeps rfl rfl)
  case clearOverrun => cases h; exact s.whenOpen_lawKeeps _ (State.report_lawKeeps rfl rfl)
  case clearAllLegCounters => cases h; exact s.whenOpen_lawKeeps _ s.clearAll_lawKeeps
  case advance => cases h; exact s.whenOpen_lawKeeps _ (State.report_lawKeeps rfl rfl)
  case queueClearOverrun => cases h; exact s.whenOpen_lawKeeps _ (State.report_lawKeeps rfl rfl)
  case acknowledge => cases h; exact s.whenOpen_lawKeeps _ s.acknowledgeShown_lawKeeps
  case setViewMode v => cases h; exact s.whenOpen_lawKeeps _ (s.storeViewMode_lawKeeps v)
  case setViewLeg v => cases h; exact s.whenOpen_lawKeeps _ (State.report_lawKeeps rfl rfl)
  case setFaultAttentionMask v => cases h; exact s.whenOpen_lawKeeps _ (State.report_lawKeeps rfl rfl)
  case setEventAttentionMode v => cases h; exact s.whenOpen_lawKeeps _ (s.storeEventMode_lawKeeps v)
  case setRolloverAttentionEnable v => cases h; exact s.whenOpen_lawKeeps _ (s.storeRollover_lawKeeps v)
  case liveWindowOtherWrite a v => cases h; exact .refl s
  all_goals cases hw

/-! ### The events of the agent (R146, R162 to R167) -/

theorem execBusRecovery_lawKeeps {s t : State} (he : execBusRecovery s = .next t) : s.LawKeeps t := by
  unfold execBusRecovery at he
  split at he
  · next l hl =>
    cases he
    split
    · have ha : s.agent.load.isSome = true := by
        unfold State.recoveryRunning at hl
        split at hl
        · simp [hl]
        · cases hl
      exact State.Undisturbed.lawKeeps (.beside rfl rfl rfl rfl rfl rfl rfl fun _ => ha)
    · exact .refl s
  · cases he; exact .refl s

theorem State.chunkRunning_load {s : State} {l : Load} (h : s.chunkRunning = some l) : s.agent.load.isSome = true := by
  unfold State.chunkRunning at h
  split at h
  · simp [h]
  · cases h

theorem execHeaderChunk_lawKeeps {s t : State} (bytes : Page) (he : execHeaderChunk bytes s = .next t) : s.LawKeeps t := by
  unfold execHeaderChunk at he
  split at he
  · next l hl =>
    split at he
    · cases he; exact (State.headerRead_undisturbed l bytes (State.chunkRunning_load hl)).lawKeeps
    · cases he; exact .refl s
  · cases he; exact .refl s

theorem execLegRecordChunk_lawKeeps {s t : State} (bytes : Page) (he : execLegRecordChunk bytes s = .next t) : s.LawKeeps t := by
  unfold execLegRecordChunk at he
  split at he
  · next l hl =>
    split at he
    · cases he; exact (State.legRead_undisturbed l _ bytes (State.chunkRunning_load hl)).lawKeeps
    · cases he; exact .refl s
  · cases he; exact .refl s

theorem execRingSlotRead_lawKeeps {s t : State} (bytes : Page) (he : execRingSlotRead bytes s = .next t) : s.LawKeeps t := by
  unfold execRingSlotRead at he
  split at he
  · next l hl =>
    split at he
    · rw [← Host.Outcome.next.inj he]
      exact State.slotRead_lawKeeps l _ bytes (State.chunkRunning_load hl)
    · cases he; exact .refl s
  · cases he; exact .refl s

theorem execLoadChunkTimeout_lawKeeps {s t : State} (he : execLoadChunkTimeout s = .next t) : s.LawKeeps t := by
  unfold execLoadChunkTimeout at he
  split at he
  · next instant hw =>
    rw [← Host.Outcome.next.inj he]
    have ha : s.agent.load.isSome = true := by
      cases ha : s.agent.load with
      | none => simp [ha] at hw
      | some l => rfl
    have hd := (s.reach instant).dropJob_moves .loadChunk
    have hload : ((s.reach instant).dropJob .loadChunk).agent.load.isSome = true := by
      unfold State.BridgeMoves at hd
      rw [hd]
      exact ha
    exact ((s.reach_undisturbed instant).trans hd.undisturbed).lawKeeps.trans (State.endNoMemory_lawKeeps hload)
  · cases he; exact .refl s

theorem execReloadLoadStart_lawKeeps {s t : State} (he : execReloadLoadStart s = .next t) : s.LawKeeps t := by
  unfold execReloadLoadStart at he
  split at he
  · next l hl =>
    cases he
    split
    · exact (State.loadStep_undisturbed l _ (by simp [hl])).lawKeeps
    · exact .refl s
  · cases he; exact .refl s

theorem execRecordWritten_lawKeeps {s t : State} (he : execRecordWritten s = .next t) : s.LawKeeps t := by
  unfold execRecordWritten at he
  split at he
  · cases he; exact (s.recordDone_undisturbed _ _).lawKeeps
  · cases he; exact .refl s

theorem execFailureRecordRetry_lawKeeps {s t : State} (he : execFailureRecordRetry s = .next t) : s.LawKeeps t := by
  unfold execFailureRecordRetry at he
  split at he
  · cases he; exact State.Undisturbed.lawKeeps (.beside rfl rfl rfl rfl rfl rfl rfl id)
  · cases he; exact .refl s

theorem execFailureRecordTimeout_lawKeeps {s t : State} (he : execFailureRecordTimeout s = .next t) : s.LawKeeps t := by
  unfold execFailureRecordTimeout at he
  split at he
  · split at he
    · cases he
      split
      · exact ((s.reach_undisturbed _).trans (State.dropRecord_undisturbed _ _)).lawKeeps
      · exact .refl s
    · cases he; exact .refl s
  · cases he; exact .refl s

theorem execChunkNotAcknowledged_lawKeeps {s t : State} (nackAt : NackAt) (he : execChunkNotAcknowledged nackAt s = .next t) :
    s.LawKeeps t := by
  unfold execChunkNotAcknowledged at he
  split at he
  · cases he; exact (s.chunkRefused_undisturbed _ _).lawKeeps
  · cases he; exact .refl s

/-! ### Every command -/

/-- Every command keeps the supervision law, and under it the coefficient law. -/
theorem exec_lawKeeps {cmd : Instr} {s t : State} (h : exec cmd s = .next t) : s.LawKeeps t := by
  by_cases hf : isFabric cmd = true
  · exact exec_fabric_lawKeeps hf h
  by_cases hw : isWindowCommand cmd = true
  · exact exec_window_lawKeeps hw h
  cases cmd
  case powerOn => cases h; exact State.Undisturbed.fromReset (.beside rfl rfl rfl rfl rfl rfl rfl id)
  case resetLineAssert => cases h; exact s.heldInReset_lawKeeps
  case resetLineRelease => cases h; exact s.releaseReset_lawKeeps
  case headClockTick =>
    cases h
    split
    · exact .refl s
    · exact State.Undisturbed.lawKeeps (.beside rfl rfl rfl rfl rfl rfl rfl id)
  case switchStart => cases h; exact s.switchStarts_moves.lawKeeps
  case bridgeTakesPort => cases h; exact s.givePort_moves.lawKeeps
  case writeAddressPhase memAck =>
    cases h
    unfold State.writeAddress
    split
    · exact (s.beginWrite_moves memAck).lawKeeps
    · exact State.BridgeMoves.lawKeeps rfl
  case addressNotForMemory => cases h; exact s.otherAddress_moves.lawKeeps
  case wordAddress high low => cases h; exact (s.wordArrives_moves high low).lawKeeps
  case memoryWriteByte v memAck => cases h; exact (s.memoryByte_undisturbed v memAck).lawKeeps
  case liveWindowWriteByte v => cases h; exact (s.liveByte_moves v).lawKeeps
  case voidWriteByte v => cases h; exact s.voidByte_moves.lawKeeps
  case currentAddressRead answer =>
    cases h
    unfold State.readAddress
    split
    · exact (s.beginRead_moves answer).lawKeeps
    · exact State.BridgeMoves.lawKeeps rfl
  case forwardedReadByte v switchAck => cases h; exact (s.forwardedByte_moves v switchAck).lawKeeps
  case servedReadByte switchAck => cases h; exact (s.servedByte_moves switchAck).lawKeeps
  case repeatedStart target answer => cases h; exact s.repeatStart_lawKeeps target answer
  case transactionStop => cases h; exact s.stopTxn_lawKeeps
  case abnormalEnd => cases h; exact s.abnormal_undisturbed.lawKeeps
  case busRecovery => exact execBusRecovery_lawKeeps h
  case agentTakesPort => cases h; exact s.agentTakes_undisturbed.lawKeeps
  case headerChunk bytes => exact execHeaderChunk_lawKeeps _ h
  case legRecordChunk bytes => exact execLegRecordChunk_lawKeeps _ h
  case ringSlotRead bytes => exact execRingSlotRead_lawKeeps _ h
  case chunkRetry => cases h; exact State.Undisturbed.lawKeeps (.beside rfl rfl rfl rfl rfl rfl rfl fun k => by simpa using k)
  case loadChunkTimeout => exact execLoadChunkTimeout_lawKeeps h
  case reloadLoadStart => exact execReloadLoadStart_lawKeeps h
  case recordWritten => exact execRecordWritten_lawKeeps h
  case failureRecordRetry => exact execFailureRecordRetry_lawKeeps h
  case failureRecordTimeout => exact execFailureRecordTimeout_lawKeeps h
  case chunkNotAcknowledged nackAt => exact execChunkNotAcknowledged_lawKeeps _ h
  all_goals simp [isFabric, isWindowCommand] at hf hw

theorem step_lawKeeps {s t : State} (h : step s = .next t) : s.LawKeeps t := by
  unfold step at h
  split at h
  · cases h
    exact .refl s
  · exact (State.Undisturbed.lawKeeps (s := s) (t := s.popped) (.beside rfl rfl rfl rfl rfl rfl rfl id)).trans (exec_lawKeeps h)

/-- Settles O11: by command; an event of a leg keeps its leg's law and stands beside the others, the reload and the ends of a load put
every leg and lane in order, and the rest leaves the laws' matter as it is. -/
theorem supervisionKept : Obligations.SupervisionKept := by
  intro s t hlegs hplan hlanes h
  obtain ⟨⟨h1, h2, h3⟩, -⟩ := step_lawKeeps h ⟨hlegs, hplan, hlanes⟩
  exact ⟨h1, h2, h3⟩

/-- Settles O12: by command, along with the supervision law. -/
theorem coefficientLawKept : Obligations.CoefficientLawKept := by
  intro s t hlegs hplan hlanes hprofiles hsets h
  obtain ⟨-, hfits⟩ := step_lawKeeps h ⟨hlegs, hplan, hlanes⟩
  obtain ⟨h1, h2⟩ := hfits ⟨hprofiles, hsets⟩
  exact ⟨h1, h2⟩

end Sys2Proof.Machine
end
